-- ==== Sys2Proof/Word.lean ====
section
/-! DEFINITION. The word of the control ports and the value of the time base (R184, R1). -/

namespace Sys2Proof

/-- A word of a control port: 16 bits, bit 15 the most significant (R184). -/
abbrev Word := BitVec 16

/-- A time-base value: an unsigned 32-bit count of milliseconds (R1). -/
abbrev Time := BitVec 32

end Sys2Proof
end

