-- ==== Sys2Proof/Syntax.lean ====
section
/-! DEFINITION. The commands of the MTS-96: one constructor per row of spec/opcode_table.json.

A row is one whole and indivisible step of the part (spec/95_what_each_step_holds.md). Three kinds of row come from
outside: the two edges of RESET and the raw receive leads, the accesses of the control ports, and the changes of PEN. The
others are instants that the part's own time base brings (an expiry, a recognition). A row's operands are what it names:
the circuit, the unit or the slot, and for a port access the lines that the port samples. -/

namespace Sys2Proof

/-- The two control ports (00_scope.md, Capacities). -/
inductive Port | A | B
deriving DecidableEq, Repr

/-- The condition of a lead, ON or OFF (00_scope.md, The setting). -/
inductive Cond | off | on
deriving DecidableEq, Repr

/-- The two selects of a port: WSEL offers a word, RSEL asks for one (R137, R138). -/
inductive Select | write | read
deriving DecidableEq, Repr

/-- The channel of an access, from the CH line (R139). -/
inductive Channel | ch0 | ch1
deriving DecidableEq, Repr

/-- The assertion of WSEL with CH at 0 (R137, R139): the port, the word on DATA, the level of MPERM at that instant, and
whether RSEL is asserted at the same instant beside it (R138). -/
structure OrderWrite where
  port : Port
  data : Word
  mperm : Bool
  beside : Bool
deriving DecidableEq, Repr

/-- The assertion of a select of a port, with the other select asserted at the same instant beside it or not (R137,
R138). -/
structure Assertion where
  port : Port
  beside : Bool
deriving DecidableEq, Repr

/-- The deassertion of a select, with the levels of the port's CH, DATA and MPERM lines at that instant: an access of the
other select that begins then samples them (R137, R138, R144). -/
structure Deassertion where
  select : Select
  ch : Channel
  data : Word
  mperm : Bool
deriving DecidableEq, Repr

/-- The two edges of RESET. Its release samples the raw receive leads (R3). -/
inductive ResetEdge
  | assertion
  | release (leads : BitVec 96)
deriving DecidableEq, Repr

/-- The commands, in the order of spec/opcode_table.json. A `circuit` is 0 to 95, a `unit` and a `slot` 0 to 15;
`WellFormed` checks the ranges. An order row (`seize` to `restartCalls`) is the CH 0 write of the LAST word of that
order, as R137 and R140 list them; the words before it are `orderWord` writes. An access is the assertion of its select,
with the other select beside it or not. `deviceReset` is either edge of RESET, with the levels of the PEN lines, which the
release senses (R144). -/
inductive Instr
  | deviceReset (edge : ResetEdge) (penA penB : Bool)
  | rawLeadChange (lead : Nat) (cond : Cond)
  | recognizedTransition (circuit : Nat)
  | seizureRecognized (circuit : Nat)
  | ackMaxReached (circuit : Nat)
  | ackWaitExpiry (circuit : Nat)
  | prePauseExpiry (circuit : Nat)
  | seizeHoldEnd (circuit : Nat)
  | guardWaitExpiry (circuit : Nat)
  | stallExpiry (circuit : Nat)
  | cbLimitExpiry (circuit : Nat)
  | senderWaitExpiry (circuit : Nat)
  | registerCongestion (circuit : Nat)
  | answerRecognized (circuit : Nat)
  | clearBackRecognized (circuit : Nat)
  | reanswerRecognized (circuit : Nat)
  | clearForwardRecognized (circuit : Nat)
  | ackPulseEnd (circuit : Nat)
  | ackPulseStart (circuit : Nat)
  | answerDue (circuit : Nat)
  | digitTimeout (circuit : Nat)
  | guardSepEnd (circuit : Nat)
  | guardEnd (circuit : Nat)
  | farSeizeBlocked (circuit : Nat)
  | slotExpiry (port : Port) (slot : Nat)
  | parkLimitExpiry (unit : Nat)
  | senderStart (unit : Nat)
  | senderBreakEnd (unit : Nat)
  | senderMakeEnd (unit : Nat)
  | senderPauseEnd (unit : Nat)
  | longBreak (unit : Nat)
  | digitComplete (unit : Nat)
  | seize (w : OrderWrite)
  | addDigits (w : OrderWrite)
  | clear (w : OrderWrite)
  | cancel (w : OrderWrite)
  | releaseRegister (w : OrderWrite)
  | answer (w : OrderWrite)
  | clearBack (w : OrderWrite)
  | readCircuit (w : OrderWrite)
  | readGroup (w : OrderWrite)
  | readUnit (w : OrderWrite)
  | configureGroup (w : OrderWrite)
  | assignCircuit (w : OrderWrite)
  | block (w : OrderWrite)
  | unblock (w : OrderWrite)
  | resetCircuit (w : OrderWrite)
  | unitServiceOff (w : OrderWrite)
  | unitServiceOn (w : OrderWrite)
  | referenceControlApply (w : OrderWrite)
  | referenceControlSet (w : OrderWrite)
  | watchSet (w : OrderWrite)
  | forceSet (w : OrderWrite)
  | restartCalls (w : OrderWrite)
  | orderWord (w : OrderWrite)
  | reportChannelWrite (select : Assertion) (data : Word)
  | resultRead (select : Assertion)
  | reportRead (select : Assertion)
  | selectDeassert (port : Port) (select : Deassertion)
  | penFall (port : Port)
  | penRise (port : Port)
deriving DecidableEq, Repr

end Sys2Proof
end

