-- ==== Sys2Proof/Decode.lean ====
section
/-! DEFINITION. The part has no instruction words: spec/opcode_table.json gives no row any bits, so no word spells a
command (the words of a control port's orders are decoded in Machine/Operands.lean). -/

namespace Sys2Proof

/-- The command that a word spells by the table's bits: none, since the table gives none. -/
def decodeTableWord (_nbits _w : Nat) : Option Instr := none

end Sys2Proof
end

