-- ==== Sys2Proof/Config.lean ====
section
/-! DEFINITION. What the spec leaves open: the model's free values. Neither constant has a body, so no proof can rest on a
value of it. -/

namespace Sys2Proof.Config

/-- Which of several things due at one instant the part takes first, where the spec says that either may be first
(R37, R44, R100, R125, R134 and others). Applied to a fresh count at each choice (log entry 7). -/
opaque raceChoice : Nat → Nat

/-- The threshold held for a recognized interval that began while its circuit was in no group: R2 takes the value of
the circuit's group at the instant the interval begins, and such a circuit has no group (log entry 8).
The arguments are the parameter's place in the table of section 1.6 and the interval's stamp. -/
opaque freeThreshold : Nat → Nat → Nat

end Sys2Proof.Config
end

