-- ==== Sys2Proof/Machine/Params.lean ====
section
/-! DEFINITION. The parameters of a trunk group: the table of section 1.6 (R16), with the order of R184's selectors. -/

namespace Sys2Proof.Machine

/-- The 33 parameters in the order of the table of section 1.6, which is selector order 8 to 40 (R184). -/
inductive Param
  | filt | szRec | ackSend | ackMin | ackMax | ackWait | prePause | minSeize | brkSend | mkSend | idSend | ansRec | cbRec
  | cbLimit | cfRec | sep | guardSend | guardMin | guardWait | regWait | sndWait | fdWait | digWait | parkLimit
  | stallLimit | kId | kBm | applyEvery | track | gate | override | ovrId | ovrBm
deriving DecidableEq, Repr

/-- The parameters in the order of the table of section 1.6 (R16). -/
def Param.all : List Param :=
  [.filt, .szRec, .ackSend, .ackMin, .ackMax, .ackWait, .prePause, .minSeize, .brkSend, .mkSend, .idSend, .ansRec,
   .cbRec, .cbLimit, .cfRec, .sep, .guardSend, .guardMin, .guardWait, .regWait, .sndWait, .fdWait, .digWait,
   .parkLimit, .stallLimit, .kId, .kBm, .applyEvery, .track, .gate, .override, .ovrId, .ovrBm]

/-- A parameter's place in the table, 0 to 32; its selector is this plus 8 (R184). -/
def Param.index : Param → Fin 33
  | .filt => 0 | .szRec => 1 | .ackSend => 2 | .ackMin => 3 | .ackMax => 4 | .ackWait => 5 | .prePause => 6
  | .minSeize => 7 | .brkSend => 8 | .mkSend => 9 | .idSend => 10 | .ansRec => 11 | .cbRec => 12 | .cbLimit => 13
  | .cfRec => 14 | .sep => 15 | .guardSend => 16 | .guardMin => 17 | .guardWait => 18 | .regWait => 19
  | .sndWait => 20 | .fdWait => 21 | .digWait => 22 | .parkLimit => 23 | .stallLimit => 24 | .kId => 25 | .kBm => 26
  | .applyEvery => 27 | .track => 28 | .gate => 29 | .override => 30 | .ovrId => 31 | .ovrBm => 32

/-- The parameter a selector names, 8 to 40 (R184). -/
def Param.ofSelector (sel : Nat) : Option Param :=
  if sel < 8 then none else Param.all[sel - 8]?

/-- The least and the greatest value of a parameter (R16). A switch is 0 for off and 1 for on (R184). cb_limit, whose
range is 0 or 10 to 300, is treated in `Param.clamp`. -/
def Param.range : Param → Nat × Nat
  | .filt => (2, 20) | .szRec => (50, 500) | .ackSend => (50, 200) | .ackMin => (20, 100) | .ackMax => (120, 400)
  | .ackWait => (500, 10000) | .prePause => (0, 2000) | .minSeize => (100, 1000) | .brkSend => (30, 100)
  | .mkSend => (20, 80) | .idSend => (200, 2000) | .ansRec => (50, 1000) | .cbRec => (100, 2000)
  | .cbLimit => (0, 300) | .cfRec => (250, 3000) | .sep => (50, 300) | .guardSend => (100, 1000)
  | .guardMin => (60, 800) | .guardWait => (1000, 30000) | .regWait => (100, 5000) | .sndWait => (1, 30)
  | .fdWait => (1, 60) | .digWait => (1, 60) | .parkLimit => (1, 30) | .stallLimit => (5, 120) | .kId => (24, 64)
  | .kBm => (8, 24) | .applyEvery => (1, 64) | .track => (0, 1) | .gate => (0, 1) | .override => (0, 1)
  | .ovrId => (220, 1000) | .ovrBm => (40, 200)

/-- The default of a parameter, its value after device reset (R16). -/
def Param.default : Param → Nat
  | .filt => 8 | .szRec => 150 | .ackSend => 100 | .ackMin => 40 | .ackMax => 250 | .ackWait => 3000
  | .prePause => 300 | .minSeize => 200 | .brkSend => 60 | .mkSend => 40 | .idSend => 700 | .ansRec => 200
  | .cbRec => 300 | .cbLimit => 0 | .cfRec => 600 | .sep => 100 | .guardSend => 400 | .guardMin => 200
  | .guardWait => 5000 | .regWait => 1500 | .sndWait => 5 | .fdWait => 15 | .digWait => 20 | .parkLimit => 4
  | .stallLimit => 30 | .kId => 48 | .kBm => 16 | .applyEvery => 16 | .track => 1 | .gate => 0 | .override => 0
  | .ovrId => 300 | .ovrBm => 100

/-- Whether a parameter is one of the three switches, which are not clamped (R16). -/
def Param.isSwitch : Param → Bool
  | .track | .gate | .override => true
  | _ => false

/-- The value stored for a written value: the written value inside the range, the nearer end outside it; a cb_limit
from 1 to 9 is stored as 10 (R16). -/
def Param.clamp (p : Param) (v : Nat) : Nat :=
  if p = .cbLimit ∧ 1 ≤ v ∧ v ≤ 9 then 10 else max p.range.1 (min p.range.2 v)

/-- The parameters a group holds, in table order. -/
abbrev Params := Vector Nat 33

/-- Every parameter at its default, as device reset leaves it (R16). -/
def Params.default : Params :=
  ⟨⟨[8, 150, 100, 40, 250, 3000, 300, 200, 60, 40, 700, 200, 300, 0, 600, 100, 400, 200, 5000, 1500, 5, 15, 20, 4, 30,
     48, 16, 16, 1, 0, 0, 300, 100]⟩, rfl⟩

end Sys2Proof.Machine
end

