-- ==== Sys2Proof/Machine/State.lean ====
section
/-! DEFINITION. The state of the MTS-96 as plain data, block by block, and the state after device reset.
A field marked "held (R2)" is the value an interval in progress began with, which R2 makes part of the state of the
block that times it; log entry 20 names the reset values of these fields. -/

namespace Sys2Proof.Machine

/-- Why a command stops. -/
inductive Fault
  /-- The command names a circuit above 95, a digit unit above 15 or a seizure slot above 15: there is none
  (00_scope.md, Capacities). Raised by the commands that carry such a number. Safe: the part has no such thing. -/
  | noSuchNumber
deriving DecidableEq, Repr

/-- Why a command is refused. No meaning of this model refuses. -/
inductive Refusal
  /-- Only an arm of `exec` without a meaning answers it; there is none left. Safe. -/
  | notModelled (mnemonic : String)
deriving DecidableEq, Repr

/-! ## Lead Filter (R3) -/

/-- A raw condition opposite to rec_cond that is being timed: its start and its persistence value (R3, R4). -/
structure Candidate where
  start : Time
  persistence : Nat
deriving DecidableEq, Repr

/-- One filter channel (R3). The raw lead is rec_cond when there is no candidate and its opposite when there is one
(R4), so it needs no field of its own. -/
structure FilterChannel where
  recCond : Cond
  recTime : Time
  cand : Option Candidate
deriving DecidableEq, Repr

/-! ## Circuit Table (R17, R18, R41, R65, R90, R169) -/

/-- The supervision states (R18). -/
inductive CircuitState
  | unequipped | blocked | fault | idle | outSeizing | outSending | outWaitAnswer | outAnswered | outClearedBack
  | outReleasing | inPreseize | inSeized | inReceiving | inHeld | inAnswered | inClearedBack | inGuard
deriving DecidableEq, Repr

/-- Start mode of a group, or of a call (R17, R20). -/
inductive StartMode | ackStart | timedStart
deriving DecidableEq, Repr

/-- Direction of the current or last call (R17). -/
inductive CallDir | none | outgoing | incoming
deriving DecidableEq, Repr

/-- The class of a unit request (R104, R106). -/
inductive UnitClass | register | sender
deriving DecidableEq, Repr

/-- glare_phase (R90). -/
inductive GlarePhase | none | holding | farCleared | yielded
deriving DecidableEq, Repr

/-- cause (R17, R61), with the codes of R185. -/
inductive Cause
  | none | lineFault | noProceed | senderCongestion | stall | cbLimit | glareUnresolved | guardFailed
deriving DecidableEq, Repr

/-- A seizure slot of a port: A0 to A15, B0 to B15 (R30). -/
structure SlotId where
  port : Port
  num : Fin 16
deriving DecidableEq, Repr

/-- A running interval: its start time and its value in milliseconds (R17, R40). -/
structure Timer where
  start : Time
  value : Nat
deriving DecidableEq, Repr

/-- unit_req: class and instant of the request (R17), and the snd_wait or reg_wait held with the wait (R2). -/
structure UnitReq where
  cls : UnitClass
  time : Time
  wait : Nat
deriving DecidableEq, Repr

/-- The thresholds a recognized interval is timed against, held from its beginning (R2, R6, R42, R59, R82). -/
structure Held where
  ackMin : Nat
  ackMax : Nat
  ansRec : Nat
  cbRec : Nat
  cfRec : Nat
  guardMin : Nat
deriving DecidableEq, Repr

/-- The acknowledgement pulse of an incoming call: not sent, to begin at an instant (R95), running, or ended. -/
inductive AckPulse
  | none
  | scheduled (start : Time)
  | running
  | ended
deriving DecidableEq, Repr

/-- One circuit record with the state of its supervision machine. -/
structure Circuit where
  state : CircuitState
  group : Option (Fin 8)
  /-- trunk_no, 0 to 999 (R17, R23) -/
  trunkNo : Nat
  owner : Option Port
  blockPending : Bool
  callDir : CallDir
  callStart : Option StartMode
  digits : List (Fin 10)
  sent : Nat
  eon : Bool
  unit : Option (Fin 16)
  unitReq : Option UnitReq
  slot : Option SlotId
  answered : Bool
  ansTime : Time
  lastBrkEnd : Time
  cause : Cause
  timer : Option Timer
  /-- call fields of later chapters (R41, R65, R90, R169) -/
  seizeTime : Time
  ackEnd : Option Time
  ansDue : Option Time
  glarePhase : GlarePhase
  glareTime : Option Time
  relTime : Option Time
  /-- the condition the supervision machine holds for the send lead (R8) -/
  sup : Cond
  /-- the acknowledgement pulse (R72, R73, R95) -/
  ackPulse : AckPulse
  /-- the present recognized ON was there at the seizure (R42), or at the entry to OUT_RELEASING (R59, R170; log entry
  19) -/
  presentOn : Bool
  /-- held (R2): thresholds of the present recognized interval; absent where it began in no group -/
  held : Option Held
  /-- held (R2): ack_max at seize_time, for an ON present at the seizure (R88) -/
  seizeAckMax : Nat
  /-- held (R2): min_seize at seize_time (R58) -/
  minSeize : Nat
  /-- held (R2): pre_pause at seize_time (R47) -/
  prePause : Nat
  /-- held (R2): id_send at last_brk_end (R47) -/
  idSend : Nat
  /-- held (R2): the instant the supervision condition last went from ON to OFF, with sep at that instant (R84) -/
  lastOff : Option Timer
  /-- held (R2): sep at ack_end (R79) -/
  ackEndSep : Nat
  /-- held (R2): sep at glare_time (R95) -/
  glareSep : Nat
deriving DecidableEq, Repr

/-- A circuit record after device reset (R17, R41, R65, R90, R169). -/
def Circuit.reset : Circuit :=
  { state := .unequipped, group := none, trunkNo := 0, owner := none, blockPending := false, callDir := .none
    callStart := none, digits := [], sent := 0, eon := false, unit := none, unitReq := none, slot := none
    answered := false, ansTime := 0, lastBrkEnd := 0, cause := .none, timer := none, seizeTime := 0, ackEnd := none
    ansDue := none, glarePhase := .none, glareTime := none, relTime := none, sup := .off, ackPulse := .none
    presentOn := false, held := none, seizeAckMax := 0, minSeize := 0, prePause := 0, idSend := 0, lastOff := none
    ackEndSep := 0, glareSep := 0 }

/-! ## Group Table and Pulse Timing Reference (R20, R123) -/

/-- direction of a group (R20). -/
inductive Direction | none | outgoing | incoming | bothway
deriving DecidableEq, Repr

/-- hunt_mode (R20, R26). -/
inductive HuntMode | lowFirst | highFirst | longestIdle
deriving DecidableEq, Repr

/-- glare_rule (R20, R89). -/
inductive GlareRule | priorityAll | priorityNone | priorityEven | priorityOdd
deriving DecidableEq, Repr

/-- distribution (R20, R29). -/
inductive Distribution | fixedA | fixedB | alternate
deriving DecidableEq, Repr

/-- A group's Pulse Timing Reference (R123): ref in sixteenths of a millisecond, the lock and its runs, since_apply, and
the applied thresholds in milliseconds. -/
structure Reference where
  ref : Nat
  locked : Bool
  inRun : Nat
  outRun : Nat
  sinceApply : Nat
  tBm : Nat
  tId : Nat
deriving DecidableEq, Repr

/-- A reference after device reset (R123). -/
def Reference.reset : Reference :=
  { ref := 1600, locked := false, inRun := 0, outRun := 0, sinceApply := 0, tBm := 100, tId := 300 }

/-- One group record (R20): structural fields, parameters, idle list, wait queue and reference. -/
structure Group where
  direction : Direction
  startMode : StartMode
  huntMode : HuntMode
  glareRule : GlareRule
  distribution : Distribution
  nextPort : Port
  params : Params
  /-- head first (R24) -/
  idle : List (Fin 96)
  /-- head first (R33) -/
  queue : List SlotId
  reference : Reference
deriving DecidableEq, Repr

/-- A group after device reset (R20). -/
def Group.reset : Group :=
  { direction := .none, startMode := .ackStart, huntMode := .lowFirst, glareRule := .priorityNone
    distribution := .alternate, nextPort := .A, params := Params.default, idle := [], queue := []
    reference := Reference.reset }

/-! ## Seizure slots (R30) -/

/-- What a slot keeps while it is not FREE: tag, group, original wait in seconds, glare_count (R30). -/
structure SlotCall where
  tag : BitVec 8
  group : Fin 8
  wait : Nat
  glareCount : Nat
deriving DecidableEq, Repr

/-- The outcome of a slot in OUTCOME (R30). -/
inductive SlotOutcome
  | seized (circuit : Fin 96)
  | expired
  | glareFailed
deriving DecidableEq, Repr

/-- A seizure slot: its state with the fields held in it (R30). -/
inductive Slot
  | free
  | waiting (call : SlotCall) (digits : List (Fin 10)) (eon : Bool) (expiry : Time)
  | seizing (call : SlotCall) (circuit : Fin 96)
  | outcome (call : SlotCall) (result : SlotOutcome)
deriving DecidableEq, Repr

/-! ## Digit units (R102, R103) -/

/-- Substates of a sender (R102). -/
inductive SenderSub | waitStart | inBreak | inMake | pause | parked
deriving DecidableEq, Repr

/-- Substates of a register (R102). -/
inductive RegisterSub | waitDigit | inBreak | inMake
deriving DecidableEq, Repr

/-- State and substate of a unit (R102). -/
inductive UnitState
  | free
  | outOfService
  | sender (sub : SenderSub)
  | register (sub : RegisterSub)
deriving DecidableEq, Repr

/-- One digit unit's record (R103). -/
structure DigitUnit where
  state : UnitState
  circuit : Option (Fin 96)
  count : Nat
  brkStart : Option Time
  prevBrkStart : Option Time
  subEnd : Option Time
  longBrk : Bool
  attachTime : Time
  parkTime : Option Time
  pendingOos : Bool
  /-- the pulse number n of the digit being sent, read at its start (R117) -/
  pulses : Nat
deriving DecidableEq, Repr

/-- A unit after device reset (R103). -/
def DigitUnit.reset : DigitUnit :=
  { state := .free, circuit := none, count := 0, brkStart := none, prevBrkStart := none, subEnd := none
    longBrk := false, attachTime := 0, parkTime := none, pendingOos := false, pulses := 0 }

/-- An entry of the unit request queue: the circuit and the instant of its request (R106). The queue is kept as
one list for each class. -/
structure QueueEntry where
  circuit : Fin 96
  time : Time
deriving DecidableEq, Repr

/-! ## Report Unit (R152, R156) and ports (R136) -/

/-- A reportable item of a port (R152); a slot is one of the port's own. -/
inductive Item
  | circuit (c : Fin 96)
  | slot (n : Fin 16)
  | group (g : Fin 8)
  | watch (w : Fin 8)
deriving DecidableEq, Repr

/-- A pending set: a set of event kinds as the bits of the event words of R186 (the first word in bits 31 to 16, a
circuit's second word in bits 15 to 0; log entry 18), and the discarded count held with answered (R152), 0 without
it. -/
structure EventSet where
  bits : BitVec 32
  discarded : Nat
deriving DecidableEq, Repr

/-- The empty pending set. -/
def EventSet.empty : EventSet := { bits := 0, discarded := 0 }

/-- A report being read: the item, the snapshot's words, the position of the next word from 1, the events that an
abandonment merges back, and the merge flag (R156, R159). -/
structure ReportRead where
  item : Item
  words : List Word
  position : Nat
  events : EventSet
  merge : Bool
deriving DecidableEq, Repr

/-- The condition of the current word transfer (R136). A port REPLYING to a read drives DATA and LAST (R138). -/
inductive Handshake
  | quiet
  | replyingWrite
  | replyingRead (data : Word) (last : Bool)
deriving DecidableEq, Repr

/-- Order assembly (R136, R140): the words taken so far, in order, and the count expected. -/
inductive Assembly
  | empty
  | assembling (words : List Word) (count : Nat)
deriving DecidableEq, Repr

/-- One control port with its seizure slots and its part of the Report Unit. ATTN, REPLY, LAST and DATA are read off
it (`State.attn`, `State.reply`, `State.dataOut`). -/
structure PortRecord where
  /-- the level of PEN as the port sees it (R136, R144) -/
  enabled : Bool
  /-- the level of WSEL as the port sees it (R137) -/
  wsel : Bool
  /-- the level of RSEL as the port sees it (R138) -/
  rsel : Bool
  handshake : Handshake
  assembly : Assembly
  /-- the result block; empty only while an order is in assembly, its first word having discarded it (R140; log entry 15) -/
  result : List Word
  /-- from 1 (R136) -/
  resultPos : Nat
  report : Option ReportRead
  slots : Vector Slot 16
  /-- the pending sets: circuits at 0 to 95, slots at 96 to 111, groups at 112 to 119, watch channels at 120 to 127 -/
  pend : Vector EventSet 128
  /-- the attention list, head first (R155) -/
  attention : List Item
deriving DecidableEq, Repr

/-- A port after device reset with PEN deasserted (R30, R136, R152); the one result word is NO_RESULT. -/
def PortRecord.reset : PortRecord :=
  { enabled := false, wsel := false, rsel := false, handshake := .quiet, assembly := .empty, result := [0#16]
    resultPos := 1, report := none, slots := Vector.replicate 16 .free, pend := Vector.replicate 128 EventSet.empty
    attention := [] }

/-! ## Line Test Matrix (R177, R180) -/

/-- Transitions that match a watch channel (R177). -/
inductive Edge | toOn | toOff | any
deriving DecidableEq, Repr

/-- Ports to which matched is routed (R177). -/
inductive ReportTo | none | A | B | both
deriving DecidableEq, Repr

/-- What a match does to the target force channel (R177). -/
inductive Action | none | set | clear | toggle
deriving DecidableEq, Repr

/-- A watch channel (R177). -/
structure WatchChannel where
  enable : Bool
  circuit : Fin 96
  edge : Edge
  reportTo : ReportTo
  action : Action
  target : Fin 8
  matchCount : Nat
deriving DecidableEq, Repr

/-- A watch channel after device reset (R177). -/
def WatchChannel.reset : WatchChannel :=
  { enable := false, circuit := 0, edge := .toOn, reportTo := .none, action := .none, target := 0, matchCount := 0 }

/-- A force channel (R180). -/
structure ForceChannel where
  enable : Bool
  circuit : Fin 96
  value : Cond
deriving DecidableEq, Repr

/-- A force channel after device reset (R180). -/
def ForceChannel.reset : ForceChannel := { enable := false, circuit := 0, value := .off }

/-! ## The whole part -/

/-- The state of the part, with the queue of commands that wait (first in, first out) and the model's own count of the
free choices made (log entries 1 and 7). -/
structure State where
  /-- the level of RESET (R136) -/
  resetAsserted : Bool
  timeBase : Time
  filters : Vector FilterChannel 96
  circuits : Vector Circuit 96
  groups : Vector Group 8
  units : Vector DigitUnit 16
  /-- the unit request queue, REGISTER class (R106) -/
  regQueue : List QueueEntry
  /-- the unit request queue, SENDER class (R106) -/
  sndQueue : List QueueEntry
  /-- the parked list (R111) -/
  parked : List (Fin 16)
  portA : PortRecord
  portB : PortRecord
  watches : Vector WatchChannel 8
  forces : Vector ForceChannel 8
  pending : List Instr
  choices : Nat
deriving DecidableEq, Repr

/-- The part right after device reset, with every raw receive lead OFF and both PEN lines deasserted (log entry 3). -/
def State.reset : State :=
  { resetAsserted := false, timeBase := 0
    filters := Vector.replicate 96 { recCond := .off, recTime := 0, cand := none }
    circuits := Vector.replicate 96 Circuit.reset
    groups := Vector.replicate 8 Group.reset
    units := Vector.replicate 16 DigitUnit.reset
    regQueue := [], sndQueue := [], parked := []
    portA := PortRecord.reset, portB := PortRecord.reset
    watches := Vector.replicate 8 WatchChannel.reset
    forces := Vector.replicate 8 ForceChannel.reset
    pending := [], choices := 0 }

end Sys2Proof.Machine
end

