-- ==== Sys2Proof/Machine/Ops.lean ====
section
/-! DEFINITION. The named operations over the state: the time base's arithmetic, reading and changing one record, and the
small tests that many rules share. -/

namespace Sys2Proof.Machine

/-! ## Numbering -/

/-- Circuits 0 to 95 in ascending order. -/
def allCircuits : List (Fin 96) := List.finRange 96

/-- Groups, watch channels and force channels 0 to 7 in ascending order. -/
def allEight : List (Fin 8) := List.finRange 8

/-- Units 0 to 15, or the slots of one port, in ascending order. -/
def allSixteen : List (Fin 16) := List.finRange 16

/-- The circuit numbered `n`, if the part has it: 0 to 95. -/
def circuitOf (n : Nat) : Option (Fin 96) := if h : n < 96 then some ⟨n, h⟩ else none

/-- The group, watch channel or force channel numbered `n`, if the part has it: 0 to 7. -/
def eightOf (n : Nat) : Option (Fin 8) := if h : n < 8 then some ⟨n, h⟩ else none

/-- The unit or slot numbered `n`, if the part has it: 0 to 15. -/
def sixteenOf (n : Nat) : Option (Fin 16) := if h : n < 16 then some ⟨n, h⟩ else none

/-- The other port. -/
def otherPort : Port → Port
  | .A => .B
  | .B => .A

/-- The opposite condition of a lead. -/
def oppositeCond : Cond → Cond
  | .on => .off
  | .off => .on

/-! ## The time base (R1) -/

/-- The milliseconds from `start` to `now`, modulo 2^32 (R1). -/
def elapsed (now start : Time) : Nat := (now - start).toNat

/-- The time-base value `n` milliseconds after `t` (R1). -/
def timeAfter (t : Time) (n : Nat) : Time := t + BitVec.ofNat 32 n

/-- Whether the time base has come to the instant `t`. No interval of the part is longer than 300000 ms (R1), so a
difference below 2^31 means that `t` is past or present (log entry 9). -/
def reached (now t : Time) : Bool := decide ((now - t).toNat < 2 ^ 31)

/-- The later of `now` and the instant `n` milliseconds after `t`, an instant not after `now`. -/
def laterOf (now t : Time) (n : Nat) : Time := if elapsed now t < n then timeAfter t n else now

/-- Whether a running interval has reached its value (00_scope.md, Timers). -/
def timerDue (now : Time) : Option Timer → Bool
  | some k => decide (k.value ≤ elapsed now k.start)
  | none => false

/-- Whether a time-base value that may be absent is present and has come. -/
def instantDue (now : Time) : Option Time → Bool
  | some t => reached now t
  | none => false

/-! ## Records -/

/-- The record of a circuit. -/
def State.circuit (s : State) (c : Fin 96) : Circuit := s.circuits[c]

/-- The filter channel of a circuit's receive lead. -/
def State.filter (s : State) (c : Fin 96) : FilterChannel := s.filters[c]

/-- The record of a group. -/
def State.group (s : State) (g : Fin 8) : Group := s.groups[g]

/-- The record of a digit unit. -/
def State.unit (s : State) (u : Fin 16) : DigitUnit := s.units[u]

/-- A watch channel. -/
def State.watch (s : State) (w : Fin 8) : WatchChannel := s.watches[w]

/-- A force channel. -/
def State.force (s : State) (f : Fin 8) : ForceChannel := s.forces[f]

/-- A control port. -/
def State.port (s : State) : Port → PortRecord
  | .A => s.portA
  | .B => s.portB

/-- A seizure slot. -/
def State.slot (s : State) (id : SlotId) : Slot := (s.port id.port).slots[id.num]

/-- Change one circuit record. -/
def State.modCircuit (s : State) (c : Fin 96) (f : Circuit → Circuit) : State :=
  { s with circuits := s.circuits.set c (f (s.circuit c)) }

/-- Write one filter channel. -/
def State.setFilter (s : State) (c : Fin 96) (k : FilterChannel) : State :=
  { s with filters := s.filters.set c k }

/-- Change one group record. -/
def State.modGroup (s : State) (g : Fin 8) (f : Group → Group) : State :=
  { s with groups := s.groups.set g (f (s.group g)) }

/-- Change one unit record. -/
def State.modUnit (s : State) (u : Fin 16) (f : DigitUnit → DigitUnit) : State :=
  { s with units := s.units.set u (f (s.unit u)) }

/-- Write one watch channel. -/
def State.setWatch (s : State) (w : Fin 8) (k : WatchChannel) : State :=
  { s with watches := s.watches.set w k }

/-- Write one force channel. -/
def State.setForce (s : State) (f : Fin 8) (k : ForceChannel) : State :=
  { s with forces := s.forces.set f k }

/-- Change one port. -/
def State.modPort (s : State) (p : Port) (f : PortRecord → PortRecord) : State :=
  match p with
  | .A => { s with portA := f s.portA }
  | .B => { s with portB := f s.portB }

/-- Write one slot. -/
def State.setSlot (s : State) (id : SlotId) (k : Slot) : State :=
  s.modPort id.port fun r => { r with slots := r.slots.set id.num k }

/-! ## Small tests -/

/-- A parameter of a group. -/
def Group.par (g : Group) (p : Param) : Nat := g.params[p.index]

/-- A parameter of the circuit's group; of a circuit in no group the table's default, as R4 gives it for filt (a
circuit in no group uses no other parameter). -/
def State.par (s : State) (c : Fin 96) (p : Param) : Nat :=
  match (s.circuit c).group with
  | some g => (s.group g).par p
  | none => p.default

/-- The start mode of the circuit's group. -/
def State.startMode (s : State) (c : Fin 96) : StartMode :=
  match (s.circuit c).group with
  | some g => (s.group g).startMode
  | none => .ackStart

/-- The direction of the circuit's group; NONE for a circuit in no group. -/
def State.direction (s : State) (c : Fin 96) : Direction :=
  match (s.circuit c).group with
  | some g => (s.group g).direction
  | none => .none

/-- Whether a group of this direction carries incoming calls (R18, R25). -/
def Direction.incomingCapable : Direction → Bool
  | .incoming | .bothway => true
  | .none | .outgoing => false

/-- Whether a group of this direction carries outgoing calls (R18, R35). -/
def Direction.outgoingCapable : Direction → Bool
  | .outgoing | .bothway => true
  | .none | .incoming => false

/-- Whether a circuit's receive lead is recognized ON. -/
def State.leadOn (s : State) (c : Fin 96) : Bool := (s.filter c).recCond = .on

/-- The milliseconds the present recognized condition of a circuit's receive lead has lasted (R6). -/
def State.recFor (s : State) (c : Fin 96) : Nat := elapsed s.timeBase (s.filter c).recTime

/-- The members of a group: the circuits whose group field names it (R20). -/
def State.members (s : State) (g : Fin 8) : List (Fin 96) :=
  allCircuits.filter fun c => (s.circuit c).group = some g

/-- Whether a circuit's digit string has a digit left to send (R46). -/
def Circuit.digitLeft (k : Circuit) : Bool := k.sent < k.digits.length

/-- The thresholds of the group at an instant, as an interval that begins then holds them (R2); none in no group. -/
def State.thresholds (s : State) (c : Fin 96) : Option Held :=
  match (s.circuit c).group with
  | some g =>
    let k := s.group g
    some { ackMin := k.par .ackMin, ackMax := k.par .ackMax, ansRec := k.par .ansRec, cbRec := k.par .cbRec
           cfRec := k.par .cfRec, guardMin := k.par .guardMin }
  | none => none

/-- A threshold that no group gave: a free value within the parameter's range of R16 (log entry 8). -/
def freeParam (p : Param) (stamp : Time) : Nat :=
  p.range.1 + Config.freeThreshold p.index stamp.toNat % (p.range.2 - p.range.1 + 1)

/-- The thresholds that the present recognized interval of a circuit's receive lead is timed against. -/
def State.heldOf (s : State) (c : Fin 96) : Held :=
  match (s.circuit c).held with
  | some h => h
  | none =>
    let t := (s.filter c).recTime
    { ackMin := freeParam .ackMin t, ackMax := freeParam .ackMax t, ansRec := freeParam .ansRec t
      cbRec := freeParam .cbRec t, cfRec := freeParam .cfRec t, guardMin := freeParam .guardMin t }

/-- Whether a circuit's supervision timer has reached its value. -/
def State.timerDue (s : State) (c : Fin 96) : Bool := Machine.timerDue s.timeBase (s.circuit c).timer

/-- Start a circuit's supervision timer now with a value (00_scope.md, Timers). -/
def State.startTimer (s : State) (c : Fin 96) (value : Nat) : State :=
  s.modCircuit c fun k => { k with timer := some { start := s.timeBase, value := value } }

/-- The supervision machine gives its circuit's send lead a condition (R8). Where that takes it from ON to OFF, the
instant is held with the sep of that instant (R2, R84). -/
def State.drive (s : State) (c : Fin 96) (cond : Cond) : State :=
  s.modCircuit c fun k =>
    { k with
      sup := cond
      lastOff := if k.sup = .on ∧ cond = .off then some { start := s.timeBase, value := s.par c .sep } else k.lastOff }

/-! ## How a command runs -/

/-- A command acts unless RESET is asserted: until its release only RESET itself acts on the part (R136; log entry 3). -/
def unlessReset (act : State → State) (s : State) : Host.Outcome State Fault Refusal :=
  .next (if s.resetAsserted then s else act s)

/-- A step on a circuit: it comes about when its condition holds, and otherwise does not happen (log entry 2). -/
def onCircuit (n : Nat) (due : Fin 96 → State → Bool) (act : Fin 96 → State → State) (s : State) :
    Host.Outcome State Fault Refusal :=
  match circuitOf n with
  | some c => unlessReset (fun s => if due c s then act c s else s) s
  | none => .fault .noSuchNumber

/-- A step on a digit unit: it comes about when its condition holds, and otherwise does not happen (log entry 2). -/
def onUnit (n : Nat) (due : Fin 16 → State → Bool) (act : Fin 16 → State → State) (s : State) :
    Host.Outcome State Fault Refusal :=
  match sixteenOf n with
  | some u => unlessReset (fun s => if due u s then act u s else s) s
  | none => .fault .noSuchNumber

end Sys2Proof.Machine
end

