-- ==== Sys2Proof/Machine/Driver.lean ====
section
/-! DEFINITION. The Lead Driver (R7 to R9): which source each send lead follows. It holds no state of its own, so the
send leads are functions of the state. -/

namespace Sys2Proof.Machine

/-- The source of a send lead (R7, R146). -/
inductive Source
  | supervision
  | sender
  | force (channel : Fin 8)
deriving DecidableEq, Repr

/-- The lowest-numbered enabled force channel that names a circuit (R7 step 1). -/
def State.forcing (s : State) (c : Fin 96) : Option (Fin 8) :=
  allEight.find? fun f => (s.force f).enable ∧ (s.force f).circuit = c

/-- The condition a sender gives its circuit's lead: OFF in BREAK, ON in MAKE and PAUSE, none in WAIT_START and PARKED
(R7 step 2, R102). -/
def SenderSub.drives : SenderSub → Option Cond
  | .inBreak => some .off
  | .inMake | .pause => some .on
  | .waitStart | .parked => none

/-- The condition the unit attached to a circuit gives its send lead, if it gives one (R7 step 2). -/
def State.senderDrive (s : State) (c : Fin 96) : Option Cond :=
  match (s.circuit c).unit with
  | some u =>
    match (s.unit u).state with
    | .sender sub => sub.drives
    | .free | .outOfService | .register _ => none
  | none => none

/-- The source of a circuit's send lead: tested from the top as R7 states. -/
def State.leadSource (s : State) (c : Fin 96) : Source :=
  match if (s.circuit c).state = .blocked then s.forcing c else none with
  | some f => .force f
  | none =>
    match s.senderDrive c with
    | some _ => .sender
    | none => .supervision

/-- The condition of a circuit's send lead (R7). -/
def State.sendLead (s : State) (c : Fin 96) : Cond :=
  match if (s.circuit c).state = .blocked then s.forcing c else none with
  | some f => (s.force f).value
  | none =>
    match s.senderDrive c with
    | some cond => cond
    | none => (s.circuit c).sup

end Sys2Proof.Machine
end

