-- ==== Sys2Proof/Machine/Flags.lean ====
section
/-! DEFINITION. Events: the pending sets, the attention lists and the routing of events (R152 to R155), with the bits of
the event words (R186), and the lines a port drives. -/

namespace Sys2Proof.Machine

/-- The events of the part (R154). -/
inductive Event
  | proceed | digitsSent | answered | clearedBack | reanswered | seizeFailed | autoCleared | released | guardFailed
  | offered | registerCongestion | digitsLost | digit | digitOverflow | digitTimeout | clearedForward
  | pulseError | glareWon | glareLost | transferred | farSeizeBlocked | lateGuard
  | seized | rehunted | expired | glareQueued | glareFailed
  | locked | unlocked | applied
  | matched
deriving DecidableEq, Repr

/-- The bit of an event in a pending set: its bit in the event words of R186, the first word in bits 31 to 16 and a
circuit's second word in bits 15 to 0. -/
def Event.bit : Event → Nat
  | .proceed => 31 | .digitsSent => 30 | .answered => 29 | .clearedBack => 28 | .reanswered => 27
  | .seizeFailed => 26 | .autoCleared => 25 | .released => 24 | .guardFailed => 23 | .offered => 22
  | .registerCongestion => 21 | .digitsLost => 20 | .digit => 19 | .digitOverflow => 18 | .digitTimeout => 17
  | .clearedForward => 16
  | .pulseError => 15 | .glareWon => 14 | .glareLost => 13 | .transferred => 12 | .farSeizeBlocked => 11
  | .lateGuard => 10
  | .seized => 31 | .rehunted => 30 | .expired => 29 | .glareQueued => 28 | .glareFailed => 27
  | .locked => 31 | .unlocked => 30 | .applied => 29
  | .matched => 31

/-- The set of one event. -/
def Event.mask (e : Event) : BitVec 32 := BitVec.ofNat 32 (2 ^ e.bit)

/-- Whether a pending set holds an event. -/
def EventSet.has (k : EventSet) (e : Event) : Bool := (k.bits &&& e.mask) ≠ 0

/-- A pending set with an event added (R153). -/
def EventSet.add (k : EventSet) (e : Event) : EventSet := { k with bits := k.bits ||| e.mask }

/-- A pending set with an event removed (R96). -/
def EventSet.remove (k : EventSet) (e : Event) : EventSet := { k with bits := k.bits &&& ~~~e.mask }

/-- A pending set with answered added and its discarded count set to that of the answered just raised (R153). -/
def EventSet.addAnswered (k : EventSet) (discarded : Nat) : EventSet :=
  { bits := k.bits ||| Event.answered.mask, discarded := discarded }

/-- The union of two pending sets. Where the first holds answered, its discarded count is the one kept; the caller
puts first the set whose count R149 or R159 keeps. -/
def EventSet.union (first second : EventSet) : EventSet :=
  { bits := first.bits ||| second.bits
    discarded := if first.has .answered then first.discarded else second.discarded }

/-- The place of an item among the pending sets of a port. -/
def Item.index : Item → Fin 128
  | .circuit c => ⟨c.val, by omega⟩
  | .slot n => ⟨96 + n.val, by omega⟩
  | .group g => ⟨112 + g.val, by omega⟩
  | .watch w => ⟨120 + w.val, by omega⟩

/-- The pending set of an item for a port. -/
def PortRecord.pendOf (r : PortRecord) (it : Item) : EventSet := r.pend[it.index]

/-- Write the pending set of an item for a port. -/
def PortRecord.setPend (r : PortRecord) (it : Item) (k : EventSet) : PortRecord :=
  { r with pend := r.pend.set it.index k }

/-- The item joins the tail of the port's attention list if it is not on it, and keeps its place if it is (R153). -/
def PortRecord.join (r : PortRecord) (it : Item) : PortRecord :=
  { r with attention := if r.attention.contains it then r.attention else r.attention ++ [it] }

/-- The item leaves the port's attention list, wherever it stands; the items behind keep their order (R155). -/
def PortRecord.leave (r : PortRecord) (it : Item) : PortRecord :=
  { r with attention := r.attention.filter fun x => x ≠ it }

/-- Change an item's pending set for a port by an event, and put the item on the port's list (R153). -/
def State.raiseWith (s : State) (p : Port) (it : Item) (f : EventSet → EventSet) : State :=
  s.modPort p fun r => (r.setPend it (f (r.pendOf it))).join it

/-- Raise an event on an item for one port (R153). -/
def State.raiseAt (s : State) (p : Port) (it : Item) (e : Event) : State := s.raiseWith p it (·.add e)

/-- Raise an event on an item for both ports (R153). -/
def State.raiseBoth (s : State) (it : Item) (e : Event) : State := (s.raiseAt .A it e).raiseAt .B it e

/-- Raise an event on a circuit: routed to its owner, or to both ports if it has none (R154). -/
def State.raiseCircuit (s : State) (c : Fin 96) (e : Event) : State :=
  match (s.circuit c).owner with
  | some p => s.raiseAt p (.circuit c) e
  | none => s.raiseBoth (.circuit c) e

/-- Raise answered on a circuit with its discarded count (R53, R153, R154). -/
def State.raiseAnswered (s : State) (c : Fin 96) (discarded : Nat) : State :=
  match (s.circuit c).owner with
  | some p => s.raiseWith p (.circuit c) (·.addAnswered discarded)
  | none =>
    (s.raiseWith .A (.circuit c) (·.addAnswered discarded)).raiseWith .B (.circuit c) (·.addAnswered discarded)

/-- Raise an event on a slot: routed to the slot's own port (R154). -/
def State.raiseSlot (s : State) (id : SlotId) (e : Event) : State := s.raiseAt id.port (.slot id.num) e

/-- Raise an event on a group: routed to both ports (R154). -/
def State.raiseGroup (s : State) (g : Fin 8) (e : Event) : State := s.raiseBoth (.group g) e

/-- Raise matched on a watch channel for the ports its report_to names (R154, R178). -/
def State.raiseMatched (s : State) (w : Fin 8) (dest : ReportTo) : State :=
  match dest with
  | .none => s
  | .A => s.raiseAt .A (.watch w) .matched
  | .B => s.raiseAt .B (.watch w) .matched
  | .both => s.raiseBoth (.watch w) .matched

/-! ## The lines a port drives (R136 to R138, R155) -/

/-- ATTN of a port is asserted while its attention list is not empty, whatever PEN and MPERM (R155), and deasserted while
RESET is asserted (R136). -/
def State.attn (s : State) (p : Port) : Bool := !s.resetAsserted && !(s.port p).attention.isEmpty

/-- REPLY of a port is asserted while it is REPLYING (R137, R138), and deasserted while RESET is asserted (R136). -/
def State.reply (s : State) (p : Port) : Bool := !s.resetAsserted && (s.port p).handshake ≠ .quiet

/-- The word and LAST that a port drives, while it replies to a read (R138); none while RESET is asserted (R136). -/
def State.dataOut (s : State) (p : Port) : Option (Word × Bool) :=
  if s.resetAsserted then none
  else
    match (s.port p).handshake with
    | .replyingRead d last => some (d, last)
    | .quiet | .replyingWrite => none

end Sys2Proof.Machine
end

