-- ==== Sys2Proof/Machine/Units.lean ====
section
/-! DEFINITION. The Digit Unit Pool and Unit Arbiter (R102 to R116): requests, attachment, detachment, parking and
reclaim, with the start of a sender's digit (R47, R117) and the acknowledgement that an attached register sends (R72, R95). -/

namespace Sys2Proof.Machine

/-! ## A sender begins a digit -/

/-- The start instant of a sender's next digit (R47, R117), decided at the present instant, which is proceed or the
sender's attachment or resumption: for the first digit the latest of these and seize_time + pre_pause, for a
later digit the latest of these and last_brk_end + id_send. -/
def startInstant (c : Fin 96) (s : State) : Time :=
  let k := s.circuit c
  if k.sent = 0 then laterOf s.timeBase k.seizeTime k.prePause else laterOf s.timeBase k.lastBrkEnd k.idSend

/-- The pulse number of a digit: its value from 1 to 9, or 10 for digit 0 (R117). -/
def pulseNumber (d : Fin 10) : Nat := if d.val = 0 then 10 else d.val

/-- A sender enters BREAK for the digit at position sent + 1 (R117). brk_start takes the instant as R103 gives the
field (log entry 11). -/
def beginDigit (u : Fin 16) (c : Fin 96) (s : State) : State :=
  match (s.circuit c).digits[(s.circuit c).sent]? with
  | some d =>
    s.modUnit u fun k =>
      { k with state := .sender .inBreak, count := 1, pulses := pulseNumber d, brkStart := some s.timeBase
               prevBrkStart := none, subEnd := some (timeAfter s.timeBase (s.par c .brkSend)) }
  | none => s

/-- A sender's start instant is decided: it enters BREAK at once if it has come, and otherwise waits in WAIT_START to
it (R117). -/
def decideStart (u : Fin 16) (c : Fin 96) (s : State) : State :=
  let t := startInstant c s
  if t = s.timeBase then beginDigit u c s
  else s.modUnit u fun k => { k with state := .sender .waitStart, subEnd := some t }

/-! ## Attachment (R104) -/

/-- A unit attached as SENDER enters WAIT_START; in OUT_SENDING with a digit left its start instant is decided
(R104, R117). -/
def attachSender (u : Fin 16) (c : Fin 96) (s : State) : State :=
  let s := s.modUnit u fun k => { k with state := .sender .waitStart, count := 0, subEnd := none }
  if (s.circuit c).state = .outSending ∧ (s.circuit c).digitLeft then decideStart u c s else s

/-- The acknowledgement of an ACK_START group (R72): ON at the attachment for ack_send, or, on a call that began by a
yield, not before glare_time + sep (R95), with the ack_send of the attachment (log entry 12). -/
def acknowledge (c : Fin 96) (s : State) : State :=
  let k := s.circuit c
  let early : Option Time :=
    match k.glarePhase, k.glareTime with
    | .yielded, some t => if elapsed s.timeBase t < k.glareSep then some (timeAfter t k.glareSep) else none
    | _, _ => none
  match early with
  | some t =>
    s.modCircuit c fun k =>
      { k with ackPulse := .scheduled t, ackEnd := some (timeAfter t (s.par c .ackSend)), timer := none }
  | none =>
    (s.modCircuit c fun k =>
      { k with ackPulse := .running, ackEnd := some (timeAfter s.timeBase (s.par c .ackSend))
               timer := none }).drive c .on

/-- A unit attached as REGISTER enters WAIT_DIGIT and takes its circuit from IN_SEIZED to IN_RECEIVING (R72, R104,
R119). -/
def attachRegister (u : Fin 16) (c : Fin 96) (s : State) : State :=
  let s := s.modUnit u fun k =>
    { k with state := .register .waitDigit, count := 0, brkStart := none, prevBrkStart := none, longBrk := false
             subEnd := none }
  let s := s.modCircuit c fun k => { k with state := .inReceiving }
  match s.startMode c with
  | .ackStart => acknowledge c s
  | .timedStart => s.startTimer c (1000 * s.par c .fdWait)

/-- A unit is attached to a circuit in the class of its request (R104). -/
def attach (u : Fin 16) (c : Fin 96) (cls : UnitClass) (s : State) : State :=
  let s := s.modUnit u fun k => { k with circuit := some c, attachTime := s.timeBase }
  let s := s.modCircuit c fun k => { k with unit := some u, unitReq := none }
  match cls with
  | .sender => attachSender u c s
  | .register => attachRegister u c s

/-! ## Detachment (R107, R109) -/

/-- A unit's record at its detachment: the values R103 gives for it. -/
def DigitUnit.detached (k : DigitUnit) : DigitUnit :=
  { k with state := .free, circuit := none, count := 0, brkStart := none, prevBrkStart := none, subEnd := none
           longBrk := false, parkTime := none, pulses := 0 }

/-- The first part of a detachment (R109): the circuit's unit becomes none, the unit's record returns to the values of
R103, and the unit leaves the parked list if it stands on it (R111). -/
def unlinkUnit (u : Fin 16) (s : State) : State :=
  let s :=
    match (s.unit u).circuit with
    | some c => s.modCircuit c fun k => { k with unit := none }
    | none => s
  let s := s.modUnit u DigitUnit.detached
  { s with parked := s.parked.filter fun v => v ≠ u }

/-- A unit that is FREE in its record becomes available: it serves the head of the unit request queue, the oldest
REGISTER entry or else the oldest SENDER entry, or stays FREE (R106, R107). -/
def becomeAvailable (u : Fin 16) (s : State) : State :=
  match s.regQueue with
  | e :: rest => attach u e.circuit .register { s with regQueue := rest }
  | [] =>
    match s.sndQueue with
    | e :: rest => attach u e.circuit .sender { s with sndQueue := rest }
    | [] => s

/-- A unit is detached (R109): with pending_oos set it enters OUT_OF_SERVICE, and otherwise it becomes available. -/
def detach (u : Fin 16) (s : State) : State :=
  let oos := (s.unit u).pendingOos
  let s := unlinkUnit u s
  if oos then s.modUnit u fun k => { k with state := .outOfService, pendingOos := false }
  else becomeAvailable u s

/-- The unit attached to a circuit, if any, is detached (R109). -/
def detachFrom (c : Fin 96) (s : State) : State :=
  match (s.circuit c).unit with
  | some u => detach u s
  | none => s

/-! ## Requests (R105, R108) -/

/-- The lowest-numbered FREE unit (R105 step 1). -/
def State.freeUnit (s : State) : Option (Fin 16) := allSixteen.find? fun u => (s.unit u).state = .free

/-- How long a request waits, in milliseconds: snd_wait or reg_wait of the group (R52, R69). -/
def State.requestWait (s : State) (c : Fin 96) : UnitClass → Nat
  | .sender => 1000 * s.par c .sndWait
  | .register => s.par c .regWait

/-- A request that no unit serves joins the tail of its class (R105 step 3). -/
def enqueue (c : Fin 96) (cls : UnitClass) (s : State) : State :=
  match cls with
  | .register => { s with regQueue := s.regQueue ++ [{ circuit := c, time := s.timeBase }] }
  | .sender => { s with sndQueue := s.sndQueue ++ [{ circuit := c, time := s.timeBase }] }

/-- A circuit makes a unit request (R105): a FREE unit, else the earliest parked sender reclaimed (R113), else the
queue. -/
def requestUnit (c : Fin 96) (cls : UnitClass) (s : State) : State :=
  let s := s.modCircuit c fun k =>
    { k with unitReq := some { cls := cls, time := s.timeBase, wait := s.requestWait c cls } }
  match s.freeUnit with
  | some u => attach u c cls s
  | none =>
    match s.parked with
    | u :: _ => attach u c cls (unlinkUnit u s)
    | [] => enqueue c cls s

/-- A circuit's outstanding request, if any, is withdrawn (R108). -/
def withdraw (c : Fin 96) (s : State) : State :=
  let s := s.modCircuit c fun k => { k with unitReq := none }
  { s with regQueue := s.regQueue.filter fun e => e.circuit ≠ c
           sndQueue := s.sndQueue.filter fun e => e.circuit ≠ c }

/-- Whether a circuit's request of a class has waited its wait (R52, R70). -/
def State.requestDue (s : State) (c : Fin 96) (cls : UnitClass) : Bool :=
  match (s.circuit c).unitReq with
  | some r => r.cls = cls ∧ r.wait ≤ elapsed s.timeBase r.time
  | none => false

/-! ## Parking (R110 to R112, R114) -/

/-- A sender with nothing left to send and eon clear parks: it joins the tail of the parked list and its park timer
starts with the group's park_limit (R110 case 3). -/
def park (u : Fin 16) (c : Fin 96) (s : State) : State :=
  let s := s.modUnit u fun k =>
    { k with state := .sender .parked, parkTime := some s.timeBase
             subEnd := some (timeAfter s.timeBase (1000 * s.par c .parkLimit)) }
  { s with parked := s.parked ++ [u] }

/-- A sender has ended its last digit with eon clear (R110): it goes out of service or to the queue's head by a
detachment, and otherwise parks. -/
def endWithoutEon (u : Fin 16) (c : Fin 96) (s : State) : State :=
  if (s.unit u).pendingOos ∨ s.regQueue ≠ [] ∨ s.sndQueue ≠ [] then detach u s else park u c s

/-- A parked sender resumes: it leaves the parked list and attach_time takes the instant (R114); its next substate
follows from the start instant (R117). -/
def resume (u : Fin 16) (c : Fin 96) (s : State) : State :=
  let s := s.modUnit u fun k => { k with attachTime := s.timeBase }
  decideStart u c { s with parked := s.parked.filter fun v => v ≠ u }

/-- Whether a unit is a PARKED sender whose park timer has expired (R112). -/
def parkLimitDue (u : Fin 16) (s : State) : Bool :=
  (s.unit u).state = .sender .parked ∧ instantDue s.timeBase (s.unit u).subEnd

/-- PARK_LIMIT_EXPIRY (R112): the parked sender is detached. -/
def execParkLimitExpiry (unit : Nat) (s : State) : Host.Outcome State Fault Refusal :=
  onUnit unit parkLimitDue detach s

end Sys2Proof.Machine
end

