-- ==== Sys2Proof/Machine/Hunting.lean ====
section
/-! DEFINITION. The Group Hunt (R19, R24 to R34, R41, R66): seizure slots, the entries to OUT_SEIZING and IN_PRESEIZE, the
becomes-idle rule, incoming offers, and the expiry of a waiting slot. -/

namespace Sys2Proof.Machine

/-! ## The hunt (R24, R26) -/

/-- The circuit chosen from an idle list (R26). -/
def huntChoice (mode : HuntMode) (idle : List (Fin 96)) : Option (Fin 96) :=
  match idle with
  | [] => none
  | c :: rest =>
    match mode with
    | .lowFirst => some (rest.foldl (fun a b => if b.val < a.val then b else a) c)
    | .highFirst => some (rest.foldl (fun a b => if a.val < b.val then b else a) c)
    | .longestIdle => some c

/-- A circuit leaves its group's idle list, wherever it stands in it (R24). -/
def leaveIdleList (c : Fin 96) (s : State) : State :=
  match (s.circuit c).group with
  | some g => s.modGroup g fun k => { k with idle := k.idle.filter fun d => d ≠ c }
  | none => s

/-! ## Entries to the seizing states -/

/-- The call fields as the start of every call sets them (R19). -/
def Circuit.startCall (k : Circuit) (dir : CallDir) (mode : StartMode) : Circuit :=
  { k with callDir := dir, callStart := some mode, sent := 0, answered := false, ansTime := 0, lastBrkEnd := 0
           cause := .none, glarePhase := .none, glareTime := none, ackEnd := none, ansDue := none, relTime := none
           ackPulse := .none, presentOn := false }

/-- A circuit enters OUT_SEIZING for a port's slot with the call's digits and eon (R19, R36, R41): the call fields are
set, the send lead goes ON, the timer starts from seize_time, and a call with a digit requests a sender. -/
def enterOutSeizing (c : Fin 96) (id : SlotId) (digits : List (Fin 10)) (eon : Bool) (s : State) : State :=
  let wait := match s.startMode c with
    | .ackStart => s.par c .ackWait
    | .timedStart => s.par c .prePause
  let s := s.modCircuit c fun k =>
    { k.startCall .outgoing (s.startMode c) with
      state := .outSeizing, digits := digits, eon := eon, owner := some id.port, slot := some id
      seizeTime := s.timeBase, timer := some { start := s.timeBase, value := wait }, presentOn := s.leadOn c
      seizeAckMax := s.par c .ackMax, minSeize := s.par c .minSeize, prePause := s.par c .prePause }
  let s := s.drive c .on
  if digits.isEmpty then s else requestUnit c .sender s

/-- A circuit enters IN_PRESEIZE (R66): it leaves the idle list, a call begins, and the timer starts with sz_rec from
the present instant. -/
def enterPreseize (c : Fin 96) (s : State) : State :=
  let s := leaveIdleList c s
  let s := s.modCircuit c fun k =>
    { k.startCall .incoming (s.startMode c) with
      state := .inPreseize, digits := [], eon := false, seizeTime := 0
      timer := some { start := s.timeBase, value := s.par c .szRec } }
  s.drive c .off

/-- A circuit enters BLOCKED (R167): its lead is OFF under supervision, and a receive lead recognized ON is timed
against sz_rec from the present instant. -/
def enterBlocked (c : Fin 96) (s : State) : State :=
  let s := s.modCircuit c fun k =>
    { k with state := .blocked
             timer := if s.leadOn c then some { start := s.timeBase, value := s.par c .szRec } else none }
  s.drive c .off

/-- A circuit enters IDLE at the tail of its group's idle list, and in an incoming-capable group goes on at once
into IN_PRESEIZE if its receive lead is ON (R27 steps 3 and 4). -/
def enterIdle (c : Fin 96) (g : Fin 8) (s : State) : State :=
  let s := s.modCircuit c fun k => { k with state := .idle, timer := none }
  let s := s.drive c .off
  let s := s.modGroup g fun k => { k with idle := k.idle ++ [c] }
  if s.leadOn c ∧ (s.group g).direction.incomingCapable then enterPreseize c s else s

/-- The head slot of a group's wait queue takes a circuit that becomes idle (R28). -/
def serveWaiting (c : Fin 96) (g : Fin 8) (id : SlotId) (call : SlotCall) (digits : List (Fin 10)) (eon : Bool)
    (s : State) : State :=
  let s := s.modGroup g fun k => { k with queue := k.queue.tail }
  let s := s.setSlot id (.seizing call c)
  let s := enterOutSeizing c id digits eon s
  s.raiseSlot id .seized

/-- A circuit becomes idle (R27): to BLOCKED if block_pending is set, else to the head slot of its group's wait queue,
else to the idle list. Its owner, unit, request and slot link are none before. -/
def becomesIdle (c : Fin 96) (s : State) : State :=
  match (s.circuit c).group with
  | none => s
  | some g =>
    if (s.circuit c).blockPending then
      enterBlocked c (s.modCircuit c fun k => { k with blockPending := false })
    else
      match (s.group g).queue with
      | [] => enterIdle c g s
      | id :: _ =>
        match s.slot id with
        | .waiting call digits eon _ => serveWaiting c g id call digits eon s
        | .free | .seizing _ _ | .outcome _ _ => enterIdle c g s

/-! ## Incoming offers (R29) -/

/-- The port a group's distribution chooses (R29). -/
def Group.offerPort (k : Group) : Port :=
  match k.distribution with
  | .fixedA => .A
  | .fixedB => .B
  | .alternate => k.nextPort

/-- The owner of an offered call: the chosen port if it is enabled, else the other if that is, else none (R29). -/
def State.offerOwner (s : State) (p : Port) : Option Port :=
  if (s.port p).enabled then some p
  else if (s.port (otherPort p)).enabled then some (otherPort p)
  else none

/-- A circuit's seizure is recognized and offered (R29): the circuit enters IN_SEIZED with its owner, offered is
raised, and a register is requested if there is an owner. -/
def offerCall (c : Fin 96) (s : State) : State :=
  match (s.circuit c).group with
  | none => s
  | some g =>
    let owner := s.offerOwner (s.group g).offerPort
    let s :=
      match (s.group g).distribution with
      | .alternate => s.modGroup g fun k => { k with nextPort := otherPort k.nextPort }
      | .fixedA | .fixedB => s
    let s := s.modCircuit c fun k => { k with state := .inSeized, owner := owner, timer := none }
    let s := s.raiseCircuit c .offered
    if owner.isSome then requestUnit c .register s else s

/-! ## Seizure slots (R30 to R34) -/

/-- The lowest-numbered FREE slot of a port (R30). -/
def State.freeSlot (s : State) (p : Port) : Option SlotId :=
  match allSixteen.find? fun n => s.slot { port := p, num := n } = .free with
  | some n => some { port := p, num := n }
  | none => none

/-- The pending set of a slot for its own port (R152). -/
def State.slotPend (s : State) (id : SlotId) : EventSet := (s.port id.port).pendOf (.slot id.num)

/-- A circuit's slot link is broken as the circuit leaves OUT_SEIZING (R31): the slot enters OUTCOME seized if its
pending set holds seized or rehunted, and otherwise becomes FREE. -/
def breakLink (c : Fin 96) (s : State) : State :=
  match (s.circuit c).slot with
  | none => s
  | some id =>
    let s := s.modCircuit c fun k => { k with slot := none }
    match s.slot id with
    | .seizing call d =>
      if (s.slotPend id).has .seized ∨ (s.slotPend id).has .rehunted then
        s.setSlot id (.outcome call (.seized d))
      else s.setSlot id .free
    | .free | .waiting _ _ _ _ | .outcome _ _ => s

/-- Take a slot out of a group's wait queue, wherever it stands (R33). -/
def leaveQueue (g : Fin 8) (id : SlotId) (s : State) : State :=
  s.modGroup g fun k => { k with queue := k.queue.filter fun x => x ≠ id }

/-- The expiry of a waiting slot's wait: the instant that many seconds after now (R34). -/
def State.expiryAfter (s : State) (seconds : Nat) : Time := timeAfter s.timeBase (1000 * seconds)

/-- Whether a slot is WAITING and its expiry has come (R34). -/
def slotExpiryDue (id : SlotId) (s : State) : Bool :=
  match s.slot id with
  | .waiting _ _ _ t => reached s.timeBase t
  | .free | .seizing _ _ | .outcome _ _ => false

/-- A waiting slot expires (R34). -/
def expireSlot (id : SlotId) (s : State) : State :=
  match s.slot id with
  | .waiting call _ _ _ =>
    let s := leaveQueue call.group id s
    let s := s.setSlot id (.outcome call .expired)
    s.raiseSlot id .expired
  | .free | .seizing _ _ | .outcome _ _ => s

/-- SLOT_EXPIRY (R34). -/
def execSlotExpiry (p : Port) (slot : Nat) (s : State) : Host.Outcome State Fault Refusal :=
  match sixteenOf slot with
  | some n =>
    let id : SlotId := { port := p, num := n }
    unlessReset (fun s => if slotExpiryDue id s then expireSlot id s else s) s
  | none => .fault .noSuchNumber

end Sys2Proof.Machine
end

