-- ==== Sys2Proof/Machine/Operands.lean ====
section
/-! DEFINITION. The words of the control ports (R184, R185): bit fields, packed digits, the orders a block of words
spells, the lengths they allow, what they carry, and the result codes. -/

namespace Sys2Proof.Machine

/-! ## Bit fields -/

/-- The field in bits `hi` to `lo` of a word, read as unsigned binary (R184). -/
def field (w : Word) (hi lo : Nat) : Nat := w.toNat / 2 ^ lo % 2 ^ (hi - lo + 1)

/-- One bit of a word. -/
def bitSet (w : Word) (i : Nat) : Bool := field w i i = 1

/-- A word with values in its fields, each given as value, high bit and low bit; every other bit reads 0 (R185). The
fields of one word do not overlap, so their sum is the word. -/
def pack (fields : List (Nat × Nat × Nat)) : Word :=
  BitVec.ofNat 16 ((fields.map fun f => f.1 % 2 ^ (f.2.1 - f.2.2 + 1) * 2 ^ f.2.2).sum)

/-- A flag as a field's value: 1 when set. -/
def flag (b : Bool) : Nat := if b then 1 else 0

/-- A time-base value as two words, the high half first (R184). -/
def timeWords (t : Time) : List Word := [BitVec.ofNat 16 (t.toNat / 65536), BitVec.ofNat 16 t.toNat]

/-- A time-base value that may be absent as two words; absent reads 0 (R185). -/
def timeWordsOpt : Option Time → List Word
  | some t => timeWords t
  | none => [0#16, 0#16]

/-- A word of an order by its number less one; a word the order does not have reads 0 (only an order that BAD_LENGTH
refuses has too few). -/
def wordAt (ws : List Word) (i : Nat) : Word := ws.getD i 0#16

/-! ## Packed digits (R184) -/

/-- The words that a string of n digits fills: ceil(n/4). -/
def digitWords (n : Nat) : Nat := (n + 3) / 4

/-- The value at a digit position, from 0, of the digit words of an order. -/
def nibbleAt (ws : List Word) (i : Nat) : Nat :=
  field (wordAt ws (i / 4)) (15 - 4 * (i % 4)) (12 - 4 * (i % 4))

/-- The n values in the digit words of an order; a nibble beyond the count is ignored. -/
def nibbles (ws : List Word) (n : Nat) : List Nat := (List.range n).map (nibbleAt ws)

/-- The values as digits; none where a value is above 9, which is DIGIT_BAD. -/
def digitsOf : List Nat → Option (List (Fin 10))
  | [] => some []
  | v :: vs =>
    if h : v < 10 then (digitsOf vs).map (⟨v, h⟩ :: ·) else none

/-- The value at a position of a digit string, from 0; 0 beyond its end. -/
def digitAt (ds : List (Fin 10)) (i : Nat) : Nat :=
  match ds[i]? with
  | some d => d.val
  | none => 0

/-- A digit string packed four to a word (R184). -/
def packDigits (ds : List (Fin 10)) : List Word :=
  (List.range (digitWords ds.length)).map fun i =>
    pack [(digitAt ds (4 * i), 15, 12), (digitAt ds (4 * i + 1), 11, 8), (digitAt ds (4 * i + 2), 7, 4),
          (digitAt ds (4 * i + 3), 3, 0)]

/-! ## Orders (R143, R184) -/

/-- The orders of the catalogue, with UNIT SERVICE and REFERENCE CONTROL each as their two rows of the table. -/
inductive OrderKind
  | seize | addDigits | clear | cancel | answer | clearBack | releaseRegister | readCircuit | readGroup | readUnit
  | configureGroup | assignCircuit | block | unblock | resetCircuit | unitServiceOff | unitServiceOn
  | referenceControlApply | referenceControlSet | watchSet | forceSet | restartCalls
deriving DecidableEq, Repr

/-- The order code of a block, in bits 15 to 8 of its first word. -/
def orderCode (ws : List Word) : Nat := field (wordAt ws 0) 15 8

/-- The word count of a block: the count field of its first word plus one. -/
def orderCount (first : Word) : Nat := field first 3 0 + 1

/-- The order a block of words spells; none for a code that is not in the table of R184. UNIT SERVICE is the row of its
on bit. REFERENCE CONTROL with action 1 is the row SET; with any other action it is the row APPLY, whose rule
R132 refuses the codes 2 to 15 (log entry 10). -/
def orderKind (ws : List Word) : Option OrderKind :=
  match orderCode ws with
  | 0x01 => some .seize
  | 0x02 => some .addDigits
  | 0x03 => some .clear
  | 0x04 => some .cancel
  | 0x05 => some .answer
  | 0x06 => some .clearBack
  | 0x07 => some .releaseRegister
  | 0x10 => some .readCircuit
  | 0x11 => some .readGroup
  | 0x12 => some .readUnit
  | 0x20 => some .configureGroup
  | 0x21 => some .assignCircuit
  | 0x22 => some .block
  | 0x23 => some .unblock
  | 0x24 => some .resetCircuit
  | 0x25 => some (if bitSet (wordAt ws 1) 8 then .unitServiceOn else .unitServiceOff)
  | 0x26 => some (if field (wordAt ws 1) 11 8 = 1 then .referenceControlSet else .referenceControlApply)
  | 0x27 => some .watchSet
  | 0x28 => some .forceSet
  | 0x29 => some .restartCalls
  | _ => none

/-- Whether an order allows the word count it came with (R143 test 2, R184). -/
def lengthAllowed (k : OrderKind) (ws : List Word) : Bool :=
  match k with
  | .seize => 3 ≤ ws.length ∧ ws.length = 3 + digitWords (field (wordAt ws 2) 4 0)
  | .addDigits => 2 ≤ ws.length ∧ ws.length = 2 + digitWords (field (wordAt ws 1) 4 0)
  | .clear | .cancel | .answer | .clearBack | .releaseRegister | .readCircuit | .readGroup | .readUnit | .block
  | .unblock | .resetCircuit | .unitServiceOff | .unitServiceOn | .forceSet => ws.length = 2
  | .configureGroup => 2 ≤ ws.length ∧ ws.length ≤ 16 ∧ ws.length % 2 = 0
  | .assignCircuit | .referenceControlApply | .referenceControlSet | .watchSet => ws.length = 3
  | .restartCalls => ws.length = 1

/-- The READ orders, which need neither PEN nor MPERM (R143). -/
def OrderKind.isRead : OrderKind → Bool
  | .readCircuit | .readGroup | .readUnit => true
  | .seize | .addDigits | .clear | .cancel | .answer | .clearBack | .releaseRegister | .configureGroup
  | .assignCircuit | .block | .unblock | .resetCircuit | .unitServiceOff | .unitServiceOn | .referenceControlApply
  | .referenceControlSet | .watchSet | .forceSet | .restartCalls => false

/-- The maintenance orders, which need MPERM (R143). -/
def OrderKind.isMaintenance : OrderKind → Bool
  | .configureGroup | .assignCircuit | .block | .unblock | .resetCircuit | .unitServiceOff | .unitServiceOn
  | .referenceControlApply | .referenceControlSet | .watchSet | .forceSet | .restartCalls => true
  | .seize | .addDigits | .clear | .cancel | .answer | .clearBack | .releaseRegister | .readCircuit | .readGroup
  | .readUnit => false

/-! ## Results (R185) -/

/-- The result codes (R185). -/
inductive Result
  | noResult | ok | okClamped | seized | queued | congestion | noSlot | badGroup | badValue | digitBad | digitOverflow
  | notOwner | wrongState | tooLate | groupBusy | notPermitted | portDisabled | badLength | unknownOrder | incomplete
deriving DecidableEq, Repr

/-- The code of a result (R185). -/
def Result.code : Result → Nat
  | .noResult => 0x00 | .ok => 0x01 | .okClamped => 0x02 | .seized => 0x03 | .queued => 0x04 | .congestion => 0x05
  | .noSlot => 0x06 | .badGroup => 0x10 | .badValue => 0x11 | .digitBad => 0x12 | .digitOverflow => 0x13
  | .notOwner => 0x14 | .wrongState => 0x15 | .tooLate => 0x16 | .groupBusy => 0x17 | .notPermitted => 0x20
  | .portDisabled => 0x21 | .badLength => 0x22 | .unknownOrder => 0x23 | .incomplete => 0x24

/-- A result block: the code with the number of words that follow, and those words (R185). -/
def resultBlock (r : Result) (following : List Word) : List Word :=
  pack [(r.code, 15, 8), (following.length, 5, 0)] :: following

/-- The block of a result that carries nothing more (R142). -/
def oneWord (r : Result) : List Word := resultBlock r []

/-- A port as one bit: 0 for A, 1 for B (R184, R185). -/
def portBit : Port → Nat
  | .A => 0
  | .B => 1

/-- The slot word of SEIZED and QUEUED: port in bit 7, number in bits 3 to 0 (R185). -/
def slotWord (id : SlotId) : Word := pack [(portBit id.port, 7, 7), (id.num.val, 3, 0)]

end Sys2Proof.Machine
end

