-- ==== Sys2Proof/Machine/Snapshots.lean ====
section
/-! DEFINITION. The words of READ snapshots (R146, R147, R185) and of reports (R160 to R162, R186). -/

namespace Sys2Proof.Machine

/-! ## Codes (R184, R185) -/

/-- The code of a circuit state (R185). -/
def CircuitState.code : CircuitState → Nat
  | .unequipped => 0 | .blocked => 1 | .fault => 2 | .idle => 3 | .outSeizing => 4 | .outSending => 5
  | .outWaitAnswer => 6 | .outAnswered => 7 | .outClearedBack => 8 | .outReleasing => 9 | .inPreseize => 10
  | .inSeized => 11 | .inReceiving => 12 | .inHeld => 13 | .inAnswered => 14 | .inClearedBack => 15 | .inGuard => 16

/-- The code of a cause (R185). -/
def Cause.code : Cause → Nat
  | .none => 0 | .lineFault => 1 | .noProceed => 2 | .senderCongestion => 3 | .stall => 4 | .cbLimit => 5
  | .glareUnresolved => 6 | .guardFailed => 7

/-- The code of a glare phase (R185). -/
def GlarePhase.code : GlarePhase → Nat
  | .none => 0 | .holding => 1 | .farCleared => 2 | .yielded => 3

/-- The code of an owner: 0 none, 1 A, 2 B (R185). -/
def ownerCode : Option Port → Nat
  | none => 0
  | some .A => 1
  | some .B => 2

/-- The code of a call direction (R185). -/
def CallDir.code : CallDir → Nat
  | .none => 0 | .outgoing => 1 | .incoming => 2

/-- The code of a call's start mode: 0 none, 1 ACK_START, 2 TIMED_START (R185). -/
def callStartCode : Option StartMode → Nat
  | none => 0
  | some .ackStart => 1
  | some .timedStart => 2

/-- The code of a unit request's class: 0 none, 1 REGISTER, 2 SENDER (R185). -/
def requestCode : Option UnitReq → Nat
  | none => 0
  | some r => match r.cls with
    | .register => 1
    | .sender => 2

/-- ON as 1 (R185). -/
def condBit : Cond → Nat
  | .off => 0
  | .on => 1

/-- The code of a direction (R184). -/
def Direction.code : Direction → Nat
  | .none => 0 | .outgoing => 1 | .incoming => 2 | .bothway => 3

/-- The code of a group's start mode (R184). -/
def StartMode.code : StartMode → Nat
  | .ackStart => 0 | .timedStart => 1

/-- The code of a hunt mode (R184). -/
def HuntMode.code : HuntMode → Nat
  | .lowFirst => 0 | .highFirst => 1 | .longestIdle => 2

/-- The code of a glare rule (R184). -/
def GlareRule.code : GlareRule → Nat
  | .priorityAll => 0 | .priorityNone => 1 | .priorityEven => 2 | .priorityOdd => 3

/-- The code of a distribution (R184). -/
def Distribution.code : Distribution → Nat
  | .fixedA => 0 | .fixedB => 1 | .alternate => 2

/-- The code of a send lead's source, and the force channel's number or 0 (R185). -/
def Source.codes : Source → Nat × Nat
  | .supervision => (0, 0)
  | .sender => (1, 0)
  | .force f => (2, f.val)

/-- State and substate codes of a unit (R185). -/
def UnitState.codes : UnitState → Nat × Nat
  | .free => (0, 0)
  | .outOfService => (1, 0)
  | .sender .waitStart => (2, 0)
  | .sender .inBreak => (2, 1)
  | .sender .inMake => (2, 2)
  | .sender .pause => (2, 3)
  | .sender .parked => (2, 4)
  | .register .waitDigit => (3, 0)
  | .register .inBreak => (3, 1)
  | .register .inMake => (3, 2)

/-- A value of a field that may be absent; absent reads 0 (R185). -/
def optVal {α : Type} (f : α → Nat) : Option α → Nat
  | some a => f a
  | none => 0

/-! ## READ snapshots (R185) -/

/-- The READ CIRCUIT snapshot (R146). -/
def circuitSnapshot (c : Fin 96) (s : State) : List Word :=
  let k := s.circuit c
  let src := (s.leadSource c).codes
  timeWords s.timeBase
  ++ [ pack [(k.state.code, 15, 11), (match k.group with | some g => g.val | none => 15, 10, 7), (c.val, 6, 0)]
     , pack [(ownerCode k.owner, 15, 14), (flag k.blockPending, 13, 13), (flag k.eon, 12, 12),
             (flag k.answered, 11, 11), (k.trunkNo, 9, 0)]
     , pack [(k.callDir.code, 15, 14), (callStartCode k.callStart, 13, 12), (k.digits.length, 11, 7), (k.sent, 4, 0)]
     , pack [(flag k.unit.isSome, 15, 15), (optVal (·.val) k.unit, 11, 8), (requestCode k.unitReq, 7, 6),
             (flag k.slot.isSome, 5, 5), (optVal (portBit ·.port) k.slot, 4, 4), (optVal (·.num.val) k.slot, 3, 0)]
     , pack [(k.cause.code, 15, 12), (k.glarePhase.code, 11, 10), (flag s.portA.enabled, 9, 9),
             (flag s.portB.enabled, 8, 8), (condBit (s.filter c).recCond, 7, 7), (condBit (s.sendLead c), 6, 6),
             (src.1, 5, 4), (src.2, 2, 0)]
     , pack [(flag k.timer.isSome, 15, 15), (flag k.ackEnd.isSome, 14, 14), (flag k.ansDue.isSome, 13, 13),
             (flag k.glareTime.isSome, 12, 12), (flag k.relTime.isSome, 11, 11)] ]
  ++ timeWordsOpt (k.unitReq.map (·.time)) ++ timeWords k.ansTime ++ timeWords k.lastBrkEnd
  ++ timeWordsOpt (k.timer.map (·.start)) ++ timeWordsOpt (k.timer.map fun t => BitVec.ofNat 32 t.value)
  ++ timeWords k.seizeTime ++ timeWordsOpt k.ackEnd ++ timeWordsOpt k.ansDue ++ timeWordsOpt k.glareTime
  ++ timeWordsOpt k.relTime ++ timeWords (s.filter c).recTime
  ++ packDigits k.digits

/-- The READ GROUP snapshot (R147). -/
def groupSnapshot (g : Fin 8) (s : State) : List Word :=
  let k := s.group g
  let r := k.reference
  timeWords s.timeBase
  ++ [ pack [(k.direction.code, 15, 14), (k.startMode.code, 13, 13), (k.huntMode.code, 12, 11),
             (k.glareRule.code, 10, 9), (k.distribution.code, 8, 7), (portBit k.nextPort, 6, 6), (g.val, 3, 0)]
     , pack [((s.members g).length, 14, 8), (k.idle.length, 6, 0)]
     , pack [(k.queue.length, 5, 0)]
     , pack [(flag r.locked, 15, 15), (r.inRun, 14, 12), (r.outRun, 11, 10), (r.sinceApply, 6, 0)]
     , BitVec.ofNat 16 r.ref, BitVec.ofNat 16 r.tBm, BitVec.ofNat 16 r.tId ]
  ++ Param.all.map fun p => BitVec.ofNat 16 (k.par p)

/-- The READ UNIT snapshot (R147). -/
def unitSnapshot (u : Fin 16) (s : State) : List Word :=
  let k := s.unit u
  let codes := k.state.codes
  timeWords s.timeBase
  ++ [ pack [(codes.1, 15, 13), (codes.2, 12, 10), (flag k.pendingOos, 9, 9), (flag k.longBrk, 8, 8),
             (flag k.circuit.isSome, 7, 7), (optVal (·.val) k.circuit, 6, 0)]
     , pack [(u.val, 11, 8), (k.count, 3, 0)]
     , pack [(flag k.brkStart.isSome, 15, 15), (flag k.prevBrkStart.isSome, 14, 14), (flag k.subEnd.isSome, 13, 13),
             (flag k.parkTime.isSome, 12, 12)]
     , pack [(s.regQueue.length, 14, 8), (s.sndQueue.length, 6, 0)]
     , pack [(s.parked.length, 4, 0)] ]
  ++ timeWordsOpt k.brkStart ++ timeWordsOpt k.prevBrkStart ++ timeWordsOpt k.subEnd ++ timeWords k.attachTime
  ++ timeWordsOpt k.parkTime

/-! ## Reports (R186) -/

/-- The header word of a report: the item kind, and the item number with the port of a slot (R186). -/
def itemHeader (p : Port) : Item → Word
  | .circuit c => pack [(0, 15, 13), (c.val, 6, 0)]
  | .slot n => pack [(1, 15, 13), (portBit p, 7, 7), (n.val, 3, 0)]
  | .group g => pack [(2, 15, 13), (g.val, 6, 0)]
  | .watch w => pack [(3, 15, 13), (w.val, 6, 0)]

/-- The first event word of a pending set, bits 31 to 16 (R186). -/
def EventSet.firstWord (k : EventSet) : Word := BitVec.ofNat 16 (k.bits.toNat / 65536)

/-- The second event word of a circuit's pending set, bits 15 to 0 (R186). -/
def EventSet.secondWord (k : EventSet) : Word := BitVec.ofNat 16 k.bits.toNat

/-- A slot report's state, outcome and circuit words (R161, R186). A slot that is FREE is on no attention list; its code
would be 0. -/
def slotReportWords : Slot → List Word
  | .free => [0#16, 0#16]
  | .waiting call _ _ _ => [pack [(1, 15, 14)], pack [(call.tag.toNat, 7, 0)]]
  | .seizing call c => [pack [(2, 15, 14), (1, 13, 12), (1, 7, 7), (c.val, 6, 0)], pack [(call.tag.toNat, 7, 0)]]
  | .outcome call (.seized c) =>
    [pack [(3, 15, 14), (1, 13, 12), (1, 7, 7), (c.val, 6, 0)], pack [(call.tag.toNat, 7, 0)]]
  | .outcome call .expired => [pack [(3, 15, 14), (2, 13, 12)], pack [(call.tag.toNat, 7, 0)]]
  | .outcome call .glareFailed => [pack [(3, 15, 14), (3, 13, 12)], pack [(call.tag.toNat, 7, 0)]]

/-- The snapshot of an item for a port, with the events it carries (R160 to R162, R186). -/
def reportWords (p : Port) (it : Item) (k : EventSet) (s : State) : List Word :=
  itemHeader p it :: timeWords s.timeBase ++
    match it with
    | .circuit c =>
      let r := s.circuit c
      [ k.firstWord, k.secondWord
      , pack [(r.state.code, 15, 11), (ownerCode r.owner, 10, 9), (flag r.answered, 8, 8), (r.cause.code, 3, 0)]
      , pack [(r.digits.length, 15, 11), (r.sent, 10, 6), (if k.has .answered then k.discarded else 0, 4, 0)] ]
      ++ timeWords r.ansTime ++ packDigits r.digits
    | .slot n => k.firstWord :: slotReportWords (s.slot { port := p, num := n })
    | .group g =>
      let r := (s.group g).reference
      [ k.firstWord, pack [(flag r.locked, 15, 15), (r.ref, 11, 0)], BitVec.ofNat 16 r.tBm, BitVec.ofNat 16 r.tId ]
    | .watch w => [k.firstWord, BitVec.ofNat 16 (s.watch w).matchCount]

/-- NO_REPORT, presented when the attention list is empty: kind 7 with every other bit 0 (R186). -/
def noReport : Word := pack [(7, 15, 13)]

end Sys2Proof.Machine
end

