-- ==== Sys2Proof/Machine/Ports.lean ====
section
/-! DEFINITION. The working of a control port (R136 to R143) and of its report read (R156 to R159): what an access does to
the order in assembly, to the result position and to the report read, and the tests every order meets. -/

namespace Sys2Proof.Machine

/-! ## Abandonment (R141, R159) -/

/-- A slot becomes FREE (R31, R32, R38, R39, R148). -/
def freeSlotOf (id : SlotId) (s : State) : State := s.setSlot id .free

/-- Whether an abandoned read of an item gives its events back: not for a slot that is FREE (R159). -/
def givesBack (p : Port) (it : Item) (s : State) : Bool :=
  match it with
  | .slot n => s.slot { port := p, num := n } ≠ .free
  | .circuit _ | .group _ | .watch _ => true

/-- The events of an abandoned read merge back into the item's pending set, whose own discarded count is the later one,
and the item stands at the head of the list (R159). -/
def PortRecord.restore (r : PortRecord) (it : Item) (k : EventSet) : PortRecord :=
  let r := (r.setPend it ((r.pendOf it).union k)).leave it
  { r with attention := it :: r.attention }

/-- A port's report read in progress, if any, is abandoned (R159). -/
def abandonReport (p : Port) (s : State) : State :=
  match (s.port p).report with
  | none => s
  | some k =>
    if k.merge ∧ givesBack p k.item s then
      s.modPort p fun r => { r.restore k.item k.events with report := none }
    else s.modPort p fun r => { r with report := none }

/-- An access other than a CH 0 write abandons an order in assembly and leaves INCOMPLETE (R141). -/
def PortRecord.abandonOrder (r : PortRecord) : PortRecord :=
  match r.assembly with
  | .empty => r
  | .assembling _ _ => { r with assembly := .empty, result := oneWord .incomplete, resultPos := 1 }

/-! ## CH 0 reads (R142) -/

/-- A CH 0 read presents the word at the result position, with LAST on the final word, and the position advances or
returns to 1 (R142). -/
def PortRecord.presentResult (r : PortRecord) : PortRecord :=
  let last : Bool := r.result.length ≤ r.resultPos
  { r with
    handshake := .replyingRead (wordAt r.result (r.resultPos - 1)) last
    resultPos := if last then 1 else r.resultPos + 1 }

/-- A CH 0 read is answered (R138, R139, R141, R142). -/
def answerResultRead (p : Port) (s : State) : State :=
  (abandonReport p (s.modPort p PortRecord.abandonOrder)).modPort p PortRecord.presentResult

/-! ## CH 1 reads (R156, R157) -/

/-- A port presents the word of its report read at the next position: the read advances, or is complete at the final
word (R157). -/
def PortRecord.presentReport (r : PortRecord) (k : ReportRead) : PortRecord :=
  let last : Bool := k.words.length ≤ k.position
  { r with
    handshake := .replyingRead (wordAt k.words (k.position - 1)) last
    report := if last then none else some { k with position := k.position + 1 } }

/-- The first word of an item's report frees a slot that is in OUTCOME (R32, R156). -/
def settleSlot (p : Port) (it : Item) (s : State) : State :=
  match it with
  | .slot n =>
    match s.slot { port := p, num := n } with
    | .outcome _ _ => freeSlotOf { port := p, num := n } s
    | .free | .waiting _ _ _ _ | .seizing _ _ => s
  | .circuit _ | .group _ | .watch _ => s

/-- A report of the item at the head of the list begins (R156): the item leaves the list, its pending set moves into the
snapshot, and the first word is presented. -/
def beginReport (p : Port) (it : Item) (s : State) : State :=
  let events := (s.port p).pendOf it
  let words := reportWords p it events s
  let s := settleSlot p it s
  s.modPort p fun r =>
    ((r.setPend it EventSet.empty).leave it).presentReport
      { item := it, words := words, position := 1, events := events, merge := true }

/-- A CH 1 read is answered (R139, R141, R156, R157). -/
def answerReportRead (p : Port) (s : State) : State :=
  let s := s.modPort p fun r => { r.abandonOrder with resultPos := 1 }
  match (s.port p).report with
  | some k => s.modPort p fun r => r.presentReport k
  | none =>
    match (s.port p).attention with
    | it :: _ => beginReport p it s
    | [] => s.modPort p fun r => { r with handshake := .replyingRead noReport true }

/-- A CH 1 write is answered (R139): its word is discarded, and an order in assembly is lost with it. -/
def answerReportWrite (p : Port) (s : State) : State :=
  s.modPort p fun r => { r.abandonOrder with resultPos := 1, handshake := .replyingWrite }

/-! ## CH 0 writes (R140, R143) -/

/-- The words of the order once a word is taken, and the count expected (R140). -/
def PortRecord.taken (r : PortRecord) (w : Word) : List Word × Nat :=
  match r.assembly with
  | .empty => ([w], orderCount w)
  | .assembling ws n => (ws ++ [w], n)

/-- Whether a CH 0 write of a word completes an order (R140). -/
def PortRecord.completes (r : PortRecord) (w : Word) : Bool := (r.taken w).2 ≤ (r.taken w).1.length

/-- The order of the catalogue that a CH 0 write of a word completes, if it completes one. -/
def PortRecord.completedKind (r : PortRecord) (w : Word) : Option OrderKind :=
  if r.completes w then orderKind (r.taken w).1 else none

/-- The tests of R143 from the second, in its order, on an order of the catalogue, with the levels of PEN and MPERM at the
instant it is taken whole (R144); none when the order passes. -/
def commonRefusal (kind : OrderKind) (ws : List Word) (enabled mperm : Bool) : Option Result :=
  if !lengthAllowed kind ws then some .badLength
  else if !enabled ∧ !kind.isRead then some .portDisabled
  else if kind.isMaintenance ∧ !mperm then some .notPermitted
  else none

/-- What an order does once it has passed the tests of R143: the state it leaves, and its result block. -/
abbrev OrderBody := Port → List Word → State → State × List Word

/-- A word that does not complete an order joins the assembly; the first word of an order discards the previous result
block (R140). -/
def PortRecord.assemble (r : PortRecord) (w : Word) : PortRecord :=
  { r with
    assembly := .assembling (r.taken w).1 (r.taken w).2
    result := match r.assembly with
      | .empty => []
      | .assembling _ _ => r.result
    resultPos := 1, handshake := .replyingWrite }

/-- An order taken whole leaves the assembly empty and its result block ready at position 1 (R140). -/
def PortRecord.finish (r : PortRecord) (block : List Word) : PortRecord :=
  { r with assembly := .empty, result := block, resultPos := 1, handshake := .replyingWrite }

/-- An order of the catalogue is taken whole at the write of its last word (R140, R143): a refusal gives its result
alone, and otherwise the order's own body acts. -/
def takeOrder (kind : OrderKind) (body : OrderBody) (p : Port) (w : Word) (mperm : Bool) (s : State) : State :=
  let s := abandonReport p s
  let ws := ((s.port p).taken w).1
  match commonRefusal kind ws (s.port p).enabled mperm with
  | some r => s.modPort p (·.finish (oneWord r))
  | none =>
    let out := body p ws (s.modPort p fun r => { r with assembly := .empty })
    out.1.modPort p (·.finish out.2)

/-- A CH 0 write that completes no order of the catalogue: its word joins the assembly, or completes an order whose code
is unknown (R140, R143 test 1). -/
def takeWord (p : Port) (w : Word) (s : State) : State :=
  let s := abandonReport p s
  if (s.port p).completes w then s.modPort p (·.finish (oneWord .unknownOrder)) else s.modPort p (·.assemble w)

/-! ## The selects of a port (R137, R138) -/

/-- The other select of a port. -/
def otherSelect : Select → Select
  | .write => .read
  | .read => .write

/-- Whether a select of a port is asserted. -/
def PortRecord.selected (r : PortRecord) : Select → Bool
  | .write => r.wsel
  | .read => r.rsel

/-- A port with a select at a level. -/
def PortRecord.setSelect (r : PortRecord) (sel : Select) (level : Bool) : PortRecord :=
  match sel with
  | .write => { r with wsel := level }
  | .read => { r with rsel := level }

/-- A select is asserted, with the other select `beside` it at the same instant or not (R137, R138). The access begins, and
its act answers it, where the port is QUIET and the other select deasserted; otherwise the select stands asserted and is not
answered. A select that is asserted already is not asserted again (log entry 2). -/
def assertSelect (p : Port) (sel : Select) (beside : Bool) (act : State → State) (s : State) : State :=
  if (s.port p).selected sel then s
  else
    let s := s.modPort p fun r => r.setSelect sel true
    if beside then s.modPort p fun r => r.setSelect (otherSelect sel) true
    else if (s.port p).handshake = .quiet ∧ !(s.port p).selected (otherSelect sel) then act s
    else s

/-- The CH 0 write of an order row: it comes about when its word completes an order of that row, which is then taken
whole (R140). -/
def orderWrite (kind : OrderKind) (body : OrderBody) (w : OrderWrite) (s : State) : State :=
  if (s.port w.port).completedKind w.data = some kind then
    assertSelect w.port .write w.beside (takeOrder kind body w.port w.data w.mperm) s
  else s

/-- The CH 0 write of a word that completes no order of the catalogue (R140). -/
def plainWrite (w : OrderWrite) (s : State) : State :=
  if (s.port w.port).completedKind w.data = none then
    assertSelect w.port .write w.beside (takeWord w.port w.data) s
  else s

end Sys2Proof.Machine
end

