-- ==== Sys2Proof/Machine/Ownership.lean ====
section
/-! DEFINITION. The PEN lines and the transfer of ownership (R148 to R150). -/

namespace Sys2Proof.Machine

/-- The circuits a port owns, in ascending order. -/
def State.ownedBy (s : State) (p : Port) : List (Fin 96) := allCircuits.filter fun c => (s.circuit c).owner = some p

/-- The circuit items on an attention list, in its order. -/
def circuitItems (items : List Item) : List (Fin 96) :=
  items.filterMap fun it =>
    match it with
    | .circuit c => some c
    | .slot _ | .group _ | .watch _ => none

/-- The circuits a transfer moves, in the order in which they join the other list (R149): those on the list of the port
that loses them, in its order, and then the others in ascending order. -/
def transferOrder (x : Port) (s : State) : List (Fin 96) :=
  let listed := (circuitItems (s.port x).attention).filter fun c => (s.circuit c).owner = some x
  listed ++ (s.ownedBy x).filter fun c => !listed.contains c

/-- One circuit passes from a port to another (R149): the pending sets merge, the losing port's discarded count kept,
transferred is added, and the item moves to the tail of the other list unless it stands there already. -/
def transferCircuit (x y : Port) (c : Fin 96) (s : State) : State :=
  let moved := (s.port x).pendOf (.circuit c)
  let s := s.modCircuit c fun k => { k with owner := some y }
  let s := s.modPort x fun r => (r.setPend (.circuit c) EventSet.empty).leave (.circuit c)
  s.modPort y fun r => (r.setPend (.circuit c) ((moved.union (r.pendOf (.circuit c))).add .transferred)).join (.circuit c)

/-- Every circuit a port owns passes to another port (R149, R150). -/
def transferAll (x y : Port) (s : State) : State := (transferOrder x s).foldl (fun s c => transferCircuit x y c s) s

/-! ## PEN falling (R148, R149) -/

/-- A slot that is not FREE is freed as PEN falls: a waiting slot leaves its queue, and a seizing slot is unlinked from its
circuit (R148 step 2). -/
def dropSlot (id : SlotId) (s : State) : State :=
  match s.slot id with
  | .free => s
  | .waiting call _ _ _ => freeSlotOf id (leaveQueue call.group id s)
  | .seizing _ c => freeSlotOf id (s.modCircuit c fun k => { k with slot := none })
  | .outcome _ _ => freeSlotOf id s

/-- The pending sets of a port's slots are emptied and the slot items leave its list (R148 step 3). -/
def PortRecord.dropSlotItems (r : PortRecord) : PortRecord :=
  let r := allSixteen.foldl (fun r n => r.setPend (.slot n) EventSet.empty) r
  { r with attention := r.attention.filter fun it =>
      match it with
      | .slot _ => false
      | .circuit _ | .group _ | .watch _ => true }

/-- PEN falls on an enabled port (R148), and its circuits pass to the other port if that is enabled (R149). -/
def fallPen (x : Port) (s : State) : State :=
  let s := s.modPort x fun r => { r with enabled := false }
  let s := abandonReport x s
  let s := allSixteen.foldl (fun s n => dropSlot { port := x, num := n } s) s
  let s := s.modPort x PortRecord.dropSlotItems
  if (s.port (otherPort x)).enabled then transferAll x (otherPort x) s else s

/-- PEN_FALL (R148); PEN that is deasserted already does not fall (log entry 2). -/
def execPenFall (x : Port) (s : State) : Host.Outcome State Fault Refusal :=
  unlessReset (fun s => if (s.port x).enabled then fallPen x s else s) s

/-! ## PEN rising (R150) -/

/-- Whether a port's report read is of a circuit the port owns (R150). -/
def readsOwnCircuit (y : Port) (s : State) : Bool :=
  match (s.port y).report with
  | some k =>
    match k.item with
    | .circuit c => (s.circuit c).owner = some y
    | .slot _ | .group _ | .watch _ => false
  | none => false

/-- PEN rises on a disabled port (R150): the circuits of the other port, if that is disabled, pass to it. -/
def risePen (x : Port) (s : State) : State :=
  let y := otherPort x
  let s := s.modPort x fun r => { r with enabled := true }
  if (s.port y).enabled then s
  else transferAll y x (if readsOwnCircuit y s then abandonReport y s else s)

/-- PEN_RISE (R150); PEN that is asserted already does not rise (log entry 2). -/
def execPenRise (x : Port) (s : State) : Host.Outcome State Fault Refusal :=
  unlessReset (fun s => if (s.port x).enabled then s else risePen x s) s

end Sys2Proof.Machine
end

