-- ==== Sys2Proof/Machine/Outgoing.lean ====
section
/-! DEFINITION. The supervision machine of an outgoing call (R40 to R61): proceed, the entry test, answer supervision, the
clear-forward, the guard wait, and the expiries of its intervals. -/

namespace Sys2Proof.Machine

/-! ## Clear-forward (R57 to R59) -/

/-- The circuit's own part of a clear-forward (R57, R58, R169): it enters OUT_RELEASING with its owner kept; from
OUT_SEIZING before seize_time + min_seize the lead is held ON with the timer as the hold, and otherwise it goes OFF
and guard_wait starts. -/
def releaseForward (c : Fin 96) (s : State) : State :=
  let k := s.circuit c
  let hold := k.state = .outSeizing ∧ elapsed s.timeBase k.seizeTime < k.minSeize
  let s := s.modCircuit c fun k =>
    { k with state := .outReleasing, relTime := some s.timeBase, presentOn := s.leadOn c }
  if hold then s.modCircuit c fun k => { k with timer := some { start := k.seizeTime, value := k.minSeize } }
  else (s.drive c .off).startTimer c (s.par c .guardWait)

/-- A circuit clears forward (R57): its sender is detached, its request withdrawn, its slot link broken, and it enters
OUT_RELEASING. -/
def clearForward (c : Fin 96) (s : State) : State :=
  releaseForward c (breakLink c (withdraw c (detachFrom c s)))

/-- An automatic clear (R57, R61): the cause is set, the event raised, and the circuit clears forward. -/
def autoClear (c : Fin 96) (cause : Cause) (e : Event) (s : State) : State :=
  let s := s.modCircuit c fun k => { k with cause := cause }
  clearForward c (s.raiseCircuit c e)

/-! ## Answer supervision (R53 to R56) -/

/-- Whether the present ON has reached ans_rec in a state that takes it as answer (R53). -/
def answerRecognizedDue (c : Fin 96) (s : State) : Bool :=
  ((s.circuit c).state = .outSending ∨ (s.circuit c).state = .outWaitAnswer) ∧ s.leadOn c ∧
    (s.heldOf c).ansRec ≤ s.recFor c

/-- Answer is recognized (R53): the sender is detached, a request withdrawn, the unsent digits removed, and answered
raised with their number. -/
def recognizeAnswer (c : Fin 96) (s : State) : State :=
  let s := withdraw c (detachFrom c s)
  let k := s.circuit c
  let discarded := k.digits.length - k.sent
  let s := s.modCircuit c fun k =>
    { k with digits := k.digits.take k.sent, timer := none, state := .outAnswered, answered := true
             ansTime := s.timeBase }
  s.raiseAnswered c discarded

/-- ANSWER_RECOGNIZED (R53). -/
def execAnswerRecognized (circuit : Nat) (s : State) : Host.Outcome State Fault Refusal :=
  onCircuit circuit answerRecognizedDue recognizeAnswer s

/-- Whether the present OFF has reached cb_rec in OUT_ANSWERED (R54). -/
def clearBackDue (c : Fin 96) (s : State) : Bool :=
  (s.circuit c).state = .outAnswered ∧ !s.leadOn c ∧ (s.heldOf c).cbRec ≤ s.recFor c

/-- Clear-back is recognized (R54). -/
def recognizeClearBack (c : Fin 96) (s : State) : State :=
  let limit := s.par c .cbLimit
  let s := s.modCircuit c fun k =>
    { k with state := .outClearedBack
             timer := if limit = 0 then none else some { start := s.timeBase, value := 1000 * limit } }
  s.raiseCircuit c .clearedBack

/-- CLEAR_BACK_RECOGNIZED (R54). -/
def execClearBackRecognized (circuit : Nat) (s : State) : Host.Outcome State Fault Refusal :=
  onCircuit circuit clearBackDue recognizeClearBack s

/-- Whether the present ON has reached ans_rec in OUT_CLEARED_BACK (R55). -/
def reanswerDue (c : Fin 96) (s : State) : Bool :=
  (s.circuit c).state = .outClearedBack ∧ s.leadOn c ∧ (s.heldOf c).ansRec ≤ s.recFor c

/-- Re-answer is recognized (R55). -/
def recognizeReanswer (c : Fin 96) (s : State) : State :=
  (s.modCircuit c fun k => { k with state := .outAnswered, timer := none }).raiseCircuit c .reanswered

/-- REANSWER_RECOGNIZED (R55). -/
def execReanswerRecognized (circuit : Nat) (s : State) : Host.Outcome State Fault Refusal :=
  onCircuit circuit reanswerDue recognizeReanswer s

/-- Whether cb_limit has expired in OUT_CLEARED_BACK (R56). -/
def cbLimitDue (c : Fin 96) (s : State) : Bool := (s.circuit c).state = .outClearedBack ∧ s.timerDue c

/-- cb_limit expires (R56). -/
def expireCbLimit (c : Fin 96) (s : State) : State := autoClear c .cbLimit .autoCleared s

/-- CB_LIMIT_EXPIRY (R56). -/
def execCbLimitExpiry (circuit : Nat) (s : State) : Host.Outcome State Fault Refusal :=
  onCircuit circuit cbLimitDue expireCbLimit s

/-! ## Sending (R46 to R51) -/

/-- The entry test of OUT_SENDING (R46, R50): with nothing left to send the circuit passes to OUT_WAIT_ANSWER if eon is
set and otherwise starts the stall timer; with a digit left a parked sender resumes, a sender whose start instant is
not yet decided has it decided, and a circuit without unit or request requests a sender. -/
def entryTest (c : Fin 96) (s : State) : State :=
  let k := s.circuit c
  if k.digitLeft then
    let s := s.modCircuit c fun k => { k with timer := none }
    match k.unit with
    | some u =>
      match (s.unit u).state with
      | .sender .parked => resume u c s
      | .sender .waitStart => if (s.unit u).subEnd.isNone then decideStart u c s else s
      | .sender .inBreak | .sender .inMake | .sender .pause | .register _ | .free | .outOfService => s
    | none => if k.unitReq.isNone then requestUnit c .sender s else s
  else if k.eon then
    let s := withdraw c (detachFrom c s)
    let s := s.modCircuit c fun k => { k with state := .outWaitAnswer, timer := none }
    s.raiseCircuit c .digitsSent
  else s.startTimer c (1000 * s.par c .stallLimit)

/-- The circuit proceeds into OUT_SENDING (R45): the timer stops, proceed is raised, the slot link is broken, and the entry
test is made; an ON that has already reached ans_rec is then answer at the same instant (R53). -/
def proceed (c : Fin 96) (s : State) : State :=
  let s := s.modCircuit c fun k => { k with timer := none }
  let s := s.raiseCircuit c .proceed
  let s := breakLink c s
  let s := s.modCircuit c fun k => { k with state := .outSending }
  let s := entryTest c s
  if answerRecognizedDue c s then recognizeAnswer c s else s

/-- Whether pre_pause has expired in OUT_SEIZING of a TIMED_START group (R45, R93). -/
def prePauseDue (c : Fin 96) (s : State) : Bool :=
  (s.circuit c).state = .outSeizing ∧ s.startMode c = .timedStart ∧ (s.circuit c).glarePhase ≠ .holding ∧ s.timerDue c

/-- PRE_PAUSE_EXPIRY (R45). -/
def execPrePauseExpiry (circuit : Nat) (s : State) : Host.Outcome State Fault Refusal :=
  onCircuit circuit prePauseDue proceed s

/-- Whether the stall timer has expired (R51). -/
def stallDue (c : Fin 96) (s : State) : Bool := (s.circuit c).state = .outSending ∧ s.timerDue c

/-- The stall timer expires (R51). -/
def expireStall (c : Fin 96) (s : State) : State := autoClear c .stall .autoCleared s

/-- STALL_EXPIRY (R51). -/
def execStallExpiry (circuit : Nat) (s : State) : Host.Outcome State Fault Refusal :=
  onCircuit circuit stallDue expireStall s

/-! ## Waits of a seizing or sending circuit (R44, R52, R92) -/

/-- Whether ack_wait has expired in OUT_SEIZING: in an ACK_START group, or in HOLDING in either start mode (R44, R91). -/
def ackWaitDue (c : Fin 96) (s : State) : Bool :=
  (s.circuit c).state = .outSeizing ∧ (s.startMode c = .ackStart ∨ (s.circuit c).glarePhase = .holding) ∧ s.timerDue c

/-- ack_wait expires: no_proceed, or glare_unresolved in HOLDING (R44, R92, R93). -/
def expireAckWait (c : Fin 96) (s : State) : State :=
  autoClear c (if (s.circuit c).glarePhase = .holding then .glareUnresolved else .noProceed) .seizeFailed s

/-- ACK_WAIT_EXPIRY (R44). -/
def execAckWaitExpiry (circuit : Nat) (s : State) : Host.Outcome State Fault Refusal :=
  onCircuit circuit ackWaitDue expireAckWait s

/-- Whether the sender wait is reached (R52). -/
def senderWaitDue (c : Fin 96) (s : State) : Bool :=
  ((s.circuit c).state = .outSeizing ∨ (s.circuit c).state = .outSending) ∧ s.requestDue c .sender

/-- The sender wait is reached (R52): the request is withdrawn and the call fails with sender_congestion. -/
def expireSenderWait (c : Fin 96) (s : State) : State :=
  let e := if (s.circuit c).state = .outSeizing then Event.seizeFailed else Event.autoCleared
  autoClear c .senderCongestion e (withdraw c s)

/-- SENDER_WAIT_EXPIRY (R52). -/
def execSenderWaitExpiry (circuit : Nat) (s : State) : Host.Outcome State Fault Refusal :=
  onCircuit circuit senderWaitDue expireSenderWait s

/-! ## Release (R58 to R60) -/

/-- Whether the seizure hold has come to seize_time + min_seize (R58): in OUT_RELEASING the lead is still ON. -/
def seizeHoldDue (c : Fin 96) (s : State) : Bool :=
  (s.circuit c).state = .outReleasing ∧ (s.circuit c).sup = .on ∧ s.timerDue c

/-- The seizure hold ends: the lead goes OFF and guard_wait starts (R58, R59). -/
def endSeizeHold (c : Fin 96) (s : State) : State := (s.drive c .off).startTimer c (s.par c .guardWait)

/-- SEIZE_HOLD_END (R58). -/
def execSeizeHoldEnd (circuit : Nat) (s : State) : Host.Outcome State Fault Refusal :=
  onCircuit circuit seizeHoldDue endSeizeHold s

/-- Whether guard_wait has expired in OUT_RELEASING (R60). -/
def guardWaitDue (c : Fin 96) (s : State) : Bool :=
  (s.circuit c).state = .outReleasing ∧ (s.circuit c).sup = .off ∧ s.timerDue c

/-- guard_wait expires: the circuit enters FAULT (R60, R169). -/
def expireGuardWait (c : Fin 96) (s : State) : State :=
  let s := s.modCircuit c fun k => { k with cause := .guardFailed }
  let s := s.raiseCircuit c .guardFailed
  let s := s.modCircuit c fun k => { k with owner := none, state := .fault, timer := none }
  s.drive c .off

/-- GUARD_WAIT_EXPIRY (R60). -/
def execGuardWaitExpiry (circuit : Nat) (s : State) : Host.Outcome State Fault Refusal :=
  onCircuit circuit guardWaitDue expireGuardWait s

/-- A release guard is recognized in OUT_RELEASING (R59): released is raised for the owner, the owner is cleared, and the
circuit becomes idle. -/
def recognizeGuard (c : Fin 96) (s : State) : State :=
  let s := s.raiseCircuit c .released
  becomesIdle c (s.modCircuit c fun k => { k with owner := none, timer := none })

/-- A late guard is recognized in FAULT (R170). -/
def recognizeLateGuard (c : Fin 96) (s : State) : State := becomesIdle c (s.raiseCircuit c .lateGuard)

end Sys2Proof.Machine
end

