-- ==== Sys2Proof/Machine/Glare.lean ====
section
/-! DEFINITION. Glare (R88 to R99): a far ON that reaches ack_max in OUT_SEIZING, this end's priority, the yield, and the
displaced call. -/

namespace Sys2Proof.Machine

/-- This end's priority on glare (R89). -/
def hasPriority (rule : GlareRule) (trunkNo : Nat) : Bool :=
  match rule with
  | .priorityAll => true
  | .priorityNone => false
  | .priorityEven => trunkNo % 2 = 0
  | .priorityOdd => trunkNo % 2 = 1

/-- Whether the present ON has reached ack_max in OUT_SEIZING, timed from its TO_ON stamp, or from seize_time if it was
present at the seizure (R43, R88); in HOLDING it has already been taken (R92). -/
def ackMaxDue (c : Fin 96) (s : State) : Bool :=
  let k := s.circuit c
  k.state = .outSeizing ∧ s.leadOn c ∧ k.glarePhase ≠ .holding ∧
    (if k.presentOn then k.seizeAckMax ≤ elapsed s.timeBase k.seizeTime else (s.heldOf c).ackMax ≤ s.recFor c)

/-- The priority end keeps its seizure (R91). -/
def holdGlare (c : Fin 96) (s : State) : State :=
  let s := s.modCircuit c fun k =>
    { k with glarePhase := .holding, glareTime := some s.timeBase
             timer := some { start := s.timeBase, value := s.par c .ackWait } }
  s.raiseCircuit c .glareWon

/-! ## The displaced call (R96 to R99) -/

/-- A slot of a call given up on glare enters OUTCOME with glare_failed (R96, R98). -/
def failGlare (id : SlotId) (call : SlotCall) (s : State) : State :=
  (s.setSlot id (.outcome call .glareFailed)).raiseSlot id .glareFailed

/-- The rehunt of a displaced call (R97), and what follows if it finds no circuit (R98). -/
def rehunt (id : SlotId) (call : SlotCall) (digits : List (Fin 10)) (eon : Bool) (s : State) : State :=
  match huntChoice (s.group call.group).huntMode (s.group call.group).idle with
  | some d =>
    let s := leaveIdleList d s
    let s := s.setSlot id (.seizing call d)
    (enterOutSeizing d id digits eon s).raiseSlot id .rehunted
  | none =>
    if 0 < call.wait then
      let s := s.setSlot id (.waiting call digits eon (s.expiryAfter call.wait))
      let s := s.modGroup call.group fun k => { k with queue := id :: k.queue }
      s.raiseSlot id .glareQueued
    else failGlare id call s

/-- seized and rehunted are taken out of a slot's pending set and out of the events that a report read of the slot in
progress would merge back (R96). -/
def forgetSeized (id : SlotId) (s : State) : State :=
  let drop (k : EventSet) : EventSet := (k.remove .seized).remove .rehunted
  s.modPort id.port fun r =>
    let r := r.setPend (.slot id.num) (drop (r.pendOf (.slot id.num)))
    { r with report := r.report.map fun k => if k.item = .slot id.num then { k with events := drop k.events } else k }

/-- The outgoing call displaced by a yield goes on in its slot (R96), or is dropped if it has none (R99). -/
def displaceCall (c : Fin 96) (s : State) : State :=
  let k := s.circuit c
  let s := s.modCircuit c fun k => { k with digits := [], eon := false, slot := none }
  match k.slot with
  | none => s
  | some id =>
    match s.slot id with
    | .seizing call _ =>
      let s := forgetSeized id s
      if call.glareCount = 0 then rehunt id { call with glareCount := 1 } k.digits k.eon s
      else failGlare id call s
    | .free | .waiting _ _ _ _ | .outcome _ _ => s

/-- The yielded circuit begins an incoming call (R95): the call fields are set, and the seizure is offered without a
preseizure. -/
def beginYielded (c : Fin 96) (s : State) : State :=
  let s := s.modCircuit c fun k =>
    { k.startCall .incoming (s.startMode c) with
      digits := [], eon := false, glarePhase := .yielded, glareTime := some s.timeBase, glareSep := s.par c .sep }
  offerCall c s

/-- The non-priority end yields (R94). -/
def yieldGlare (c : Fin 96) (s : State) : State :=
  let s := (s.modCircuit c fun k => { k with timer := none }).drive c .off
  let s := withdraw c (detachFrom c s)
  let s := s.raiseCircuit c .glareLost
  beginYielded c (displaceCall c s)

/-- A far ON reaches ack_max (R43, R88, R93): glare in a BOTHWAY group, where the priority decides; a line fault in an
OUTGOING group; and in FAR_CLEARED a glare left unresolved. -/
def reachAckMax (c : Fin 96) (s : State) : State :=
  if (s.circuit c).glarePhase = .farCleared then autoClear c .glareUnresolved .seizeFailed s
  else
    match (s.circuit c).group with
    | some g =>
      match (s.group g).direction with
      | .bothway => if hasPriority (s.group g).glareRule (s.circuit c).trunkNo then holdGlare c s else yieldGlare c s
      | .outgoing | .incoming | .none => autoClear c .lineFault .seizeFailed s
    | none => autoClear c .lineFault .seizeFailed s

/-- ACK_MAX_REACHED (R43). -/
def execAckMaxReached (circuit : Nat) (s : State) : Host.Outcome State Fault Refusal :=
  onCircuit circuit ackMaxDue reachAckMax s

end Sys2Proof.Machine
end

