-- ==== Sys2Proof/Machine/Incoming.lean ====
section
/-! DEFINITION. The supervision machine of an incoming call (R64 to R87): seizure, the register wait, digits, the
acknowledgement pulse, deferred answer, clear-forward and the release guard; and the far seizure of a blocked circuit
(R167). -/

namespace Sys2Proof.Machine

/-! ## Seizure (R68), the register wait (R70) and lost digits (R71) -/

/-- Whether the ON of IN_PRESEIZE has reached sz_rec (R68). -/
def seizureDue (c : Fin 96) (s : State) : Bool := (s.circuit c).state = .inPreseize ∧ s.timerDue c

/-- SEIZURE_RECOGNIZED (R68): the call is offered. -/
def execSeizureRecognized (circuit : Nat) (s : State) : Host.Outcome State Fault Refusal :=
  onCircuit circuit seizureDue offerCall s

/-- Whether the register wait is reached (R70). -/
def registerWaitDue (c : Fin 96) (s : State) : Bool := (s.circuit c).state = .inSeized ∧ s.requestDue c .register

/-- The register wait is reached (R70): the request is withdrawn and register_congestion raised; the circuit stays in
IN_SEIZED. -/
def congestRegister (c : Fin 96) (s : State) : State := (withdraw c s).raiseCircuit c .registerCongestion

/-- REGISTER_CONGESTION (R70). -/
def execRegisterCongestion (circuit : Nat) (s : State) : Host.Outcome State Fault Refusal :=
  onCircuit circuit registerWaitDue congestRegister s

/-- A break in IN_SEIZED of a TIMED_START group (R71): the request is withdrawn, the circuit enters IN_HELD and digits_lost
is raised. -/
def loseDigits (c : Fin 96) (s : State) : State :=
  let s := withdraw c s
  let s := s.modCircuit c fun k => { k with state := .inHeld, timer := none }
  s.raiseCircuit c .digitsLost

/-! ## Digits (R74 to R76) -/

/-- A circuit leaves IN_RECEIVING for IN_HELD: its register is detached and its timer stops (R75 to R77). -/
def holdCall (c : Fin 96) (s : State) : State :=
  let s := s.modCircuit c fun k => { k with state := .inHeld, timer := none }
  detachFrom c s

/-- A circuit receives a valid completed digit (R74), or its 25th (R75). -/
def receiveDigit (c : Fin 96) (d : Fin 10) (s : State) : State :=
  if (s.circuit c).digits.length < 24 then
    let s := s.modCircuit c fun k => { k with digits := k.digits ++ [d] }
    (s.startTimer c (1000 * s.par c .digWait)).raiseCircuit c .digit
  else holdCall c (s.raiseCircuit c .digitOverflow)

/-- Whether fd_wait or dig_wait has expired in IN_RECEIVING (R76). -/
def digitTimeoutDue (c : Fin 96) (s : State) : Bool := (s.circuit c).state = .inReceiving ∧ s.timerDue c

/-- The digit wait expires (R76). -/
def timeOutDigits (c : Fin 96) (s : State) : State := holdCall c (s.raiseCircuit c .digitTimeout)

/-- DIGIT_TIMEOUT (R76). -/
def execDigitTimeout (circuit : Nat) (s : State) : Host.Outcome State Fault Refusal :=
  onCircuit circuit digitTimeoutDue timeOutDigits s

/-! ## The acknowledgement pulse (R72, R73, R95) -/

/-- The incoming states through which an acknowledgement pulse runs (R73). -/
def CircuitState.pulsing : CircuitState → Bool
  | .inReceiving | .inHeld | .inAnswered | .inClearedBack => true
  | .unequipped | .blocked | .fault | .idle | .outSeizing | .outSending | .outWaitAnswer | .outAnswered
  | .outClearedBack | .outReleasing | .inPreseize | .inSeized | .inGuard => false

/-- Whether the instant of a deferred acknowledgement has come (R95). -/
def ackPulseStartDue (c : Fin 96) (s : State) : Bool :=
  match (s.circuit c).ackPulse with
  | .scheduled t => (s.circuit c).state.pulsing ∧ reached s.timeBase t
  | .none | .running | .ended => false

/-- The deferred acknowledgement of a yielded call begins (R95). -/
def startAckPulse (c : Fin 96) (s : State) : State :=
  (s.modCircuit c fun k => { k with ackPulse := .running }).drive c .on

/-- ACK_PULSE_START (R95). -/
def execAckPulseStart (circuit : Nat) (s : State) : Host.Outcome State Fault Refusal :=
  onCircuit circuit ackPulseStartDue startAckPulse s

/-- Whether a running acknowledgement pulse has come to ack_end (R73). -/
def ackPulseEndDue (c : Fin 96) (s : State) : Bool :=
  (s.circuit c).ackPulse = .running ∧ (s.circuit c).state.pulsing ∧ instantDue s.timeBase (s.circuit c).ackEnd

/-- The acknowledgement pulse ends (R73): the lead goes OFF, sep is held for an answer (R79), and in IN_RECEIVING with no
digit yet fd_wait starts. -/
def endAckPulse (c : Fin 96) (s : State) : State :=
  let s := s.modCircuit c fun k => { k with ackPulse := .ended, ackEndSep := s.par c .sep }
  let s := s.drive c .off
  if (s.circuit c).state = .inReceiving ∧ (s.circuit c).digits = [] then s.startTimer c (1000 * s.par c .fdWait)
  else s

/-- ACK_PULSE_END (R73). -/
def execAckPulseEnd (circuit : Nat) (s : State) : Host.Outcome State Fault Refusal :=
  onCircuit circuit ackPulseEndDue endAckPulse s

/-- An acknowledgement pulse is cut at the present instant, or cancelled before it began (R65, R83, R95). DESIGN CHOICE (log
entry 24): a deferred pulse whose beginning has come, but is not yet taken, at the instant of the cut is cancelled too; R95
speaks only of a cut before glare_time + sep. -/
def cutAckPulse (c : Fin 96) (s : State) : State :=
  match (s.circuit c).ackPulse with
  | .running =>
    s.modCircuit c fun k =>
      { k with ackPulse := .ended, ackEnd := some s.timeBase, ackEndSep := s.par c .sep }
  | .scheduled _ => s.modCircuit c fun k => { k with ackPulse := .none, ackEnd := none }
  | .none | .ended => s

/-! ## Answer (R79, R80) -/

/-- The instant to which an ANSWER is deferred, if it is (R79): ack_end plus sep, while the pulse is running or yet to
begin, with the sep of the present instant, and until then after its end, with the sep held at ack_end. -/
def answerDeferral (c : Fin 96) (s : State) : Option Time :=
  let k := s.circuit c
  match k.ackEnd, k.ackPulse with
  | some t, .running => some (timeAfter t (s.par c .sep))
  | some t, .scheduled _ => some (timeAfter t (s.par c .sep))
  | some t, .ended => if elapsed s.timeBase t < k.ackEndSep then some (timeAfter t k.ackEndSep) else none
  | some _, .none => none
  | none, _ => none

/-- The send lead goes ON for an answer (R80): answered and ans_time are set if this is the first. -/
def showAnswer (c : Fin 96) (s : State) : State :=
  (s.modCircuit c fun k =>
    { k with ansDue := none, answered := true, ansTime := if k.answered then k.ansTime else s.timeBase }).drive c .on

/-- An ANSWER takes effect (R79). -/
def answerCall (c : Fin 96) (s : State) : State :=
  let s := s.modCircuit c fun k => { k with state := .inAnswered, timer := none }
  let s := detachFrom c s
  match answerDeferral c s with
  | some t => s.modCircuit c fun k => { k with ansDue := some t }
  | none => showAnswer c s

/-- Whether a deferred answer has come to ans_due (R80). -/
def answerDueNow (c : Fin 96) (s : State) : Bool :=
  (s.circuit c).state = .inAnswered ∧ instantDue s.timeBase (s.circuit c).ansDue

/-- ANSWER_DUE (R80). -/
def execAnswerDue (circuit : Nat) (s : State) : Host.Outcome State Fault Refusal :=
  onCircuit circuit answerDueNow showAnswer s

/-- A CLEAR BACK takes effect (R81): the lead goes OFF, but for an acknowledgement pulse still running. -/
def clearBackCall (c : Fin 96) (s : State) : State :=
  let s := s.modCircuit c fun k => { k with state := .inClearedBack, ansDue := none }
  if (s.circuit c).ackPulse = .running then s else s.drive c .off

/-! ## Clear-forward and the release guard (R82 to R84) -/

/-- The incoming states that take an OFF of cf_rec as clear-forward (R82). -/
def CircuitState.clearable : CircuitState → Bool
  | .inSeized | .inReceiving | .inHeld | .inAnswered | .inClearedBack => true
  | .unequipped | .blocked | .fault | .idle | .outSeizing | .outSending | .outWaitAnswer | .outAnswered
  | .outClearedBack | .outReleasing | .inPreseize | .inGuard => false

/-- Whether the present OFF has reached cf_rec (R82). -/
def clearForwardDue (c : Fin 96) (s : State) : Bool :=
  (s.circuit c).state.clearable ∧ !s.leadOn c ∧ (s.heldOf c).cfRec ≤ s.recFor c

/-- The guard ON begins for guard_send (R84). -/
def beginGuardOn (c : Fin 96) (s : State) : State := (s.drive c .on).startTimer c (s.par c .guardSend)

/-- The OFF gap still to run before the guard ON of a lead that is OFF at entry: the gap of sep from the instant it last
went OFF, if that is not over (R84). -/
def remainingGap (c : Fin 96) (s : State) : Option Timer :=
  match (s.circuit c).lastOff with
  | some k => if elapsed s.timeBase k.start < k.value then some k else none
  | none => none

/-- The guard sequence begins at the entry to IN_GUARD (R84); `wasOn` is the send lead at the instant of entry. -/
def beginGuard (c : Fin 96) (wasOn : Bool) (s : State) : State :=
  if wasOn then (s.drive c .off).startTimer c (s.par c .sep)
  else
    match remainingGap c s with
    | some k => s.modCircuit c fun r => { r with timer := some k }
    | none => beginGuardOn c s

/-- Clear-forward is recognized (R83). -/
def recognizeClearForward (c : Fin 96) (s : State) : State :=
  let wasOn : Bool := (s.circuit c).sup = .on
  let s := withdraw c (detachFrom c s)
  let s := s.modCircuit c fun k => { k with timer := none, ansDue := none }
  let s := cutAckPulse c s
  let s := s.raiseCircuit c .clearedForward
  let s := s.modCircuit c fun k => { k with state := .inGuard }
  beginGuard c wasOn s

/-- CLEAR_FORWARD_RECOGNIZED (R83). -/
def execClearForwardRecognized (circuit : Nat) (s : State) : Host.Outcome State Fault Refusal :=
  onCircuit circuit clearForwardDue recognizeClearForward s

/-- Whether the OFF gap of IN_GUARD has ended (R84): the lead is OFF. -/
def guardSepDue (c : Fin 96) (s : State) : Bool :=
  (s.circuit c).state = .inGuard ∧ (s.circuit c).sup = .off ∧ s.timerDue c

/-- GUARD_SEP_END (R84). -/
def execGuardSepEnd (circuit : Nat) (s : State) : Host.Outcome State Fault Refusal :=
  onCircuit circuit guardSepDue beginGuardOn s

/-- Whether the guard ON of IN_GUARD has ended (R84). -/
def guardEndDue (c : Fin 96) (s : State) : Bool :=
  (s.circuit c).state = .inGuard ∧ (s.circuit c).sup = .on ∧ s.timerDue c

/-- The guard ON ends: the lead goes OFF, the owner is cleared and the circuit becomes idle (R84). -/
def endGuard (c : Fin 96) (s : State) : State :=
  becomesIdle c ((s.drive c .off).modCircuit c fun k => { k with owner := none, timer := none })

/-- GUARD_END (R84). -/
def execGuardEnd (circuit : Nat) (s : State) : Host.Outcome State Fault Refusal :=
  onCircuit circuit guardEndDue endGuard s

/-! ## A blocked circuit (R167) -/

/-- Whether the ON of a BLOCKED circuit has reached sz_rec (R167). -/
def farSeizeDue (c : Fin 96) (s : State) : Bool := (s.circuit c).state = .blocked ∧ s.timerDue c

/-- A far seizure of a blocked circuit is reported; the timer is absent until the next TO_ON (R167). -/
def reportFarSeize (c : Fin 96) (s : State) : State :=
  (s.modCircuit c fun k => { k with timer := none }).raiseCircuit c .farSeizeBlocked

/-- FAR_SEIZE_BLOCKED (R167). -/
def execFarSeizeBlocked (circuit : Nat) (s : State) : Host.Outcome State Fault Refusal :=
  onCircuit circuit farSeizeDue reportFarSeize s

end Sys2Proof.Machine
end

