-- ==== Sys2Proof/Machine/Reference.lean ====
section
/-! DEFINITION. The Pulse Timing Reference (R123 to R135): taking a period, lock, apply, the count of digits, and what
CONFIGURE GROUP and REFERENCE CONTROL do to it. -/

namespace Sys2Proof.Machine

/-- t_bm as an apply computes it (R128). -/
def computedBm (ref kBm : Nat) : Nat := max 40 (min 200 (ref * kBm / 256))

/-- t_id as an apply computes it (R128). -/
def computedId (ref kId : Nat) : Nat := max 220 (min 1000 (ref * kId / 256))

/-- A reference after an apply (R128): since_apply returns to 0, and with override off the thresholds take the values
computed from ref and the factors of the instant. -/
def Group.applied (k : Group) : Reference :=
  let r := { k.reference with sinceApply := 0 }
  if k.par .override = 0 then
    { r with tBm := computedBm r.ref (k.par .kBm), tId := computedId r.ref (k.par .kId) }
  else r

/-- Write a group's reference, and raise applied if its thresholds changed (R128, R130). -/
def State.setThresholds (s : State) (g : Fin 8) (r : Reference) : State :=
  let old := (s.group g).reference
  let s := s.modGroup g fun k => { k with reference := r }
  if old.tBm = r.tBm ∧ old.tId = r.tId then s else s.raiseGroup g .applied

/-- Make an apply on a group's reference (R128). -/
def applyReference (g : Fin 8) (s : State) : State := s.setThresholds g (s.group g).applied

/-- Whether a period is in band: the magnitude of 16·P − ref at most ref div 8 (R124 step 1). -/
def Reference.inBand (r : Reference) (p : Nat) : Bool := ((16 * p : Int) - r.ref).natAbs ≤ r.ref / 8

/-- ref after a period: one eighth of the way toward 16·P, truncated toward zero (R124 step 2). -/
def Reference.follow (r : Reference) (p : Nat) : Nat :=
  ((r.ref : Int) + ((16 * p : Int) - r.ref).tdiv 8).toNat

/-- The reference of a group takes a period (R124, R126, R127). -/
def takePeriod (g : Fin 8) (p : Nat) (s : State) : State :=
  let r := (s.group g).reference
  let band := r.inBand p
  let moved := { r with ref := r.follow p }
  if r.locked then
    if band then s.modGroup g fun k => { k with reference := { moved with outRun := 0 } }
    else if r.outRun + 1 ≥ 3 then
      (s.modGroup g fun k =>
        { k with reference := { moved with locked := false, inRun := 0, outRun := 0 } }).raiseGroup g .unlocked
    else s.modGroup g fun k => { k with reference := { moved with outRun := r.outRun + 1 } }
  else
    if band then
      if r.inRun + 1 ≥ 4 then
        let s := (s.modGroup g fun k =>
          { k with reference := { moved with locked := true, inRun := 4, outRun := 0 } }).raiseGroup g .locked
        if (s.group g).par .gate = 0 then applyReference g s else s
      else s.modGroup g fun k => { k with reference := { moved with inRun := r.inRun + 1 } }
    else s.modGroup g fun k => { k with reference := { moved with inRun := 0 } }

/-- The reference of a group counts a valid completed digit, and applies when the count, the lock and the gate allow it
(R129). -/
def countDigit (g : Fin 8) (s : State) : State :=
  let n := min 64 ((s.group g).reference.sinceApply + 1)
  let s := s.modGroup g fun k => { k with reference := { k.reference with sinceApply := n } }
  if (s.group g).par .applyEvery ≤ n ∧ (s.group g).reference.locked ∧ (s.group g).par .gate = 0 then
    applyReference g s
  else s

/-- What a CONFIGURE GROUP does to the group's reference once its parameters are stored; `old` is the group before the
order (R130, R131). -/
def configureReference (g : Fin 8) (old : Group) (s : State) : State :=
  let k := s.group g
  if old.par .override = 1 ∧ k.par .override = 0 then applyReference g s
  else if k.par .override = 1 ∧
      (old.par .override = 0 ∨ old.par .ovrId ≠ k.par .ovrId ∨ old.par .ovrBm ≠ k.par .ovrBm) then
    s.setThresholds g { k.reference with tBm := k.par .ovrBm, tId := k.par .ovrId }
  else s

/-- A REFERENCE CONTROL SET stores ref, clamped, and unlocks the reference (R133). -/
def setReference (g : Fin 8) (v : Nat) (s : State) : State :=
  let was := (s.group g).reference.locked
  let s := s.modGroup g fun k =>
    { k with reference :=
        { k.reference with ref := max 800 (min 3200 v), locked := false, inRun := 0, outRun := 0 } }
  if was then s.raiseGroup g .unlocked else s

end Sys2Proof.Machine
end

