-- ==== Sys2Proof/Machine/Pulsing.lean ====
section
/-! DEFINITION. Sending and receiving digits (R48, R117 to R122): the substates of a sender as its intervals end, and of
a register as it takes the recognized transitions of its circuit's receive lead. -/

namespace Sys2Proof.Machine

/-! ## Senders (R117, R118) -/

/-- Whether a sender is in a substate whose sub_end has come. -/
def senderDue (sub : SenderSub) (u : Fin 16) (s : State) : Bool :=
  (s.unit u).state = .sender sub ∧ instantDue s.timeBase (s.unit u).subEnd

/-- A sender enters BREAK for its circuit's next digit (R117). -/
def startDigit (u : Fin 16) (s : State) : State :=
  match (s.unit u).circuit with
  | some c => beginDigit u c s
  | none => s

/-- SENDER_START (R117): the start instant has come. -/
def execSenderStart (unit : Nat) (s : State) : Host.Outcome State Fault Refusal :=
  onUnit unit (senderDue .waitStart) startDigit s

/-- A digit ends at the end of its last break (R48): it is counted, last_brk_end takes the instant, and the sender
pauses before the next digit, is detached with eon set, or parks, passes on or goes out of service (R110). -/
def endDigit (u : Fin 16) (c : Fin 96) (s : State) : State :=
  let s := s.modCircuit c fun k =>
    { k with sent := k.sent + 1, lastBrkEnd := s.timeBase, idSend := s.par c .idSend }
  if (s.circuit c).digitLeft then
    s.modUnit u fun k =>
      { k with state := .sender .pause, subEnd := some (timeAfter s.timeBase (s.par c .idSend)) }
  else if (s.circuit c).eon then
    let s := detach u s
    let s := s.modCircuit c fun k => { k with state := .outWaitAnswer, timer := none }
    s.raiseCircuit c .digitsSent
  else endWithoutEon u c (s.startTimer c (1000 * s.par c .stallLimit))

/-- A sender's break ends (R118): it enters MAKE while breaks are left to send, and otherwise the digit ends. -/
def endBreak (u : Fin 16) (s : State) : State :=
  match (s.unit u).circuit with
  | some c =>
    if (s.unit u).count < (s.unit u).pulses then
      s.modUnit u fun k =>
        { k with state := .sender .inMake, subEnd := some (timeAfter s.timeBase (s.par c .mkSend)) }
    else endDigit u c s
  | none => s

/-- SENDER_BREAK_END (R118). -/
def execSenderBreakEnd (unit : Nat) (s : State) : Host.Outcome State Fault Refusal :=
  onUnit unit (senderDue .inBreak) endBreak s

/-- A sender's make ends: it enters the next BREAK of the digit (R118). -/
def endMake (u : Fin 16) (s : State) : State :=
  match (s.unit u).circuit with
  | some c =>
    s.modUnit u fun k =>
      { k with state := .sender .inBreak, count := k.count + 1, prevBrkStart := k.brkStart
               brkStart := some s.timeBase, subEnd := some (timeAfter s.timeBase (s.par c .brkSend)) }
  | none => s

/-- SENDER_MAKE_END (R118). -/
def execSenderMakeEnd (unit : Nat) (s : State) : Host.Outcome State Fault Refusal :=
  onUnit unit (senderDue .inMake) endMake s

/-- SENDER_PAUSE_END (R118): the sender enters BREAK for the next digit. -/
def execSenderPauseEnd (unit : Nat) (s : State) : Host.Outcome State Fault Refusal :=
  onUnit unit (senderDue .pause) startDigit s

/-! ## Registers (R119 to R122) -/

/-- A register's record in WAIT_DIGIT with nothing counted (R119 to R121). -/
def DigitUnit.awaitDigit (k : DigitUnit) : DigitUnit :=
  { k with state := .register .waitDigit, count := 0, brkStart := none, prevBrkStart := none, subEnd := none
           longBrk := false }

/-- Whether a register's break has reached t_bm with the break not yet marked long (R120). -/
def longBreakDue (u : Fin 16) (s : State) : Bool :=
  (s.unit u).state = .register .inBreak ∧ !(s.unit u).longBrk ∧ instantDue s.timeBase (s.unit u).subEnd

/-- A register's break reaches t_bm: it is long (R120). -/
def markLong (u : Fin 16) (s : State) : State := s.modUnit u fun k => { k with longBrk := true }

/-- LONG_BREAK (R120). -/
def execLongBreak (unit : Nat) (s : State) : Host.Outcome State Fault Refusal :=
  onUnit unit longBreakDue markLong s

/-- The digit of a count of pulses: 1 to 9 that digit, 10 digit 0, and none for more than ten (R121). -/
def digitOfCount (n : Nat) : Option (Fin 10) :=
  if n = 0 then none else if n ≤ 10 then some ⟨n % 10, by omega⟩ else none

/-- Whether a register's make has reached t_id (R121). -/
def digitCompleteDue (u : Fin 16) (s : State) : Bool :=
  (s.unit u).state = .register .inMake ∧ instantDue s.timeBase (s.unit u).subEnd

/-- A register's make reaches t_id (R121): the register returns to WAIT_DIGIT, and a valid digit is handed to the circuit
and counted by the group's reference, while a train of more than ten pulses raises pulse_error. That the circuit's event
is raised before the group's is a DESIGN CHOICE (log entry 22). -/
def completeDigit (u : Fin 16) (s : State) : State :=
  match (s.unit u).circuit with
  | some c =>
    let n := (s.unit u).count
    let s := s.modUnit u DigitUnit.awaitDigit
    match digitOfCount n with
    | some d =>
      let s := receiveDigit c d s
      match (s.circuit c).group with
      | some g => countDigit g s
      | none => s
    | none => s.raiseCircuit c .pulseError
  | none => s

/-- DIGIT_COMPLETE (R121). -/
def execDigitComplete (unit : Nat) (s : State) : Host.Outcome State Fault Refusal :=
  onUnit unit digitCompleteDue completeDigit s

/-- The t_bm and t_id that a register of a circuit applies now (R120, R128, R130). -/
def State.applied (s : State) (c : Fin 96) : Nat × Nat :=
  match (s.circuit c).group with
  | some g => ((s.group g).reference.tBm, (s.group g).reference.tId)
  | none => (Reference.reset.tBm, Reference.reset.tId)

/-- A period measured by a register is handed to the group's reference if track is on and the period lies from 50 to 200
(R122). -/
def handPeriod (c : Fin 96) (start : Option Time) (s : State) : State :=
  match (s.circuit c).group, start with
  | some g, some t =>
    let p := elapsed s.timeBase t
    if (s.group g).par .track = 1 ∧ 50 ≤ p ∧ p ≤ 200 then takePeriod g p s else s
  | some _, none => s
  | none, _ => s

/-- A register takes a TO_OFF (R120, R122): from WAIT_DIGIT or MAKE a break begins, timed against the t_bm applied at the
stamp; a break begun from MAKE then hands its period on. -/
def registerOff (u : Fin 16) (c : Fin 96) (s : State) : State :=
  let k := s.unit u
  let begin_ (prev : Option Time) (s : State) : State :=
    s.modUnit u fun k =>
      { k with state := .register .inBreak, longBrk := false, prevBrkStart := prev, brkStart := some s.timeBase
               subEnd := some (timeAfter s.timeBase (s.applied c).1) }
  match k.state with
  | .register .waitDigit => begin_ none s
  | .register .inMake => handPeriod c k.brkStart (begin_ k.brkStart s)
  | .register .inBreak | .free | .outOfService | .sender _ => s

/-- A register takes a TO_ON (R120): a break that ended before t_bm is a pulse, timed toward the t_id applied at the stamp;
one that reached t_bm discards the digit with pulse_error. -/
def registerOn (u : Fin 16) (c : Fin 96) (s : State) : State :=
  let k := s.unit u
  match k.state with
  | .register .inBreak =>
    if k.longBrk ∨ instantDue s.timeBase k.subEnd then
      (s.modUnit u DigitUnit.awaitDigit).raiseCircuit c .pulseError
    else
      s.modUnit u fun k =>
        { k with state := .register .inMake, count := min 11 (k.count + 1)
                 subEnd := some (timeAfter s.timeBase (s.applied c).2) }
  | .register .waitDigit | .register .inMake | .free | .outOfService | .sender _ => s

/-- The unit attached to a circuit takes a recognized transition, if it is a register (R5). -/
def registerTransition (c : Fin 96) (cond : Cond) (s : State) : State :=
  match (s.circuit c).unit with
  | some u =>
    match cond with
    | .on => registerOn u c s
    | .off => registerOff u c s
  | none => s

end Sys2Proof.Machine
end

