-- ==== Sys2Proof/Machine/Leads.lean ====
section
/-! DEFINITION. The receive path (R3 to R6, R178, R179): raw lead changes, the acceptance of a filter candidate, and the
three users of a recognized transition. -/

namespace Sys2Proof.Machine

/-! ## The supervision machine takes a transition -/

/-- The supervision machine takes a TO_ON stamped now, by the circuit's state (R25, R41, R59, R66, R167, R170). -/
def supervisionOn (c : Fin 96) (s : State) : State :=
  let k := s.circuit c
  match k.state with
  | .idle => if (s.direction c).incomingCapable then enterPreseize c s else s
  | .blocked => s.startTimer c (s.par c .szRec)
  | .fault => s.modCircuit c fun r => { r with presentOn := false }
  | .outSeizing => s.modCircuit c fun r => { r with presentOn := decide (s.timeBase = r.seizeTime) }
  | .outReleasing => s.modCircuit c fun r => { r with presentOn := decide (some s.timeBase = r.relTime) }
  | .unequipped | .outSending | .outWaitAnswer | .outAnswered | .outClearedBack | .inPreseize | .inSeized
  | .inReceiving | .inHeld | .inAnswered | .inClearedBack | .inGuard => s

/-- A TO_OFF in OUT_SEIZING ends an ON of a width (R42, R92, R93): in HOLDING the far end has given way; an ON that was
present at the seizure is no acknowledgement; otherwise in an ACK_START group a width from ack_min up to ack_max
is the acknowledgement, and the circuit proceeds. -/
def seizingOff (c : Fin 96) (width : Nat) (h : Held) (s : State) : State :=
  let k := s.circuit c
  let s := s.modCircuit c fun r => { r with presentOn := false }
  if k.glarePhase = .holding then
    let s := s.modCircuit c fun r => { r with glarePhase := .farCleared }
    match s.startMode c with
    | .ackStart => s
    | .timedStart => s.startTimer c (s.par c .prePause)
  else if !k.presentOn ∧ s.startMode c = .ackStart ∧ h.ackMin ≤ width ∧ width < h.ackMax then proceed c s
  else s

/-- The supervision machine takes a TO_OFF stamped now that ends an ON of a width, with the thresholds held from the ON's
beginning, by the circuit's state (R42, R59, R67, R71, R92, R167, R170). In BLOCKED it stops a timer that a RESET CIRCUIT
at the same instant has just started (DEDUCED, log entry 23). -/
def supervisionOff (c : Fin 96) (width : Nat) (h : Held) (s : State) : State :=
  let k := s.circuit c
  match k.state with
  | .inPreseize => becomesIdle c (s.modCircuit c fun r => { r with timer := none })
  | .blocked => s.modCircuit c fun r => { r with timer := none }
  | .inSeized =>
    match s.startMode c with
    | .timedStart => loseDigits c s
    | .ackStart => s
  | .outSeizing => seizingOff c width h s
  | .outReleasing =>
    let s := s.modCircuit c fun r => { r with presentOn := false }
    if !k.presentOn ∧ h.guardMin ≤ width then recognizeGuard c s else s
  | .fault =>
    let s := s.modCircuit c fun r => { r with presentOn := false }
    if !k.presentOn ∧ h.guardMin ≤ width then recognizeLateGuard c s else s
  | .unequipped | .idle | .outSending | .outWaitAnswer | .outAnswered | .outClearedBack | .inReceiving | .inHeld
  | .inAnswered | .inClearedBack | .inGuard => s

/-! ## The watch channels take a transition (R178, R179) -/

/-- Whether a watch channel's edge matches a transition to a condition (R178). -/
def Edge.matches : Edge → Cond → Bool
  | .any, _ => true
  | .toOn, .on => true
  | .toOn, .off => false
  | .toOff, .off => true
  | .toOff, .on => false

/-- Whether a watch channel matches a transition of a circuit's lead (R178). -/
def WatchChannel.matching (k : WatchChannel) (c : Fin 96) (cond : Cond) : Bool :=
  k.enable ∧ k.circuit = c ∧ k.edge.matches cond

/-- A matching watch channel counts the transition, saturating, and raises matched (R178). -/
def countMatch (w : Fin 8) (s : State) : State :=
  let k := s.watch w
  (s.setWatch w { k with matchCount := min 65535 (k.matchCount + 1) }).raiseMatched w k.reportTo

/-- The value of a force channel after the actions collected for it from one transition (R179). -/
def resolveActions (actions : List Action) (value : Cond) : Cond :=
  if actions.contains .set then .on
  else if actions.contains .clear then .off
  else if actions.contains .toggle then oppositeCond value
  else value

/-- The watch channels take a recognized transition whole (R178): each that matches counts and reports it, and then each
force channel takes the one resolved value (R179). That the channels that match report in ascending number is a DESIGN
CHOICE (log entry 22). -/
def watchTransition (c : Fin 96) (cond : Cond) (s : State) : State :=
  let matched := allEight.filter fun w => (s.watch w).matching c cond
  let s := matched.foldl (fun s w => countMatch w s) s
  allEight.foldl (fun s f =>
    let actions := (matched.filter fun w => (s.watch w).target = f).map fun w => (s.watch w).action
    s.setForce f { s.force f with value := resolveActions actions (s.force f).value }) s

/-! ## Acceptance of a candidate (R5, R6) -/

/-- The recognitions that the interval now ending has reached at this very instant are taken before its ending
transition (R6, R68, R120, R121). -/
def reachedFirst (c : Fin 96) (s : State) : State :=
  let s :=
    if seizureDue c s then offerCall c s
    else if farSeizeDue c s then reportFarSeize c s
    else if ackMaxDue c s then reachAckMax c s
    else if answerRecognizedDue c s then recognizeAnswer c s
    else if clearBackDue c s then recognizeClearBack c s
    else if reanswerDue c s then recognizeReanswer c s
    else if clearForwardDue c s then recognizeClearForward c s
    else s
  match (s.circuit c).unit with
  | some u =>
    if digitCompleteDue u s then completeDigit u s
    else if longBreakDue u s then markLong u s
    else s
  | none => s

/-- Whether a filter channel's candidate has reached its persistence (R5). -/
def candidateDue (c : Fin 96) (s : State) : Bool :=
  match (s.filter c).cand with
  | some k => k.persistence ≤ elapsed s.timeBase k.start
  | none => false

/-- A filter channel's candidate is accepted (R5): rec_cond and rec_time change, and the transition is delivered to the
supervision machine, to the attached register and to the watch channels, in this order (log entry 6). -/
def acceptCandidate (c : Fin 96) (s : State) : State :=
  let s := reachedFirst c s
  let h := s.heldOf c
  let width := s.recFor c
  let cond := oppositeCond (s.filter c).recCond
  let s := s.setFilter c { recCond := cond, recTime := s.timeBase, cand := none }
  let s := s.modCircuit c fun k => { k with held := s.thresholds c }
  let s :=
    match cond with
    | .on => supervisionOn c s
    | .off => supervisionOff c width h s
  watchTransition c cond (registerTransition c cond s)

/-- RECOGNIZED_TRANSITION (R5). -/
def execRecognizedTransition (circuit : Nat) (s : State) : Host.Outcome State Fault Refusal :=
  onCircuit circuit candidateDue acceptCandidate s

/-! ## Raw lead changes (R4) -/

/-- The raw condition of a receive lead: rec_cond with no candidate, its opposite with one (R4). -/
def FilterChannel.raw (k : FilterChannel) : Cond :=
  match k.cand with
  | some _ => oppositeCond k.recCond
  | none => k.recCond

/-- A candidate begins, with the group's filt of the instant, or 8 in no group (R4). -/
def beginCandidate (c : Fin 96) (s : State) : State :=
  s.setFilter c { s.filter c with cand := some { start := s.timeBase, persistence := s.par c .filt } }

/-- A raw lead changes (R4): away from rec_cond a candidate begins; back to rec_cond the candidate is discarded, unless it
reaches its persistence at this very instant: then it is accepted and the return begins a new one. -/
def changeRaw (c : Fin 96) (s : State) : State :=
  match (s.filter c).cand with
  | none => beginCandidate c s
  | some _ =>
    if candidateDue c s then beginCandidate c (acceptCandidate c s)
    else s.setFilter c { s.filter c with cand := none }

/-- RAW_LEAD_CHANGE (R4): the lead takes a condition; a lead that already shows it does not change (log entry 2). -/
def execRawLeadChange (lead : Nat) (cond : Cond) (s : State) : Host.Outcome State Fault Refusal :=
  onCircuit lead (fun c s => (s.filter c).raw ≠ cond) changeRaw s

end Sys2Proof.Machine
end

