-- ==== Sys2Proof/Machine/CallOrders.lean ====
section
/-! DEFINITION. The call orders (R35 to R38, R49, R50, R57, R77 to R81) and the READ orders (R146, R147): the checks each
makes after the common refusals, in the order its rule gives, and its effect. -/

namespace Sys2Proof.Machine

/-- A refused order changes nothing, and its block holds its result code alone (R143). -/
def refuse (r : Result) (s : State) : State × List Word := (s, oneWord r)

/-- An order answered OK (R142). -/
def accept (s : State) : State × List Word := (s, oneWord .ok)

/-! ## SEIZE (R35, R36) -/

/-- A SEIZE that passed its tests is carried out by the hunt (R36). -/
def seizeCircuit (id : SlotId) (call : SlotCall) (digits : List (Fin 10)) (eon : Bool) (s : State) :
    State × List Word :=
  match huntChoice (s.group call.group).huntMode (s.group call.group).idle with
  | some c =>
    let s := (leaveIdleList c s).setSlot id (.seizing call c)
    (enterOutSeizing c id digits eon s, resultBlock .seized [pack [(c.val, 6, 0)], slotWord id])
  | none =>
    if 0 < call.wait then
      let s := s.setSlot id (.waiting call digits eon (s.expiryAfter call.wait))
      (s.modGroup call.group fun k => { k with queue := k.queue ++ [id] }, resultBlock .queued [slotWord id])
    else refuse .congestion s

/-- SEIZE (R35, R184). -/
def orderSeize (p : Port) (ws : List Word) (s : State) : State × List Word :=
  let wait := field (wordAt ws 2) 15 10
  let n := field (wordAt ws 2) 4 0
  match eightOf (field (wordAt ws 1) 7 4) with
  | none => refuse .badGroup s
  | some g =>
    if !(s.group g).direction.outgoingCapable then refuse .badGroup s
    else if 60 < wait then refuse .badValue s
    else
      match digitsOf (nibbles (ws.drop 3) n) with
      | none => refuse .digitBad s
      | some digits =>
        if 24 < n then refuse .digitOverflow s
        else
          match s.freeSlot p with
          | none => refuse .noSlot s
          | some id =>
            let tag := BitVec.ofNat 8 (field (wordAt ws 1) 15 8)
            seizeCircuit id { tag := tag, group := g, wait := wait, glareCount := 0 } digits
              (bitSet (wordAt ws 2) 9) s

/-! ## ADD DIGITS (R49, R50) -/

/-- Digits and eon are added to a circuit's string (R50): in OUT_SEIZING a sender is requested if a digit is left and none
is attached or requested; in OUT_SENDING the entry test is applied afresh. -/
def extendDigits (c : Fin 96) (digits : List (Fin 10)) (eon : Bool) (s : State) : State :=
  let s := s.modCircuit c fun k => { k with digits := k.digits ++ digits, eon := k.eon || eon }
  let k := s.circuit c
  if k.state = .outSeizing then
    if k.digitLeft ∧ k.unit.isNone ∧ k.unitReq.isNone then requestUnit c .sender s else s
  else entryTest c s

/-- ADD DIGITS (R49, R184). -/
def orderAddDigits (p : Port) (ws : List Word) (s : State) : State × List Word :=
  let n := field (wordAt ws 1) 4 0
  match circuitOf (field (wordAt ws 1) 15 9) with
  | none => refuse .badValue s
  | some c =>
    match digitsOf (nibbles (ws.drop 2) n) with
    | none => refuse .digitBad s
    | some digits =>
      let k := s.circuit c
      if k.owner ≠ some p then refuse .notOwner s
      else if (k.state ≠ .outSeizing ∧ k.state ≠ .outSending) ∨ k.eon then refuse .wrongState s
      else if 24 < k.digits.length + n then refuse .digitOverflow s
      else accept (extendDigits c digits (bitSet (wordAt ws 1) 8) s)

/-! ## Orders on an owned circuit (R57, R77, R78, R81) -/

/-- The tests of an order that names a circuit in a call: the number, the owner, and the state (R145). -/
def ownedOrder (allowed : CircuitState → Bool) (act : Fin 96 → State → State) (p : Port) (ws : List Word) (s : State) :
    State × List Word :=
  match circuitOf (field (wordAt ws 1) 6 0) with
  | none => refuse .badValue s
  | some c =>
    if (s.circuit c).owner ≠ some p then refuse .notOwner s
    else if !allowed (s.circuit c).state then refuse .wrongState s
    else accept (act c s)

/-- The states in which CLEAR acts (R57). -/
def CircuitState.clearsForward : CircuitState → Bool
  | .outSeizing | .outSending | .outWaitAnswer | .outAnswered | .outClearedBack => true
  | .unequipped | .blocked | .fault | .idle | .outReleasing | .inPreseize | .inSeized | .inReceiving | .inHeld
  | .inAnswered | .inClearedBack | .inGuard => false

/-- CLEAR (R57). -/
def orderClear : OrderBody := ownedOrder CircuitState.clearsForward clearForward

/-- RELEASE REGISTER (R77). -/
def orderReleaseRegister : OrderBody := ownedOrder (fun st => st = .inReceiving) holdCall

/-- The states in which ANSWER acts (R78). -/
def CircuitState.answerable : CircuitState → Bool
  | .inReceiving | .inHeld | .inClearedBack => true
  | .unequipped | .blocked | .fault | .idle | .outSeizing | .outSending | .outWaitAnswer | .outAnswered
  | .outClearedBack | .outReleasing | .inPreseize | .inSeized | .inAnswered | .inGuard => false

/-- ANSWER (R78, R79). -/
def orderAnswer : OrderBody := ownedOrder CircuitState.answerable answerCall

/-- CLEAR BACK (R81). -/
def orderClearBack : OrderBody := ownedOrder (fun st => st = .inAnswered) clearBackCall

/-! ## CANCEL (R38) -/

/-- The pending events of a slot are discarded and it leaves its port's list (R38, R155). -/
def discardSlotEvents (id : SlotId) (s : State) : State :=
  s.modPort id.port fun r => (r.setPend (.slot id.num) EventSet.empty).leave (.slot id.num)

/-- CANCEL (R38, R184). -/
def orderCancel (p : Port) (ws : List Word) (s : State) : State × List Word :=
  let w := wordAt ws 1
  match sixteenOf (field w 5 0) with
  | none => refuse .badValue s
  | some n =>
    if (if bitSet w 7 then Port.B else Port.A) ≠ p then refuse .notOwner s
    else
      let id : SlotId := { port := p, num := n }
      match s.slot id with
      | .waiting call _ _ _ => accept (discardSlotEvents id (freeSlotOf id (leaveQueue call.group id s)))
      | .seizing _ _ | .outcome _ _ => refuse .tooLate s
      | .free => refuse .wrongState s

/-! ## READ orders (R146, R147) -/

/-- READ CIRCUIT (R146). -/
def orderReadCircuit (_p : Port) (ws : List Word) (s : State) : State × List Word :=
  match circuitOf (field (wordAt ws 1) 6 0) with
  | none => refuse .badValue s
  | some c => (s, resultBlock .ok (circuitSnapshot c s))

/-- READ GROUP (R147). -/
def orderReadGroup (_p : Port) (ws : List Word) (s : State) : State × List Word :=
  match eightOf (field (wordAt ws 1) 3 0) with
  | none => refuse .badGroup s
  | some g => (s, resultBlock .ok (groupSnapshot g s))

/-- READ UNIT (R147). -/
def orderReadUnit (_p : Port) (ws : List Word) (s : State) : State × List Word :=
  match sixteenOf (field (wordAt ws 1) 4 0) with
  | none => refuse .badValue s
  | some u => (s, resultBlock .ok (unitSnapshot u s))

end Sys2Proof.Machine
end

