-- ==== Sys2Proof/Machine/Maintenance.lean ====
section
/-! DEFINITION. The maintenance orders but RESTART CALLS: CONFIGURE GROUP (R21, R22), ASSIGN CIRCUIT (R23), BLOCK, UNBLOCK
and RESET CIRCUIT (R164 to R171), UNIT SERVICE (R115), REFERENCE CONTROL (R132, R133), WATCH SET and FORCE SET (R181,
R182). -/

namespace Sys2Proof.Machine

/-! ## CONFIGURE GROUP (R21, R22) -/

/-- The fields a CONFIGURE GROUP carries (R21). -/
structure GroupChange where
  direction : Option Direction
  startMode : Option StartMode
  huntMode : Option HuntMode
  glareRule : Option GlareRule
  distribution : Option Distribution
  params : List (Param × Nat)
deriving DecidableEq, Repr

/-- A CONFIGURE GROUP that carries nothing (R184). -/
def GroupChange.empty : GroupChange :=
  { direction := none, startMode := none, huntMode := none, glareRule := none, distribution := none, params := [] }

/-- The direction of a code (R184). -/
def directionOf : Nat → Option Direction
  | 0 => some .none
  | 1 => some .outgoing
  | 2 => some .incoming
  | 3 => some .bothway
  | _ => none

/-- The start mode of a code (R184). -/
def startModeOf : Nat → Option StartMode
  | 0 => some .ackStart
  | 1 => some .timedStart
  | _ => none

/-- The hunt mode of a code (R184). -/
def huntModeOf : Nat → Option HuntMode
  | 0 => some .lowFirst
  | 1 => some .highFirst
  | 2 => some .longestIdle
  | _ => none

/-- The glare rule of a code (R184). -/
def glareRuleOf : Nat → Option GlareRule
  | 0 => some .priorityAll
  | 1 => some .priorityNone
  | 2 => some .priorityEven
  | 3 => some .priorityOdd
  | _ => none

/-- The distribution of a code (R184). -/
def distributionOf : Nat → Option Distribution
  | 0 => some .fixedA
  | 1 => some .fixedB
  | 2 => some .alternate
  | _ => none

/-- One field once carried: none where the field was carried before or its code is outside its values (R21 test 2). -/
def carryOnce {α : Type} (held : Option α) (code : Option α) : Option α :=
  match held with
  | none => code
  | some _ => none

/-- A parameter once carried: none where it was carried before, or is a switch with a value other than 0 or 1 (R21
test 2). -/
def carryParam (k : GroupChange) (p : Param) (v : Nat) : Option GroupChange :=
  if (k.params.any fun x => x.1 = p) ∨ (p.isSwitch ∧ 1 < v) then none
  else some { k with params := k.params ++ [(p, v)] }

/-- A pair of a selector and a value added to what an order carries (R184); none where test 2 of R21 refuses it. -/
def carryPair (k : GroupChange) (sel v : Nat) : Option GroupChange :=
  match sel with
  | 1 => (carryOnce k.direction (directionOf v)).map fun x => { k with direction := some x }
  | 2 => (carryOnce k.startMode (startModeOf v)).map fun x => { k with startMode := some x }
  | 3 => (carryOnce k.huntMode (huntModeOf v)).map fun x => { k with huntMode := some x }
  | 4 => (carryOnce k.glareRule (glareRuleOf v)).map fun x => { k with glareRule := some x }
  | 5 => (carryOnce k.distribution (distributionOf v)).map fun x => { k with distribution := some x }
  | n =>
    match Param.ofSelector n with
    | some p => carryParam k p v
    | none => none

/-- The pairs of an order's words, each a selector word and a value word (R184). -/
def carryPairs : List Word → GroupChange → Option GroupChange
  | sel :: v :: rest, k =>
    match carryPair k (field sel 7 0) v.toNat with
    | some k => carryPairs rest k
    | none => none
  | _, k => some k

/-- Whether a carried value differs from the value held (R21 test 3). -/
def differs {α : Type} [DecidableEq α] (carried : Option α) (held : α) : Bool :=
  match carried with
  | some v => v ≠ held
  | none => false

/-- Whether an order changes a structural field (R21 test 3). -/
def GroupChange.structural (k : GroupChange) (g : Group) : Bool :=
  differs k.direction g.direction || differs k.startMode g.startMode || differs k.huntMode g.huntMode
    || differs k.glareRule g.glareRule || differs k.distribution g.distribution

/-- Whether every member of a group is BLOCKED or IDLE and its wait queue is empty (R21 test 3). -/
def quietGroup (g : Fin 8) (s : State) : Bool :=
  ((s.members g).all fun c => (s.circuit c).state = .blocked ∨ (s.circuit c).state = .idle)
    && (s.group g).queue.isEmpty

/-- The parameters of a group with each carried value stored, clamped (R16, R21). -/
def storeParams (k : GroupChange) (params : Params) : Params :=
  k.params.foldl (fun ps x => ps.set x.1.index (x.1.clamp x.2)) params

/-- Whether a carried parameter value is clamped (R16, R21). -/
def GroupChange.clamps (k : GroupChange) : Bool := k.params.any fun x => x.1.clamp x.2 ≠ x.2

/-- The group record with everything an order carries stored; writing distribution sets next_port to A (R21, R22). -/
def storeGroup (k : GroupChange) (g : Group) : Group :=
  { g with
    direction := k.direction.getD g.direction, startMode := k.startMode.getD g.startMode
    huntMode := k.huntMode.getD g.huntMode, glareRule := k.glareRule.getD g.glareRule
    distribution := k.distribution.getD g.distribution
    nextPort := if k.distribution.isSome then .A else g.nextPort
    params := storeParams k g.params }

/-- Whether a unit is a sender parked on a circuit of a group. -/
def parkedOn (g : Fin 8) (s : State) (u : Fin 16) : Bool :=
  match (s.unit u).circuit with
  | some c => (s.circuit c).group = some g
  | none => false

/-- A changed brk_send, mk_send or id_send detaches the parked senders of the group's circuits, in parked-list order (R22,
R114). -/
def unparkGroup (g : Fin 8) (old : Group) (s : State) : State :=
  let k := s.group g
  if old.par .brkSend ≠ k.par .brkSend ∨ old.par .mkSend ≠ k.par .mkSend ∨ old.par .idSend ≠ k.par .idSend then
    (s.parked.filter (parkedOn g s)).foldl (fun s u => detach u s) s
  else s

/-- A direction changed from OUTGOING to INCOMING or BOTHWAY takes each IDLE member whose receive lead is ON into
IN_PRESEIZE (R22). -/
def turnIncoming (g : Fin 8) (old : Group) (s : State) : State :=
  if old.direction = .outgoing ∧ (s.group g).direction.incomingCapable then
    ((s.members g).filter fun c => (s.circuit c).state = .idle ∧ s.leadOn c).foldl (fun s c => enterPreseize c s) s
  else s

/-- A CONFIGURE GROUP that passed its tests is carried out (R21, R22, R131). -/
def configureGroup (g : Fin 8) (k : GroupChange) (s : State) : State :=
  let old := s.group g
  let s := s.modGroup g (storeGroup k)
  turnIncoming g old (configureReference g old (unparkGroup g old s))

/-- CONFIGURE GROUP (R21, R184). -/
def orderConfigureGroup (_p : Port) (ws : List Word) (s : State) : State × List Word :=
  match eightOf (field (wordAt ws 1) 3 0) with
  | none => refuse .badGroup s
  | some g =>
    match carryPairs (ws.drop 2) GroupChange.empty with
    | none => refuse .badValue s
    | some k =>
      if k.structural (s.group g) ∧ !quietGroup g s then refuse .groupBusy s
      else if k.direction = some .none ∧ s.members g ≠ [] then refuse .groupBusy s
      else (configureGroup g k s, oneWord (if k.clamps then .okClamped else .ok))

/-! ## ASSIGN CIRCUIT (R23) -/

/-- An ASSIGN CIRCUIT that passed its tests (R23): to a group the circuit is BLOCKED, and a BLOCKED one goes on as it was
(log entry 17); to none it is UNEQUIPPED with no timer. -/
def assignCircuit (c : Fin 96) (group : Option (Fin 8)) (trunkNo : Nat) (s : State) : State :=
  let was := (s.circuit c).state
  let s := s.modCircuit c fun k => { k with trunkNo := trunkNo, blockPending := false, group := group }
  match group with
  | some _ => if was = .blocked then s else enterBlocked c s
  | none => (s.modCircuit c fun k => { k with state := .unequipped, timer := none }).drive c .off

/-- ASSIGN CIRCUIT (R23, R184). -/
def orderAssignCircuit (_p : Port) (ws : List Word) (s : State) : State × List Word :=
  let w := wordAt ws 1
  let trunkNo := field (wordAt ws 2) 9 0
  let place (c : Fin 96) (group : Option (Fin 8)) : State × List Word :=
    if (s.circuit c).state ≠ .unequipped ∧ (s.circuit c).state ≠ .blocked then refuse .wrongState s
    else accept (assignCircuit c group trunkNo s)
  match circuitOf (field w 6 0) with
  | none => refuse .badValue s
  | some c =>
    if 999 < trunkNo then refuse .badValue s
    else if bitSet w 15 then place c none
    else
      match eightOf (field w 11 8) with
      | none => refuse .badGroup s
      | some g => if (s.group g).direction = .none then refuse .badGroup s else place c (some g)

/-! ## BLOCK, UNBLOCK and RESET CIRCUIT (R164, R166, R171) -/

/-- An order that names a circuit and has no test but its number. -/
def circuitOrder (act : Fin 96 → State → State × List Word) (ws : List Word) (s : State) : State × List Word :=
  match circuitOf (field (wordAt ws 1) 6 0) with
  | none => refuse .badValue s
  | some c => act c s

/-- BLOCK on a circuit, by its state (R164). -/
def blockCircuit (c : Fin 96) (s : State) : State × List Word :=
  match (s.circuit c).state with
  | .unequipped => refuse .wrongState s
  | .idle => accept (enterBlocked c (leaveIdleList c s))
  | .blocked => accept s
  | .fault | .outSeizing | .outSending | .outWaitAnswer | .outAnswered | .outClearedBack | .outReleasing
  | .inPreseize | .inSeized | .inReceiving | .inHeld | .inAnswered | .inClearedBack | .inGuard =>
    accept (s.modCircuit c fun k => { k with blockPending := true })

/-- BLOCK (R164). -/
def orderBlock (_p : Port) (ws : List Word) (s : State) : State × List Word := circuitOrder blockCircuit ws s

/-- UNBLOCK on a circuit (R166): a BLOCKED circuit stops its timer and becomes idle; in any other state block_pending is
cleared. -/
def unblockCircuit (c : Fin 96) (s : State) : State × List Word :=
  if (s.circuit c).state = .blocked then accept (becomesIdle c (s.modCircuit c fun k => { k with timer := none }))
  else accept (s.modCircuit c fun k => { k with blockPending := false })

/-- UNBLOCK (R166). -/
def orderUnblock (_p : Port) (ws : List Word) (s : State) : State × List Word := circuitOrder unblockCircuit ws s

/-- RESET CIRCUIT on a circuit (R171): a FAULT circuit becomes idle. -/
def resetFault (c : Fin 96) (s : State) : State × List Word :=
  if (s.circuit c).state = .fault then accept (becomesIdle c s) else refuse .wrongState s

/-- RESET CIRCUIT (R171). -/
def orderResetCircuit (_p : Port) (ws : List Word) (s : State) : State × List Word := circuitOrder resetFault ws s

/-! ## UNIT SERVICE (R115) -/

/-- An order that names a unit (R115). -/
def unitOrder (act : Fin 16 → State → State) (ws : List Word) (s : State) : State × List Word :=
  match sixteenOf (field (wordAt ws 1) 4 0) with
  | none => refuse .badValue s
  | some u => accept (act u s)

/-- UNIT SERVICE off, by the unit's state (R115). -/
def takeUnitOut (u : Fin 16) (s : State) : State :=
  match (s.unit u).state with
  | .free => s.modUnit u fun k => { k with state := .outOfService }
  | .outOfService => s
  | .sender .parked => (unlinkUnit u s).modUnit u fun k => { k with state := .outOfService, pendingOos := false }
  | .sender .waitStart | .sender .inBreak | .sender .inMake | .sender .pause | .register _ =>
    s.modUnit u fun k => { k with pendingOos := true }

/-- UNIT SERVICE off (R115). -/
def orderUnitServiceOff (_p : Port) (ws : List Word) (s : State) : State × List Word := unitOrder takeUnitOut ws s

/-- UNIT SERVICE on, by the unit's state (R115). -/
def bringUnitIn (u : Fin 16) (s : State) : State :=
  match (s.unit u).state with
  | .outOfService => becomeAvailable u (s.modUnit u fun k => { k with state := .free })
  | .free => s
  | .sender _ | .register _ => s.modUnit u fun k => { k with pendingOos := false }

/-- UNIT SERVICE on (R115). -/
def orderUnitServiceOn (_p : Port) (ws : List Word) (s : State) : State × List Word := unitOrder bringUnitIn ws s

/-! ## REFERENCE CONTROL (R132, R133) -/

/-- REFERENCE CONTROL with an action other than SET (R132): APPLY makes an apply, and a code from 2 to 15 is refused. -/
def orderReferenceApply (_p : Port) (ws : List Word) (s : State) : State × List Word :=
  match eightOf (field (wordAt ws 1) 3 0) with
  | none => refuse .badGroup s
  | some g => if field (wordAt ws 1) 11 8 = 0 then accept (applyReference g s) else refuse .badValue s

/-- REFERENCE CONTROL SET (R133). -/
def orderReferenceSet (_p : Port) (ws : List Word) (s : State) : State × List Word :=
  let v := (wordAt ws 2).toNat
  match eightOf (field (wordAt ws 1) 3 0) with
  | none => refuse .badGroup s
  | some g => (setReference g v s, oneWord (if v < 800 ∨ 3200 < v then .okClamped else .ok))

/-! ## WATCH SET and FORCE SET (R181, R182) -/

/-- The edge of a code; code 3 is none (R184). -/
def edgeOf : Nat → Option Edge
  | 0 => some .toOn
  | 1 => some .toOff
  | 2 => some .any
  | _ => none

/-- The report_to of a code of two bits (R184). -/
def reportToOf : Nat → ReportTo
  | 0 => .none
  | 1 => .A
  | 2 => .B
  | _ => .both

/-- The action of a code of two bits (R184). -/
def actionOf : Nat → Action
  | 0 => .none
  | 1 => .set
  | 2 => .clear
  | _ => .toggle

/-- WATCH SET (R181, R184). -/
def orderWatchSet (_p : Port) (ws : List Word) (s : State) : State × List Word :=
  let w := wordAt ws 1
  let v := wordAt ws 2
  match eightOf (field w 11 8), circuitOf (field w 6 0), eightOf (field v 3 0), edgeOf (field v 13 12) with
  | some ch, some c, some t, some e =>
    accept (s.setWatch ch
      { enable := bitSet w 15, circuit := c, edge := e, reportTo := reportToOf (field v 9 8)
        action := actionOf (field v 5 4), target := t, matchCount := 0 })
  | _, _, _, _ => refuse .badValue s

/-- FORCE SET (R182, R184). -/
def orderForceSet (_p : Port) (ws : List Word) (s : State) : State × List Word :=
  let w := wordAt ws 1
  match eightOf (field w 11 8), circuitOf (field w 6 0) with
  | some ch, some c =>
    accept (s.setForce ch { enable := bitSet w 15, circuit := c, value := if bitSet w 14 then .on else .off })
  | _, _ => refuse .badValue s

end Sys2Proof.Machine
end

