-- ==== Sys2Proof/Machine/Restart.lean ====
section
/-! DEFINITION. RESTART CALLS (R39, R63, R87, R116, R152, R173 to R175) and device reset. -/

namespace Sys2Proof.Machine

/-! ## RESTART CALLS -/

/-- A unit at the restart (R116): detached without serving, FREE or out of service. -/
def DigitUnit.restarted (k : DigitUnit) : DigitUnit :=
  match k.state with
  | .free | .outOfService => k
  | .sender _ | .register _ =>
    { k.detached with state := if k.pendingOos then .outOfService else .free, pendingOos := false }

/-- A port at the restart (R39, R152, R175): every slot FREE, every pending set and the list empty, and the merge flag of a
report read cleared. -/
def PortRecord.restarted (r : PortRecord) : PortRecord :=
  { r with
    slots := Vector.replicate 16 .free, pend := Vector.replicate 128 EventSet.empty, attention := []
    report := r.report.map fun k => { k with merge := false } }

/-- An incoming call at the restart is held with its lead OFF (R87). -/
def holdAtRestart (c : Fin 96) (s : State) : State :=
  (((cutAckPulse c s).modCircuit c fun k =>
    { k with state := .inHeld, owner := none, ansDue := none, timer := none }).drive c .off)

/-- A circuit at the restart (R63, R87, R174): an outgoing call clears forward, an incoming call is held, and the owner
becomes none. -/
def restartCircuit (c : Fin 96) (s : State) : State :=
  let s := s.modCircuit c fun k => { k with unit := none, unitReq := none, slot := none }
  match (s.circuit c).state with
  | .outSeizing | .outSending | .outWaitAnswer | .outAnswered | .outClearedBack =>
    (releaseForward c s).modCircuit c fun k => { k with owner := none }
  | .inSeized | .inReceiving | .inHeld | .inAnswered | .inClearedBack => holdAtRestart c s
  | .outReleasing | .inGuard => s.modCircuit c fun k => { k with owner := none }
  | .unequipped | .blocked | .fault | .idle | .inPreseize => s

/-- The structures that the restart empties: wait queues, units, unit request queue, parked list, slots and reports (R39,
R116, R175). -/
def emptyAtRestart (s : State) : State :=
  { s with
    groups := s.groups.map fun k => { k with queue := [] }
    units := s.units.map DigitUnit.restarted
    regQueue := [], sndQueue := [], parked := []
    portA := s.portA.restarted, portB := s.portB.restarted }

/-- RESTART CALLS (R173 to R175): it is answered OK and raises no event. -/
def orderRestartCalls (_p : Port) (_ws : List Word) (s : State) : State × List Word :=
  accept (allCircuits.foldl (fun s c => restartCircuit c s) (emptyAtRestart s))

/-! ## Device reset -/

/-- A filter channel at the release of RESET, which takes effect with the raw lead at a condition (R3): rec_cond OFF, and a
raw lead that is ON begins a candidate with persistence 8. -/
def filterAtReset (lead : Bool) : FilterChannel :=
  { recCond := .off, recTime := 0, cand := if lead then some { start := 0, persistence := 8 } else none }

/-- The part from the assertion of RESET on: every field at its reset value and RESET asserted, so that a transfer in
progress is dropped without effect (R136; log entry 3). The queue of commands that wait and the count of free choices are the
model's own and are kept. -/
def assertReset (s : State) : State :=
  { State.reset with resetAsserted := true, pending := s.pending, choices := s.choices }

/-- The part at the release of RESET with the raw receive leads and the PEN lines at their levels (R3, R144); both selects
count as deasserted, held or not (log entry 3). -/
def resetWith (leads : BitVec 96) (penA penB : Bool) (s : State) : State :=
  { State.reset with
    filters := Vector.ofFn fun c : Fin 96 => filterAtReset (leads.getLsbD c.val)
    portA := { PortRecord.reset with enabled := penA }
    portB := { PortRecord.reset with enabled := penB }
    pending := s.pending, choices := s.choices }

/-- DEVICE_RESET (R1, R3, R17, R20, R30, R103, R106, R111, R123, R136, R144, R152, R177, R180): either edge of RESET; RESET that
is not asserted is not released (log entry 2). -/
def execDeviceReset (edge : ResetEdge) (penA penB : Bool) (s : State) : Host.Outcome State Fault Refusal :=
  match edge with
  | .assertion => .next (assertReset s)
  | .release leads => .next (if s.resetAsserted then resetWith leads penA penB s else s)

end Sys2Proof.Machine
end

