-- ==== Sys2Proof/Machine/Orders.lean ====
section
/-! DEFINITION. The port accesses as commands: the write that completes each order, an order word, a write on the report
channel, the two reads, and the deassertion of a select (R137 to R143). -/

namespace Sys2Proof.Machine

/-! ## The orders (section 8.5) -/

/-- What each order does once it has passed the tests of R143. -/
def orderBody : OrderKind → OrderBody
  | .seize => orderSeize
  | .addDigits => orderAddDigits
  | .clear => orderClear
  | .cancel => orderCancel
  | .releaseRegister => orderReleaseRegister
  | .answer => orderAnswer
  | .clearBack => orderClearBack
  | .readCircuit => orderReadCircuit
  | .readGroup => orderReadGroup
  | .readUnit => orderReadUnit
  | .configureGroup => orderConfigureGroup
  | .assignCircuit => orderAssignCircuit
  | .block => orderBlock
  | .unblock => orderUnblock
  | .resetCircuit => orderResetCircuit
  | .unitServiceOff => orderUnitServiceOff
  | .unitServiceOn => orderUnitServiceOn
  | .referenceControlApply => orderReferenceApply
  | .referenceControlSet => orderReferenceSet
  | .watchSet => orderWatchSet
  | .forceSet => orderForceSet
  | .restartCalls => orderRestartCalls

/-- SEIZE: the CH 0 write of the order's last word (R35, R36). -/
def execSeize (w : OrderWrite) (s : State) : Host.Outcome State Fault Refusal :=
  unlessReset (orderWrite .seize (orderBody .seize) w) s

/-- ADD_DIGITS: the CH 0 write of the order's last word (R49, R50). -/
def execAddDigits (w : OrderWrite) (s : State) : Host.Outcome State Fault Refusal :=
  unlessReset (orderWrite .addDigits (orderBody .addDigits) w) s

/-- CLEAR: the CH 0 write of the order's last word (R57). -/
def execClear (w : OrderWrite) (s : State) : Host.Outcome State Fault Refusal :=
  unlessReset (orderWrite .clear (orderBody .clear) w) s

/-- CANCEL: the CH 0 write of the order's last word (R38). -/
def execCancel (w : OrderWrite) (s : State) : Host.Outcome State Fault Refusal :=
  unlessReset (orderWrite .cancel (orderBody .cancel) w) s

/-- RELEASE_REGISTER: the CH 0 write of the order's last word (R77). -/
def execReleaseRegister (w : OrderWrite) (s : State) : Host.Outcome State Fault Refusal :=
  unlessReset (orderWrite .releaseRegister (orderBody .releaseRegister) w) s

/-- ANSWER: the CH 0 write of the order's last word (R78, R79). -/
def execAnswer (w : OrderWrite) (s : State) : Host.Outcome State Fault Refusal :=
  unlessReset (orderWrite .answer (orderBody .answer) w) s

/-- CLEAR_BACK: the CH 0 write of the order's last word (R81). -/
def execClearBack (w : OrderWrite) (s : State) : Host.Outcome State Fault Refusal :=
  unlessReset (orderWrite .clearBack (orderBody .clearBack) w) s

/-- READ_CIRCUIT: the CH 0 write of the order's last word (R146). -/
def execReadCircuit (w : OrderWrite) (s : State) : Host.Outcome State Fault Refusal :=
  unlessReset (orderWrite .readCircuit (orderBody .readCircuit) w) s

/-- READ_GROUP: the CH 0 write of the order's last word (R147). -/
def execReadGroup (w : OrderWrite) (s : State) : Host.Outcome State Fault Refusal :=
  unlessReset (orderWrite .readGroup (orderBody .readGroup) w) s

/-- READ_UNIT: the CH 0 write of the order's last word (R147). -/
def execReadUnit (w : OrderWrite) (s : State) : Host.Outcome State Fault Refusal :=
  unlessReset (orderWrite .readUnit (orderBody .readUnit) w) s

/-- CONFIGURE_GROUP: the CH 0 write of the order's last word (R21, R22). -/
def execConfigureGroup (w : OrderWrite) (s : State) : Host.Outcome State Fault Refusal :=
  unlessReset (orderWrite .configureGroup (orderBody .configureGroup) w) s

/-- ASSIGN_CIRCUIT: the CH 0 write of the order's last word (R23). -/
def execAssignCircuit (w : OrderWrite) (s : State) : Host.Outcome State Fault Refusal :=
  unlessReset (orderWrite .assignCircuit (orderBody .assignCircuit) w) s

/-- BLOCK: the CH 0 write of the order's last word (R164). -/
def execBlock (w : OrderWrite) (s : State) : Host.Outcome State Fault Refusal :=
  unlessReset (orderWrite .block (orderBody .block) w) s

/-- UNBLOCK: the CH 0 write of the order's last word (R166). -/
def execUnblock (w : OrderWrite) (s : State) : Host.Outcome State Fault Refusal :=
  unlessReset (orderWrite .unblock (orderBody .unblock) w) s

/-- RESET_CIRCUIT: the CH 0 write of the order's last word (R171). -/
def execResetCircuit (w : OrderWrite) (s : State) : Host.Outcome State Fault Refusal :=
  unlessReset (orderWrite .resetCircuit (orderBody .resetCircuit) w) s

/-- UNIT_SERVICE_OFF: the CH 0 write of the order's last word (R115). -/
def execUnitServiceOff (w : OrderWrite) (s : State) : Host.Outcome State Fault Refusal :=
  unlessReset (orderWrite .unitServiceOff (orderBody .unitServiceOff) w) s

/-- UNIT_SERVICE_ON: the CH 0 write of the order's last word (R115). -/
def execUnitServiceOn (w : OrderWrite) (s : State) : Host.Outcome State Fault Refusal :=
  unlessReset (orderWrite .unitServiceOn (orderBody .unitServiceOn) w) s

/-- REFERENCE_CONTROL_APPLY: the CH 0 write of the order's last word (R132). -/
def execReferenceControlApply (w : OrderWrite) (s : State) : Host.Outcome State Fault Refusal :=
  unlessReset (orderWrite .referenceControlApply (orderBody .referenceControlApply) w) s

/-- REFERENCE_CONTROL_SET: the CH 0 write of the order's last word (R132, R133). -/
def execReferenceControlSet (w : OrderWrite) (s : State) : Host.Outcome State Fault Refusal :=
  unlessReset (orderWrite .referenceControlSet (orderBody .referenceControlSet) w) s

/-- WATCH_SET: the CH 0 write of the order's last word (R181). -/
def execWatchSet (w : OrderWrite) (s : State) : Host.Outcome State Fault Refusal :=
  unlessReset (orderWrite .watchSet (orderBody .watchSet) w) s

/-- FORCE_SET: the CH 0 write of the order's last word (R182). -/
def execForceSet (w : OrderWrite) (s : State) : Host.Outcome State Fault Refusal :=
  unlessReset (orderWrite .forceSet (orderBody .forceSet) w) s

/-- RESTART_CALLS: the CH 0 write of the order's last word (R173 to R175). -/
def execRestartCalls (w : OrderWrite) (s : State) : Host.Outcome State Fault Refusal :=
  unlessReset (orderWrite .restartCalls (orderBody .restartCalls) w) s

/-! ## The other accesses -/

/-- ORDER_WORD: a CH 0 write that completes no order of the catalogue (R140). -/
def execOrderWord (w : OrderWrite) (s : State) : Host.Outcome State Fault Refusal := unlessReset (plainWrite w) s

/-- REPORT_CHANNEL_WRITE: a CH 1 write; its word is discarded (R139). -/
def execReportChannelWrite (a : Assertion) (_data : Word) (s : State) : Host.Outcome State Fault Refusal :=
  unlessReset (assertSelect a.port .write a.beside (answerReportWrite a.port)) s

/-- RESULT_READ: a CH 0 read (R142). -/
def execResultRead (a : Assertion) (s : State) : Host.Outcome State Fault Refusal :=
  unlessReset (assertSelect a.port .read a.beside (answerResultRead a.port)) s

/-- REPORT_READ: a CH 1 read (R156, R157). -/
def execReportRead (a : Assertion) (s : State) : Host.Outcome State Fault Refusal :=
  unlessReset (assertSelect a.port .read a.beside (answerReportRead a.port)) s

/-! ## The deassertion of a select (R137, R138) -/

/-- A CH 0 write is answered, whatever it completes (R140). -/
def answerOrderWrite (p : Port) (w : Word) (mperm : Bool) (s : State) : State :=
  match (s.port p).completedKind w with
  | some kind => takeOrder kind (orderBody kind) p w mperm s
  | none => takeWord p w s

/-- The access of the other select than the one deasserted begins on a QUIET port, which samples its lines at that instant,
and is answered by its direction and its channel (R137 to R139). -/
def beginOther (p : Port) (d : Deassertion) (s : State) : State :=
  match d.select, d.ch with
  | .read, .ch0 => answerOrderWrite p d.data d.mperm s
  | .read, .ch1 => answerReportWrite p s
  | .write, .ch0 => answerResultRead p s
  | .write, .ch1 => answerReportRead p s

/-- Whether a port is answering the access of a select. -/
def PortRecord.answers (r : PortRecord) (sel : Select) : Bool :=
  match r.handshake, sel with
  | .replyingWrite, .write => true
  | .replyingRead _ _, .read => true
  | .replyingWrite, .read => false
  | .replyingRead _ _, .write => false
  | .quiet, _ => false

/-- A port as one of its selects is deasserted: it returns to QUIET if it was answering that select (R137, R138). -/
def PortRecord.released (r : PortRecord) (sel : Select) : PortRecord :=
  { r.setSelect sel false with handshake := if r.answers sel then .quiet else r.handshake }

/-- A select is deasserted (R137, R138): where the port is then QUIET and the other select still asserted, the other's
access begins at this instant. DESIGN CHOICE (log entry 5): R138 speaks only of the first select to be deasserted; two
deasserted at one instant are two commands here, so that the access of the second begins and is taken between them. -/
def deassertSelect (p : Port) (d : Deassertion) (s : State) : State :=
  if (s.port p).selected d.select then
    let s := s.modPort p fun r => r.released d.select
    if (s.port p).handshake = .quiet ∧ (s.port p).selected (otherSelect d.select) then beginOther p d s else s
  else s

/-- SELECT_DEASSERT (R137, R138); a select that is not asserted is not deasserted (log entry 2). -/
def execSelectDeassert (p : Port) (d : Deassertion) (s : State) : Host.Outcome State Fault Refusal :=
  unlessReset (deassertSelect p d) s

end Sys2Proof.Machine
end

