-- ==== Sys2Proof/Machine/Dispatch.lean ====
section
/-! DEFINITION. The meaning of every command: one arm per constructor of `Instr`, each one direct call. -/

namespace Sys2Proof.Machine

/-- What a command does to everything but the queue of commands that wait. -/
def exec (i : Instr) (s : State) : Host.Outcome State Fault Refusal :=
  match i with
  | .deviceReset edge penA penB => Sys2Proof.Machine.execDeviceReset edge penA penB s
  | .rawLeadChange lead cond => Sys2Proof.Machine.execRawLeadChange lead cond s
  | .recognizedTransition circuit => Sys2Proof.Machine.execRecognizedTransition circuit s
  | .seizureRecognized circuit => Sys2Proof.Machine.execSeizureRecognized circuit s
  | .ackMaxReached circuit => Sys2Proof.Machine.execAckMaxReached circuit s
  | .ackWaitExpiry circuit => Sys2Proof.Machine.execAckWaitExpiry circuit s
  | .prePauseExpiry circuit => Sys2Proof.Machine.execPrePauseExpiry circuit s
  | .seizeHoldEnd circuit => Sys2Proof.Machine.execSeizeHoldEnd circuit s
  | .guardWaitExpiry circuit => Sys2Proof.Machine.execGuardWaitExpiry circuit s
  | .stallExpiry circuit => Sys2Proof.Machine.execStallExpiry circuit s
  | .cbLimitExpiry circuit => Sys2Proof.Machine.execCbLimitExpiry circuit s
  | .senderWaitExpiry circuit => Sys2Proof.Machine.execSenderWaitExpiry circuit s
  | .registerCongestion circuit => Sys2Proof.Machine.execRegisterCongestion circuit s
  | .answerRecognized circuit => Sys2Proof.Machine.execAnswerRecognized circuit s
  | .clearBackRecognized circuit => Sys2Proof.Machine.execClearBackRecognized circuit s
  | .reanswerRecognized circuit => Sys2Proof.Machine.execReanswerRecognized circuit s
  | .clearForwardRecognized circuit => Sys2Proof.Machine.execClearForwardRecognized circuit s
  | .ackPulseEnd circuit => Sys2Proof.Machine.execAckPulseEnd circuit s
  | .ackPulseStart circuit => Sys2Proof.Machine.execAckPulseStart circuit s
  | .answerDue circuit => Sys2Proof.Machine.execAnswerDue circuit s
  | .digitTimeout circuit => Sys2Proof.Machine.execDigitTimeout circuit s
  | .guardSepEnd circuit => Sys2Proof.Machine.execGuardSepEnd circuit s
  | .guardEnd circuit => Sys2Proof.Machine.execGuardEnd circuit s
  | .farSeizeBlocked circuit => Sys2Proof.Machine.execFarSeizeBlocked circuit s
  | .slotExpiry port slot => Sys2Proof.Machine.execSlotExpiry port slot s
  | .parkLimitExpiry unit => Sys2Proof.Machine.execParkLimitExpiry unit s
  | .senderStart unit => Sys2Proof.Machine.execSenderStart unit s
  | .senderBreakEnd unit => Sys2Proof.Machine.execSenderBreakEnd unit s
  | .senderMakeEnd unit => Sys2Proof.Machine.execSenderMakeEnd unit s
  | .senderPauseEnd unit => Sys2Proof.Machine.execSenderPauseEnd unit s
  | .longBreak unit => Sys2Proof.Machine.execLongBreak unit s
  | .digitComplete unit => Sys2Proof.Machine.execDigitComplete unit s
  | .seize w => Sys2Proof.Machine.execSeize w s
  | .addDigits w => Sys2Proof.Machine.execAddDigits w s
  | .clear w => Sys2Proof.Machine.execClear w s
  | .cancel w => Sys2Proof.Machine.execCancel w s
  | .releaseRegister w => Sys2Proof.Machine.execReleaseRegister w s
  | .answer w => Sys2Proof.Machine.execAnswer w s
  | .clearBack w => Sys2Proof.Machine.execClearBack w s
  | .readCircuit w => Sys2Proof.Machine.execReadCircuit w s
  | .readGroup w => Sys2Proof.Machine.execReadGroup w s
  | .readUnit w => Sys2Proof.Machine.execReadUnit w s
  | .configureGroup w => Sys2Proof.Machine.execConfigureGroup w s
  | .assignCircuit w => Sys2Proof.Machine.execAssignCircuit w s
  | .block w => Sys2Proof.Machine.execBlock w s
  | .unblock w => Sys2Proof.Machine.execUnblock w s
  | .resetCircuit w => Sys2Proof.Machine.execResetCircuit w s
  | .unitServiceOff w => Sys2Proof.Machine.execUnitServiceOff w s
  | .unitServiceOn w => Sys2Proof.Machine.execUnitServiceOn w s
  | .referenceControlApply w => Sys2Proof.Machine.execReferenceControlApply w s
  | .referenceControlSet w => Sys2Proof.Machine.execReferenceControlSet w s
  | .watchSet w => Sys2Proof.Machine.execWatchSet w s
  | .forceSet w => Sys2Proof.Machine.execForceSet w s
  | .restartCalls w => Sys2Proof.Machine.execRestartCalls w s
  | .orderWord w => Sys2Proof.Machine.execOrderWord w s
  | .reportChannelWrite select data => Sys2Proof.Machine.execReportChannelWrite select data s
  | .resultRead select => Sys2Proof.Machine.execResultRead select s
  | .reportRead select => Sys2Proof.Machine.execReportRead select s
  | .selectDeassert port select => Sys2Proof.Machine.execSelectDeassert port select s
  | .penFall port => Sys2Proof.Machine.execPenFall port s
  | .penRise port => Sys2Proof.Machine.execPenRise port s

end Sys2Proof.Machine
end

