-- ==== Sys2Proof/Machine/Due.lean ====
section
/-! DEFINITION. What the part's own time base brings: the commands that are due at an instant (log entry 1). -/

namespace Sys2Proof.Machine

/-- The recognitions and expiries of a circuit that are due. -/
def dueOnCircuit (s : State) (c : Fin 96) : List Instr :=
  let n := c.val
  [ (candidateDue c s, Instr.recognizedTransition n), (seizureDue c s, .seizureRecognized n)
  , (ackMaxDue c s, .ackMaxReached n), (ackWaitDue c s, .ackWaitExpiry n), (prePauseDue c s, .prePauseExpiry n)
  , (seizeHoldDue c s, .seizeHoldEnd n), (guardWaitDue c s, .guardWaitExpiry n), (stallDue c s, .stallExpiry n)
  , (cbLimitDue c s, .cbLimitExpiry n), (senderWaitDue c s, .senderWaitExpiry n)
  , (registerWaitDue c s, .registerCongestion n), (answerRecognizedDue c s, .answerRecognized n)
  , (clearBackDue c s, .clearBackRecognized n), (reanswerDue c s, .reanswerRecognized n)
  , (clearForwardDue c s, .clearForwardRecognized n), (ackPulseEndDue c s, .ackPulseEnd n)
  , (ackPulseStartDue c s, .ackPulseStart n), (answerDueNow c s, .answerDue n), (digitTimeoutDue c s, .digitTimeout n)
  , (guardSepDue c s, .guardSepEnd n), (guardEndDue c s, .guardEnd n), (farSeizeDue c s, .farSeizeBlocked n) ].filterMap
    fun x => if x.1 then some x.2 else none

/-- The ends of a unit's intervals that are due. -/
def dueOnUnit (s : State) (u : Fin 16) : List Instr :=
  let n := u.val
  [ (parkLimitDue u s, Instr.parkLimitExpiry n), (senderDue .waitStart u s, .senderStart n)
  , (senderDue .inBreak u s, .senderBreakEnd n), (senderDue .inMake u s, .senderMakeEnd n)
  , (senderDue .pause u s, .senderPauseEnd n), (longBreakDue u s, .longBreak n)
  , (digitCompleteDue u s, .digitComplete n) ].filterMap fun x => if x.1 then some x.2 else none

/-- The slots of a port whose expiry has come. -/
def dueOnSlots (s : State) (p : Port) : List Instr :=
  (allSixteen.filter fun n => slotExpiryDue { port := p, num := n } s).map fun n => .slotExpiry p n.val

/-- Everything the time base has brought and the part has not yet taken; nothing while RESET is asserted. -/
def dueCommands (s : State) : List Instr :=
  if s.resetAsserted then []
  else allCircuits.flatMap (dueOnCircuit s) ++ allSixteen.flatMap (dueOnUnit s) ++ dueOnSlots s .A ++ dueOnSlots s .B

/-- One of the commands that are due at one instant. Either may be first: where there are several, a free value says
which is taken (log entry 7). -/
def pickDue (s : State) (due : List Instr) : Option (Instr × State) :=
  match due with
  | [] => none
  | [i] => some (i, s)
  | i :: rest =>
    some ((i :: rest).getD (Config.raceChoice s.choices % (rest.length + 1)) i, { s with choices := s.choices + 1 })

/-- The part with no command waiting: it takes one thing that is due, and otherwise its time base counts one millisecond,
which it does from the release of RESET on (R1; log entry 1). -/
def passTime (s : State) : Host.Outcome State Fault Refusal :=
  match pickDue s (dueCommands s) with
  | some (i, s) => exec i s
  | none => unlessReset (fun s => { s with timeBase := s.timeBase + 1 }) s

end Sys2Proof.Machine
end

