-- ==== Sys2Proof/WellFormed.lean ====
section
/-! DEFINITION. Which commands name something the part has: circuits 0 to 95, digit units 0 to 15, seizure slots 0 to
15 of each port (00_scope.md, Capacities). -/

namespace Sys2Proof

/-- The number of the circuit, unit or slot a command names, with the number of such things; none for a command that
names none by number. A port access names its circuit inside an order's words, where the order's own check answers
BAD_VALUE (R184). -/
def Instr.numbered : Instr → Option (Nat × Nat)
  | .rawLeadChange c _ | .recognizedTransition c | .seizureRecognized c | .ackMaxReached c | .ackWaitExpiry c
  | .prePauseExpiry c | .seizeHoldEnd c | .guardWaitExpiry c | .stallExpiry c | .cbLimitExpiry c
  | .senderWaitExpiry c | .registerCongestion c | .answerRecognized c | .clearBackRecognized c
  | .reanswerRecognized c | .clearForwardRecognized c | .ackPulseEnd c | .ackPulseStart c | .answerDue c
  | .digitTimeout c | .guardSepEnd c | .guardEnd c | .farSeizeBlocked c => some (c, 96)
  | .slotExpiry _ n => some (n, 16)
  | .parkLimitExpiry u | .senderStart u | .senderBreakEnd u | .senderMakeEnd u | .senderPauseEnd u | .longBreak u
  | .digitComplete u => some (u, 16)
  | .deviceReset _ _ _ | .seize _ | .addDigits _ | .clear _ | .cancel _ | .releaseRegister _ | .answer _
  | .clearBack _ | .readCircuit _ | .readGroup _ | .readUnit _ | .configureGroup _ | .assignCircuit _ | .block _
  | .unblock _ | .resetCircuit _ | .unitServiceOff _ | .unitServiceOn _ | .referenceControlApply _
  | .referenceControlSet _ | .watchSet _ | .forceSet _ | .restartCalls _ | .orderWord _ | .reportChannelWrite _ _
  | .resultRead _ | .reportRead _ | .selectDeassert _ _ | .penFall _ | .penRise _ => none

/-- A command is well formed when the number it carries is one the part has. -/
def WellFormed (i : Instr) : Bool :=
  match i.numbered with
  | some (n, bound) => decide (n < bound)
  | none => true

end Sys2Proof
end

