-- ==== Sys2Proof/Safety.lean ====
section
/-! DEFINITION. The terms that claims use: what a command leaves alone, what an event does to the ports, the states the
rules allow (the invariants), and the words in which the orders' effects are stated. Nothing here is called by the
machine. -/

namespace Sys2Proof.Machine

/-! ## What a command leaves alone -/

/-- The level of RESET, the time base, the receive leads, the test matrix, the queue of commands and the count of choices are
as before. -/
def LinesKept (s t : State) : Prop :=
  t.resetAsserted = s.resetAsserted ∧ t.timeBase = s.timeBase ∧ t.filters = s.filters ∧ t.watches = s.watches ∧
    t.forces = s.forces ∧ t.pending = s.pending ∧ t.choices = s.choices

/-- The units, the unit request queue and the parked list are as before. -/
def PoolKept (s t : State) : Prop :=
  t.units = s.units ∧ t.regQueue = s.regQueue ∧ t.sndQueue = s.sndQueue ∧ t.parked = s.parked

/-- Both ports are as before. -/
def PortsKept (s t : State) : Prop := t.portA = s.portA ∧ t.portB = s.portB

/-- The port state of R136 and the levels of the selects are as before on both ports: whatever else a port holds, its slots,
its pending sets and its attention list, may differ. -/
def PortStateKept (s t : State) : Prop :=
  ∀ p, (t.port p).enabled = (s.port p).enabled ∧ (t.port p).wsel = (s.port p).wsel ∧
    (t.port p).rsel = (s.port p).rsel ∧ (t.port p).handshake = (s.port p).handshake ∧
    (t.port p).assembly = (s.port p).assembly ∧ (t.port p).result = (s.port p).result ∧
    (t.port p).resultPos = (s.port p).resultPos ∧ (t.port p).report = (s.port p).report

/-- Every circuit but those listed is as before. -/
def CircuitsKept (but : List (Fin 96)) (s t : State) : Prop := ∀ d, d ∉ but → t.circuit d = s.circuit d

/-- Every group but those listed is as before. -/
def GroupsKept (but : List (Fin 8)) (s t : State) : Prop := ∀ g, g ∉ but → t.group g = s.group g

/-- Every unit but those listed is as before. -/
def UnitsKept (but : List (Fin 16)) (s t : State) : Prop := ∀ u, u ∉ but → t.unit u = s.unit u

/-- Of everything outside the ports, only one circuit may differ. -/
def OnlyCircuit (c : Fin 96) (s t : State) : Prop :=
  CircuitsKept [c] s t ∧ t.groups = s.groups ∧ PoolKept s t ∧ LinesKept s t

/-- Of everything outside the ports, only one unit may differ. -/
def OnlyUnit (u : Fin 16) (s t : State) : Prop :=
  UnitsKept [u] s t ∧ t.circuits = s.circuits ∧ t.groups = s.groups ∧ t.regQueue = s.regQueue ∧
    t.sndQueue = s.sndQueue ∧ t.parked = s.parked ∧ LinesKept s t

/-! ## What an event does to the ports (R153, R154) -/

/-- Whether an event on a circuit with this owner goes to a port (R154). -/
def routedTo (owner : Option Port) (p : Port) : Bool := owner = none ∨ owner = some p

/-- A port with an event added to an item's pending set, the item on the list (R153). -/
def PortRecord.withEvent (r : PortRecord) (it : Item) (e : Event) : PortRecord :=
  { r with
    pend := r.pend.set it.index ((r.pend[it.index]).add e)
    attention := if it ∈ r.attention then r.attention else r.attention ++ [it] }

/-- Both ports after one event on a circuit, routed by an owner; nothing else of a port differs. -/
def CircuitEventBy (owner : Option Port) (c : Fin 96) (e : Event) (s t : State) : Prop :=
  ∀ p, t.port p = if routedTo owner p then (s.port p).withEvent (.circuit c) e else s.port p

/-- Both ports after one event on a circuit, routed by the owner the circuit had before. -/
def CircuitEvent (c : Fin 96) (e : Event) (s t : State) : Prop := CircuitEventBy (s.circuit c).owner c e s t

/-- Whether an event is pending on an item for a port whose list holds the item. -/
def Reported (p : Port) (it : Item) (e : Event) (t : State) : Prop :=
  ((t.port p).pend[it.index]).has e = true ∧ it ∈ (t.port p).attention

/-- The events raised on a circuit, each with the owner by which it is routed, and no others (R153, R154): a port's pending
set gains the kinds routed to it and keeps its discarded count unless answered is among them, a port to which none is routed
keeps its pending set, the item stands on a list if it did or an event was routed there, and the items that stood on a list
keep their places at its front. -/
def Reports (c : Fin 96) (raised : List (Option Port × Event)) (s t : State) : Prop :=
  ∀ p,
    let it := Item.circuit c
    let mine := raised.filter fun x => routedTo x.1 p
    ((t.port p).pend[it.index]).bits = mine.foldl (fun bits x => bits ||| x.2.mask) ((s.port p).pend[it.index]).bits ∧
      ((∀ x ∈ mine, x.2 ≠ .answered) →
        ((t.port p).pend[it.index]).discarded = ((s.port p).pend[it.index]).discarded) ∧
      (it ∈ (t.port p).attention ↔ it ∈ (s.port p).attention ∨ mine ≠ []) ∧
      (s.port p).attention <+: (t.port p).attention

/-- No event is raised on a circuit. -/
def NoCircuitEvent (c : Fin 96) (s t : State) : Prop := Reports c [] s t

/-- Whether a watch channel's report_to names a port (R177). -/
def ReportTo.names : ReportTo → Port → Bool
  | .none, _ => false
  | .A, p => p = .A
  | .B, p => p = .B
  | .both, _ => true

/-! ## Words for the rules -/

/-- Whether a circuit stands in the unit request queue (R106). -/
def State.queued (s : State) (c : Fin 96) : Prop := ∃ e ∈ s.regQueue ++ s.sndQueue, e.circuit = c

/-- The circuit whose parked sender a request would reclaim: none while a unit is FREE (R105, R113). -/
def State.reclaimed (s : State) : Option (Fin 96) :=
  if s.freeUnit.isSome then none
  else match s.parked with
    | u :: _ => (s.unit u).circuit
    | [] => none

/-- Where the becomes-idle rule places a circuit (R27): BLOCKED, OUT_SEIZING for the waiting slot at the head of the queue,
IN_PRESEIZE if its lead is ON in an incoming-capable group, or IDLE. -/
def State.placeOf (s : State) (g : Fin 8) (c : Fin 96) : CircuitState :=
  if (s.circuit c).blockPending then .blocked
  else
    let resting : CircuitState :=
      if s.leadOn c ∧ (s.group g).direction.incomingCapable then .inPreseize else .idle
    match (s.group g).queue with
    | [] => resting
    | id :: _ =>
      match s.slot id with
      | .waiting _ _ _ _ => .outSeizing
      | .free | .seizing _ _ | .outcome _ _ => resting

/-- The owner the becomes-idle rule gives a circuit: the port of the waiting slot that takes it, and otherwise none (R27,
R28). -/
def State.ownerOf (s : State) (g : Fin 8) (c : Fin 96) : Option Port :=
  if (s.circuit c).blockPending then none
  else
    match (s.group g).queue with
    | [] => none
    | id :: _ =>
      match s.slot id with
      | .waiting _ _ _ _ => some id.port
      | .free | .seizing _ _ | .outcome _ _ => none

/-- What a circuit becoming idle leaves alone: every other circuit but one whose parked sender the waiting slot's call
reclaims, every other group, the port state and the lines; and it raises nothing on the circuit. -/
def PlacedFrame (g : Fin 8) (c : Fin 96) (s t : State) : Prop :=
  (∀ d, d ≠ c → s.reclaimed ≠ some d → t.circuit d = s.circuit d) ∧ GroupsKept [g] s t ∧ NoCircuitEvent c s t ∧
    PortStateKept s t ∧ LinesKept s t

/-- The record of a circuit that has cleared forward (R57, R58, R59, R169; the timer of the hold is log entry 14, and the flag
of an ON present at the entry log entry 19). -/
def ClearedForward (c : Fin 96) (s t : State) : Prop :=
  let k := s.circuit c
  let r := t.circuit c
  r.state = .outReleasing ∧ r.relTime = some s.timeBase ∧ r.owner = k.owner ∧ r.unit = none ∧ r.unitReq = none ∧
    r.slot = none ∧ r.digits = k.digits ∧ r.sent = k.sent ∧ r.eon = k.eon ∧ r.presentOn = s.leadOn c ∧
    (if k.state = .outSeizing ∧ elapsed s.timeBase k.seizeTime < k.minSeize then
      r.sup = k.sup ∧ r.timer = some { start := k.seizeTime, value := k.minSeize }
    else r.sup = .off ∧ r.timer = some { start := s.timeBase, value := s.par c .guardWait })

/-- What the detachment of a circuit's unit leaves alone of the circuits and the pool: every other circuit that waits in no
queue and every other unit; the queues only lose entries. -/
def UnitServed (c : Fin 96) (s t : State) : Prop :=
  (∀ d, d ≠ c → ¬ s.queued d → t.circuit d = s.circuit d) ∧
    (∀ u, (s.circuit c).unit ≠ some u → t.unit u = s.unit u) ∧
    t.parked = s.parked.filter (fun u => (s.circuit c).unit ≠ some u) ∧
    t.regQueue.Sublist s.regQueue ∧ t.sndQueue.Sublist s.sndQueue

/-- What the detachment of a circuit's unit leaves alone: with `UnitServed`, the groups, the port state and the lines. -/
def ServedFrame (c : Fin 96) (s t : State) : Prop :=
  UnitServed c s t ∧ t.groups = s.groups ∧ PortStateKept s t ∧ LinesKept s t

/-- What becomes of the slot of a circuit that leaves OUT_SEIZING (R31); every other slot is as before. -/
def LinkBroken (c : Fin 96) (s t : State) : Prop :=
  (∀ id call, (s.circuit c).slot = some id → s.slot id = .seizing call c →
    t.slot id =
      (if (s.slotPend id).has .seized ∨ (s.slotPend id).has .rehunted then .outcome call (.seized c) else .free)) ∧
    ∀ id, (s.circuit c).slot ≠ some id → t.slot id = s.slot id

/-- A circuit's call is given up (R57, R61): the cause is set, the event goes to the owner, and the circuit clears forward; of
a port nothing but the slots and that event differs. -/
def CallGivenUp (c : Fin 96) (cause : Cause) (e : Event) (s t : State) : Prop :=
  ClearedForward c s t ∧ (t.circuit c).cause = cause ∧ LinkBroken c s t ∧ ServedFrame c s t ∧
    ∀ p, t.port p =
      { (if routedTo (s.circuit c).owner p then (s.port p).withEvent (.circuit c) e else s.port p) with
        slots := (t.port p).slots }

/-! ## Units that circuits ask for -/

/-- A circuit's request for a unit has been served or queued, in the arbiter's order (R104, R105, R113): the lowest FREE unit
is attached, else the parked sender at the head of its list, which its circuit loses, else the request stands in unit_req
and at the tail of its class. -/
def Asked (c : Fin 96) (cls : UnitClass) (s t : State) : Prop :=
  let r := t.circuit c
  let served (u : Fin 16) : Prop :=
    r.unit = some u ∧ r.unitReq = none ∧ (t.unit u).circuit = some c ∧ (t.unit u).attachTime = s.timeBase ∧
      UnitsKept [u] s t ∧ t.regQueue = s.regQueue ∧ t.sndQueue = s.sndQueue
  (∀ u, (s.unit u).state = .free → (∀ v, v < u → (s.unit v).state ≠ .free) → served u ∧ t.parked = s.parked) ∧
    ((∀ v, (s.unit v).state ≠ .free) → ∀ u rest, s.parked = u :: rest →
      served u ∧ t.parked = rest ∧
        ∀ d, (s.unit u).circuit = some d → t.circuit d = { s.circuit d with unit := none }) ∧
    ((∀ v, (s.unit v).state ≠ .free) → s.parked = [] →
      let entry : QueueEntry := { circuit := c, time := s.timeBase }
      r.unit = none ∧ t.units = s.units ∧ t.parked = [] ∧
        match cls with
        | .register =>
          r.unitReq = some { cls := .register, time := s.timeBase, wait := s.par c .regWait } ∧
            t.regQueue = s.regQueue ++ [entry] ∧ t.sndQueue = s.sndQueue
        | .sender =>
          r.unitReq = some { cls := .sender, time := s.timeBase, wait := 1000 * s.par c .sndWait } ∧
            t.sndQueue = s.sndQueue ++ [entry] ∧ t.regQueue = s.regQueue)

/-- A unit has been attached to a circuit as its register (R72, R104, R119). An ACK_START group sends the acknowledgement at
once, but on a call that began by a yield, for which R95 defers it; a TIMED_START group starts fd_wait. -/
def RegisterAttached (c : Fin 96) (u : Fin 16) (s t : State) : Prop :=
  let k := s.circuit c
  let r := t.circuit c
  r.state = .inReceiving ∧ r.unit = some u ∧ r.unitReq = none ∧ (t.unit u).circuit = some c ∧
    (t.unit u).attachTime = s.timeBase ∧ (t.unit u).state = .register .waitDigit ∧ (t.unit u).count = 0 ∧
    (s.startMode c = .ackStart → k.glarePhase ≠ .yielded →
      r.sup = .on ∧ r.ackPulse = .running ∧ r.ackEnd = some (timeAfter s.timeBase (s.par c .ackSend)) ∧
        r.timer = none) ∧
    (s.startMode c = .timedStart →
      r.sup = k.sup ∧ r.ackPulse = k.ackPulse ∧ r.ackEnd = k.ackEnd ∧
        r.timer = some { start := s.timeBase, value := 1000 * s.par c .fdWait })

/-- A sender with a digit left has its start instant decided (R47, R117): from its record before it enters BREAK at once if
the instant has come, and otherwise waits in WAIT_START to it. That brk_start is written and prev_brk_start absent at a
digit's first break is log entry 11. -/
def StartDecided (c : Fin 96) (digits : List (Fin 10)) (before after : DigitUnit) (s : State) : Prop :=
  let k := s.circuit c
  let since := if k.sent = 0 then k.seizeTime else k.lastBrkEnd
  let gap := if k.sent = 0 then k.prePause else k.idSend
  (gap ≤ elapsed s.timeBase since → ∀ d, digits[k.sent]? = some d →
    after =
      { before with state := .sender .inBreak, count := 1, pulses := if d.val = 0 then 10 else d.val
                    brkStart := some s.timeBase, prevBrkStart := none
                    subEnd := some (timeAfter s.timeBase (s.par c .brkSend)) }) ∧
    (elapsed s.timeBase since < gap → gap < 2 ^ 32 →
      after = { before with state := .sender .waitStart, subEnd := some (timeAfter since gap) })

/-- What a circuit in OUT_SENDING with a digit left makes of the sender it has (R46, R47, R114): a parked one leaves the
parked list and resumes at the instant, one that waits with its start instant not yet decided has it decided, and any other
goes on as it is. That a resumed sender keeps park_time is log entry 11. -/
def SenderGoesOn (c : Fin 96) (u : Fin 16) (digits : List (Fin 10)) (s t : State) : Prop :=
  let sender := s.unit u
  UnitsKept [u] s t ∧
    (sender.state = .sender .parked →
      StartDecided c digits { sender with attachTime := s.timeBase } (t.unit u) s ∧
        t.parked = s.parked.filter (fun v => v ≠ u)) ∧
    (sender.state = .sender .waitStart → sender.subEnd = none →
      StartDecided c digits sender (t.unit u) s ∧ t.parked = s.parked) ∧
    (sender.state = .sender .inBreak ∨ sender.state = .sender .inMake ∨ sender.state = .sender .pause ∨
        (sender.state = .sender .waitStart ∧ sender.subEnd ≠ none) →
      t.unit u = sender ∧ t.parked = s.parked)

/-- A seizing circuit has proceeded and made the entry test of OUT_SENDING (R45, R46, R51): with nothing left to send it goes
on to OUT_WAIT_ANSWER if eon is set, and otherwise starts the stall timer; with a digit left its sender goes on, its request
waits, or it requests a sender. -/
def Proceeds (c : Fin 96) (s t : State) : Prop :=
  let k := s.circuit c
  let r := t.circuit c
  let done : Prop := k.digits.length ≤ k.sent
  r.slot = none ∧ r.owner = k.owner ∧ r.digits = k.digits ∧ r.sent = k.sent ∧ r.eon = k.eon ∧ r.sup = k.sup ∧
    LinkBroken c s t ∧ t.groups = s.groups ∧ PortStateKept s t ∧
    (done → k.eon = true →
      r.state = .outWaitAnswer ∧ r.timer = none ∧ r.unit = none ∧ r.unitReq = none ∧
        Reports c [(k.owner, .proceed), (k.owner, .digitsSent)] s t ∧ UnitServed c s t) ∧
    (done → k.eon = false →
      r.state = .outSending ∧ r.timer = some { start := s.timeBase, value := 1000 * s.par c .stallLimit } ∧
        r.unit = k.unit ∧ r.unitReq = k.unitReq ∧ Reports c [(k.owner, .proceed)] s t ∧ PoolKept s t ∧
        CircuitsKept [c] s t) ∧
    (¬ done →
      r.state = .outSending ∧ r.timer = none ∧ Reports c [(k.owner, .proceed)] s t ∧
        (∀ d, d ≠ c → s.reclaimed ≠ some d → t.circuit d = s.circuit d) ∧
        (∀ u, k.unit = some u →
          r.unit = some u ∧ r.unitReq = k.unitReq ∧ SenderGoesOn c u k.digits s t ∧ t.regQueue = s.regQueue ∧
            t.sndQueue = s.sndQueue ∧ CircuitsKept [c] s t) ∧
        (k.unit = none → k.unitReq ≠ none →
          r.unit = none ∧ r.unitReq = k.unitReq ∧ PoolKept s t ∧ CircuitsKept [c] s t) ∧
        (k.unit = none → k.unitReq = none →
          Asked c .sender s t ∧ ∀ u, r.unit = some u → StartDecided c k.digits (t.unit u) (t.unit u) s))

/-- A recognized transition is not taken as what ends the circuit's state: of the circuit only the thresholds of the new
interval and the flag of the present ON differ (log entry 19), nothing is raised on it, and the circuits, the groups, the pool
and the port state are kept. -/
def TransitionIgnored (c : Fin 96) (presentOn : Bool) (s t : State) : Prop :=
  t.circuit c = { s.circuit c with held := s.thresholds c, presentOn := presentOn } ∧ NoCircuitEvent c s t ∧
    CircuitsKept [c] s t ∧ t.groups = s.groups ∧ PoolKept s t ∧ PortStateKept s t

/-! ## Calls that begin -/

/-- The call fields that a circuit keeps after its call (R19). -/
def CallKept (k r : Circuit) : Prop :=
  r.callDir = k.callDir ∧ r.callStart = k.callStart ∧ r.digits = k.digits ∧ r.sent = k.sent ∧ r.eon = k.eon ∧
    r.answered = k.answered ∧ r.ansTime = k.ansTime ∧ r.lastBrkEnd = k.lastBrkEnd ∧ r.cause = k.cause ∧
    r.seizeTime = k.seizeTime ∧ r.ackEnd = k.ackEnd ∧ r.glarePhase = k.glarePhase ∧ r.glareTime = k.glareTime ∧
    r.relTime = k.relTime

/-- The call fields that the start of every call sets to the same values (R19). -/
def FreshCall (dir : CallDir) (mode : StartMode) (r : Circuit) : Prop :=
  r.callDir = dir ∧ r.callStart = some mode ∧ r.sent = 0 ∧ r.answered = false ∧ r.ansTime = 0 ∧ r.lastBrkEnd = 0 ∧
    r.cause = .none ∧ r.ansDue = none ∧ r.relTime = none

/-- A circuit of a group with the record `k` has entered OUT_SEIZING for a slot's call (R19, R41): with a digit carried it
has a sender, or its request for one stands in the unit request queue. The values that the call's intervals are timed against
are those of the instant (R2), and the flag of an ON present at the seizure is log entry 19. -/
def Seizes (k : Group) (c : Fin 96) (id : SlotId) (digits : List (Fin 10)) (eon : Bool) (s t : State) : Prop :=
  let r := t.circuit c
  r.state = .outSeizing ∧ FreshCall .outgoing k.startMode r ∧ r.glarePhase = .none ∧ r.glareTime = none ∧
    r.ackEnd = none ∧ r.digits = digits ∧ r.eon = eon ∧ r.owner = some id.port ∧ r.slot = some id ∧
    r.seizeTime = s.timeBase ∧ r.sup = .on ∧ r.presentOn = s.leadOn c ∧ r.seizeAckMax = k.par .ackMax ∧
    r.minSeize = k.par .minSeize ∧ r.prePause = k.par .prePause ∧
    r.timer = some { start := s.timeBase, value :=
      match k.startMode with
      | .ackStart => k.par .ackWait
      | .timedStart => k.par .prePause } ∧
    (digits = [] → r.unit = none ∧ r.unitReq = none) ∧
    (digits ≠ [] →
      (∃ u, r.unit = some u ∧ r.unitReq = none ∧ (t.unit u).circuit = some c ∧
        (t.unit u).state = .sender .waitStart) ∨
      (r.unit = none ∧ ({ circuit := c, time := s.timeBase } : QueueEntry) ∈ t.sndQueue ∧
        ∃ q, r.unitReq = some q ∧ q.cls = .sender ∧ q.time = s.timeBase))

/-- What a seizure asks of the pool (R41, R105): nothing with no digit, and otherwise a sender, which is attached at once
exactly when a unit is FREE or parked. -/
def SenderAsked (c : Fin 96) (digits : List (Fin 10)) (s t : State) : Prop :=
  (digits = [] → PoolKept s t) ∧
    (digits ≠ [] → Asked c .sender s t ∧
      ((t.circuit c).unit ≠ none ↔ s.freeUnit.isSome = true ∨ s.parked ≠ []))

/-- A circuit of a group with the record `k` has entered IN_PRESEIZE (R19, R66). -/
def Preseizes (k : Group) (c : Fin 96) (s t : State) : Prop :=
  let r := t.circuit c
  r.state = .inPreseize ∧ FreshCall .incoming k.startMode r ∧ r.glarePhase = .none ∧ r.glareTime = none ∧
    r.ackEnd = none ∧ r.digits = [] ∧ r.eon = false ∧ r.seizeTime = 0 ∧ r.sup = .off ∧
    r.timer = some { start := s.timeBase, value := k.par .szRec }

/-- The waiting slot at the head of a group's queue has taken a circuit (R28). -/
def SlotTakes (g : Fin 8) (c : Fin 96) (s t : State) : Prop :=
  ∀ id rest, (s.group g).queue = id :: rest → ∀ call digits eon expiry, s.slot id = .waiting call digits eon expiry →
    t.slot id = .seizing call c ∧ Seizes (s.group g) c id digits eon s t ∧ SenderAsked c digits s t ∧
      t.group g = { s.group g with queue := rest } ∧ Reported id.port (.slot id.num) .seized t

/-- What the place that R27 gives a circuit makes of it: BLOCKED, with its block_pending cleared and a lead that is ON timed
(R165, R167); the seizure of the waiting slot (R28); a preseizure (R66); or the tail of the idle list (R24). -/
def PlacedAs (g : Fin 8) (c : Fin 96) (s t : State) : Prop :=
  let r := t.circuit c
  r.state = s.placeOf g c ∧ r.owner = s.ownerOf g c ∧
    (s.placeOf g c = .blocked →
      CallKept (s.circuit c) r ∧ r.blockPending = false ∧ r.sup = .off ∧
        r.timer = (if s.leadOn c then some { start := s.timeBase, value := (s.group g).par .szRec } else none) ∧
        t.group g = s.group g ∧ PoolKept s t) ∧
    (s.placeOf g c = .outSeizing → SlotTakes g c s t) ∧
    (s.placeOf g c = .inPreseize →
      Preseizes (s.group g) c s t ∧ t.group g = s.group g ∧ PoolKept s t) ∧
    (s.placeOf g c = .idle →
      CallKept (s.circuit c) r ∧ r.sup = .off ∧ r.timer = none ∧
        t.group g = { s.group g with idle := (s.group g).idle ++ [c] } ∧ PoolKept s t)

/-- A circuit has become idle: it is where R27 places it, and nothing else is changed but as `PlacedFrame` says. -/
def BecameIdle (g : Fin 8) (c : Fin 96) (s t : State) : Prop := PlacedAs g c s t ∧ PlacedFrame g c s t

/-- Whether a filter channel's candidate has lasted its persistence (R5). -/
def TransitionDue (c : Fin 96) (s : State) : Prop :=
  ∃ k, (s.filter c).cand = some k ∧ k.persistence ≤ elapsed s.timeBase k.start

/-- Whether a watch channel takes part in a transition of a circuit's lead to a condition (R178). -/
def WatchMatches (k : WatchChannel) (c : Fin 96) (cond : Cond) : Prop :=
  k.enable = true ∧ k.circuit = c ∧ (k.edge = .any ∨ (k.edge = .toOn ∧ cond = .on) ∨ (k.edge = .toOff ∧ cond = .off))

/-- Whether a running interval of a circuit's supervision timer has reached its value. -/
def TimerReached (c : Fin 96) (s : State) : Prop :=
  ∃ k, (s.circuit c).timer = some k ∧ k.value ≤ elapsed s.timeBase k.start

/-- Whether a time-base value is present and has come. -/
def Come (now : Time) (at_ : Option Time) : Prop := ∃ t, at_ = some t ∧ reached now t = true

/-- The thresholds computed from ref and the factors, with the clamps of R128. -/
def thresholdsOf (k : Group) : Nat × Nat :=
  (max 40 (min 200 (k.reference.ref * k.par .kBm / 256)), max 220 (min 1000 (k.reference.ref * k.par .kId / 256)))

/-! ## Transfers of ownership (R149, R150) -/

/-- Whether an item is a circuit that a port owns. -/
def State.ownsItem (s : State) (p : Port) : Item → Bool
  | .circuit c => (s.circuit c).owner = some p
  | .slot _ | .group _ | .watch _ => false

/-- The items that a transfer from a port moves, in the order in which they join the other list (R149): those on the port's
list in its order, and then the others in ascending circuit number. -/
def State.handedItems (s : State) (p : Port) : List Item :=
  (s.port p).attention.filter (s.ownsItem p) ++
    ((List.finRange 96).map Item.circuit).filter fun it => s.ownsItem p it ∧ it ∉ (s.port p).attention

/-- Every circuit a port owns has passed to the other port (R149, R150): the pending sets are merged, the discarded count of
the losing port's answered being kept, transferred is added, the items have moved in their order, and every other item is
as before but for the losing port's slots. -/
def Transfers (source dest : Port) (s t : State) : Prop :=
  (∀ c, (s.circuit c).owner = some source →
    let it := Item.circuit c
    let lost := (s.port source).pend[it.index]
    let kept := (s.port dest).pend[it.index]
    (t.circuit c).owner = some dest ∧ it ∈ (t.port dest).attention ∧
      ((t.port dest).pend[it.index]).bits = (lost.bits ||| kept.bits ||| Event.transferred.mask) ∧
      ((t.port dest).pend[it.index]).discarded = (if lost.has .answered then lost.discarded else kept.discarded) ∧
      (t.port source).pend[it.index] = EventSet.empty ∧ it ∉ (t.port source).attention) ∧
    (t.port dest).attention =
      (s.port dest).attention ++ (s.handedItems source).filter (fun it => it ∉ (s.port dest).attention) ∧
    ∀ it, s.ownsItem source it = false →
      (t.port dest).pend[it.index] = (s.port dest).pend[it.index] ∧
        ((∀ n, it ≠ .slot n) → (t.port source).pend[it.index] = (s.port source).pend[it.index])

/-! ## Orders as accesses -/

/-- The command that is the CH 0 write of an order's last word. -/
def rowOf : OrderKind → OrderWrite → Instr
  | .seize => .seize | .addDigits => .addDigits | .clear => .clear | .cancel => .cancel | .answer => .answer
  | .clearBack => .clearBack | .releaseRegister => .releaseRegister | .readCircuit => .readCircuit
  | .readGroup => .readGroup | .readUnit => .readUnit | .configureGroup => .configureGroup
  | .assignCircuit => .assignCircuit | .block => .block | .unblock => .unblock | .resetCircuit => .resetCircuit
  | .unitServiceOff => .unitServiceOff | .unitServiceOn => .unitServiceOn
  | .referenceControlApply => .referenceControlApply | .referenceControlSet => .referenceControlSet
  | .watchSet => .watchSet | .forceSet => .forceSet | .restartCalls => .restartCalls

/-- The circuit states in which an order of the owner on its circuit acts: CLEAR (R57), RELEASE REGISTER (R77), ANSWER (R78)
and CLEAR BACK (R81). -/
def statesOf : OrderKind → List CircuitState
  | .clear => [.outSeizing, .outSending, .outWaitAnswer, .outAnswered, .outClearedBack]
  | .releaseRegister => [.inReceiving]
  | .answer => [.inReceiving, .inHeld, .inClearedBack]
  | .clearBack => [.inAnswered]
  | .seize | .addDigits | .cancel | .readCircuit | .readGroup | .readUnit | .configureGroup | .assignCircuit | .block
  | .unblock | .resetCircuit | .unitServiceOff | .unitServiceOn | .referenceControlApply | .referenceControlSet
  | .watchSet | .forceSet | .restartCalls => []

/-- An access of a port begins as one of its selects is asserted alone: RESET is not asserted, the port is QUIET and both its
selects are deasserted (R136 to R138). -/
def Open (p : Port) (s : State) : Prop :=
  s.resetAsserted = false ∧ (s.port p).handshake = .quiet ∧ (s.port p).wsel = false ∧ (s.port p).rsel = false

/-- A CH 0 write begins on an open port and is the last word of an order of the catalogue, whose words are `ws` (R137,
R140). -/
def LastWord (kind : OrderKind) (w : OrderWrite) (ws : List Word) (s : State) : Prop :=
  Open w.port s ∧ w.beside = false ∧ ((s.port w.port).taken w.data).1 = ws ∧
    (s.port w.port).completes w.data = true ∧ orderKind ws = some kind

/-- An order that passes the common tests of R143: its length is allowed, its port is enabled unless it is a READ, and
MPERM is asserted if it is a maintenance order. -/
def OrderReady (kind : OrderKind) (w : OrderWrite) (ws : List Word) (s : State) : Prop :=
  LastWord kind w ws s ∧ lengthAllowed kind ws = true ∧ ((s.port w.port).enabled = true ∨ kind.isRead = true) ∧
    (kind.isMaintenance = true → w.mperm = true)

/-- The state in which a CH 0 write is taken: WSEL asserted (R137), and a report read of the port abandoned (R139). -/
def writeStart (p : Port) (s : State) : State := abandonReport p (s.modPort p fun r => { r with wsel := true })

/-- The state in which a read of a port acts: RSEL asserted (R138). -/
def readStart (p : Port) (s : State) : State := s.modPort p fun r => { r with rsel := true }

/-- The state in which an order taken whole acts: its last word taken, and the assembly empty (R140). Nothing but the port
differs from the state before. -/
def orderStart (w : OrderWrite) (s : State) : State :=
  (writeStart w.port s).modPort w.port fun r => { r with assembly := .empty }

/-- A command is an order taken whole that leaves the state `t` and the result block `block`, ready at position 1, the port
replying (R137, R140). -/
def Answers (i : Instr) (w : OrderWrite) (block : List Word) (s t : State) : Prop :=
  exec i s = .next (t.modPort w.port (·.finish block))

/-- An order is refused: its result code alone, and nothing changed (R143). -/
def Refuses (i : Instr) (w : OrderWrite) (r : Result) (s : State) : Prop := Answers i w (oneWord r) s (orderStart w s)

/-! ## Presented words (R184 to R186)

A block is counted from 0: word n of R185 stands at n behind the result word, word n of R186 at n - 1. -/

/-- A code is the one of a value, by a table that lists the values by their codes from 0 (R184, R185). -/
def Coded {α : Type} (table : List α) (v : α) (code : Nat) : Prop := table[code]? = some v

/-- Bits of a word that a layout does not assign read 0 (R185). -/
def Unassigned (w : Word) (bits : List Nat) : Prop := ∀ i ∈ bits, bitSet w i = false

/-- The time-base value in two words of a block, the high half first (R184). -/
def timeAt (b : List Word) (i : Nat) : Time := wordAt b i ++ wordAt b (i + 1)

/-- The digit words of a block from a word on hold a digit string, four digits to a word, the rest 0, and end the block
(R184). -/
def DigitsFrom (b : List Word) (i : Nat) (ds : List (Fin 10)) : Prop :=
  b.length = i + (ds.length + 3) / 4 ∧ (∀ j d, ds[j]? = some d → nibbleAt (b.drop i) j = d.val) ∧
    ∀ j, ds.length ≤ j → j < 4 * ((ds.length + 3) / 4) → nibbleAt (b.drop i) j = 0

/-- The first word of the result block of a READ order: OK, and the number of words that follow (R185). -/
def ReadOk (b : List Word) : Prop := (wordAt b 0).toNat = 0x100 + (b.length - 1)

/-- The circuit states by their codes (R185). -/
def stateTable : List CircuitState :=
  [.unequipped, .blocked, .fault, .idle, .outSeizing, .outSending, .outWaitAnswer, .outAnswered, .outClearedBack,
   .outReleasing, .inPreseize, .inSeized, .inReceiving, .inHeld, .inAnswered, .inClearedBack, .inGuard]

/-- The causes by their codes (R185). -/
def causeTable : List Cause :=
  [.none, .lineFault, .noProceed, .senderCongestion, .stall, .cbLimit, .glareUnresolved, .guardFailed]

/-- The lowest enabled force channel that names a BLOCKED circuit (R7 step 1). -/
def ForcedBy (f : Fin 8) (c : Fin 96) (s : State) : Prop :=
  (s.circuit c).state = .blocked ∧ (s.force f).enable = true ∧ (s.force f).circuit = c ∧
    ∀ f', f' < f → ¬ ((s.force f').enable = true ∧ (s.force f').circuit = c)

/-- A circuit's sender is pulsing or pausing (R7 step 2). -/
def Pulsing (c : Fin 96) (s : State) : Prop :=
  ∃ u sub, (s.circuit c).unit = some u ∧ (s.unit u).state = .sender sub ∧ sub ∈ [SenderSub.inBreak, .inMake, .pause]

/-- The source of a send lead and its force channel by their codes, told by R7 (R146, R185). -/
def SourceWord (c : Fin 96) (s : State) (w : Word) : Prop :=
  (∀ f, ForcedBy f c s → field w 5 4 = 2 ∧ field w 2 0 = f.val) ∧
    ((∀ f, ¬ ForcedBy f c s) → field w 2 0 = 0 ∧ (Pulsing c s → field w 5 4 = 1) ∧ (¬ Pulsing c s → field w 5 4 = 0))

/-- A result block holds the READ CIRCUIT snapshot of a circuit (R146, R185). -/
def CircuitWords (c : Fin 96) (s : State) (b : List Word) : Prop :=
  let k := s.circuit c
  ReadOk b ∧ timeAt b 1 = s.timeBase ∧
    (let w := wordAt b 3
     Coded stateTable k.state (field w 15 11) ∧ field w 6 0 = c.val ∧
       (k.group = none → field w 10 7 = 15) ∧ ∀ g, k.group = some g → field w 10 7 = g.val) ∧
    (let w := wordAt b 4
     Coded [none, some Port.A, some .B] k.owner (field w 15 14) ∧ bitSet w 13 = k.blockPending ∧ bitSet w 12 = k.eon ∧
       bitSet w 11 = k.answered ∧ Unassigned w [10] ∧ field w 9 0 = k.trunkNo) ∧
    (let w := wordAt b 5
     Coded [CallDir.none, .outgoing, .incoming] k.callDir (field w 15 14) ∧
       Coded [none, some StartMode.ackStart, some .timedStart] k.callStart (field w 13 12) ∧
       field w 11 7 = k.digits.length ∧ Unassigned w [6, 5] ∧ field w 4 0 = k.sent) ∧
    (let w := wordAt b 6
     bitSet w 15 = k.unit.isSome ∧ Unassigned w [14, 13, 12] ∧ field w 11 8 = (k.unit.getD 0).val ∧
       Coded [none, some UnitClass.register, some .sender] (k.unitReq.map (·.cls)) (field w 7 6) ∧
       bitSet w 5 = k.slot.isSome ∧ bitSet w 4 = decide (k.slot.map SlotId.port = some .B) ∧
       field w 3 0 = ((k.slot.map SlotId.num).getD 0).val) ∧
    (let w := wordAt b 7
     Coded causeTable k.cause (field w 15 12) ∧
       Coded [GlarePhase.none, .holding, .farCleared, .yielded] k.glarePhase (field w 11 10) ∧
       bitSet w 9 = s.portA.enabled ∧ bitSet w 8 = s.portB.enabled ∧
       bitSet w 7 = decide ((s.filter c).recCond = .on) ∧ bitSet w 6 = decide (s.sendLead c = .on) ∧
       SourceWord c s w ∧ Unassigned w [3]) ∧
    (let w := wordAt b 8
     bitSet w 15 = k.timer.isSome ∧ bitSet w 14 = k.ackEnd.isSome ∧ bitSet w 13 = k.ansDue.isSome ∧
       bitSet w 12 = k.glareTime.isSome ∧ bitSet w 11 = k.relTime.isSome ∧ field w 10 0 = 0) ∧
    timeAt b 9 = (k.unitReq.map (·.time)).getD 0 ∧ timeAt b 11 = k.ansTime ∧ timeAt b 13 = k.lastBrkEnd ∧
    timeAt b 15 = (k.timer.map (·.start)).getD 0 ∧
    timeAt b 17 = BitVec.ofNat 32 ((k.timer.map (·.value)).getD 0) ∧ timeAt b 19 = k.seizeTime ∧
    timeAt b 21 = k.ackEnd.getD 0 ∧ timeAt b 23 = k.ansDue.getD 0 ∧ timeAt b 25 = k.glareTime.getD 0 ∧
    timeAt b 27 = k.relTime.getD 0 ∧ timeAt b 29 = (s.filter c).recTime ∧ DigitsFrom b 31 k.digits

/-- A result block holds the READ GROUP snapshot of a group (R147, R185). -/
def GroupWords (g : Fin 8) (s : State) (b : List Word) : Prop :=
  let k := s.group g
  let r := k.reference
  ReadOk b ∧ b.length = 43 ∧ timeAt b 1 = s.timeBase ∧
    (let w := wordAt b 3
     Coded [Direction.none, .outgoing, .incoming, .bothway] k.direction (field w 15 14) ∧
       Coded [StartMode.ackStart, .timedStart] k.startMode (field w 13 13) ∧
       Coded [HuntMode.lowFirst, .highFirst, .longestIdle] k.huntMode (field w 12 11) ∧
       Coded [GlareRule.priorityAll, .priorityNone, .priorityEven, .priorityOdd] k.glareRule (field w 10 9) ∧
       Coded [Distribution.fixedA, .fixedB, .alternate] k.distribution (field w 8 7) ∧
       bitSet w 6 = decide (k.nextPort = .B) ∧ Unassigned w [5, 4] ∧ field w 3 0 = g.val) ∧
    (let w := wordAt b 4
     Unassigned w [15, 7] ∧ field w 14 8 = (s.members g).length ∧ field w 6 0 = k.idle.length) ∧
    (wordAt b 5).toNat = k.queue.length ∧
    (let w := wordAt b 6
     bitSet w 15 = r.locked ∧ field w 14 12 = r.inRun ∧ field w 11 10 = r.outRun ∧ Unassigned w [9, 8, 7] ∧
       field w 6 0 = r.sinceApply) ∧
    (wordAt b 7).toNat = r.ref ∧ (wordAt b 8).toNat = r.tBm ∧ (wordAt b 9).toNat = r.tId ∧
    ∀ p : Param, (wordAt b (10 + p.index.val)).toNat = k.par p

/-- A result block holds the READ UNIT snapshot of a unit (R147, R185). -/
def UnitWords (u : Fin 16) (s : State) (b : List Word) : Prop :=
  let k := s.unit u
  ReadOk b ∧ b.length = 18 ∧ timeAt b 1 = s.timeBase ∧
    (let w := wordAt b 3
     (k.state, field w 15 13, field w 12 10) ∈
         [(.free, 0, 0), (.outOfService, 1, 0), (.sender .waitStart, 2, 0), (.sender .inBreak, 2, 1),
          (.sender .inMake, 2, 2), (.sender .pause, 2, 3), (.sender .parked, 2, 4), (.register .waitDigit, 3, 0),
          (.register .inBreak, 3, 1), (.register .inMake, 3, 2)] ∧
       bitSet w 9 = k.pendingOos ∧ bitSet w 8 = k.longBrk ∧ bitSet w 7 = k.circuit.isSome ∧
       field w 6 0 = (k.circuit.getD 0).val) ∧
    (let w := wordAt b 4
     field w 15 12 = 0 ∧ field w 11 8 = u.val ∧ field w 7 4 = 0 ∧ field w 3 0 = k.count) ∧
    (let w := wordAt b 5
     bitSet w 15 = k.brkStart.isSome ∧ bitSet w 14 = k.prevBrkStart.isSome ∧ bitSet w 13 = k.subEnd.isSome ∧
       bitSet w 12 = k.parkTime.isSome ∧ field w 11 0 = 0) ∧
    (let w := wordAt b 6
     Unassigned w [15, 7] ∧ field w 14 8 = s.regQueue.length ∧ field w 6 0 = s.sndQueue.length) ∧
    (wordAt b 7).toNat = s.parked.length ∧ timeAt b 8 = k.brkStart.getD 0 ∧ timeAt b 10 = k.prevBrkStart.getD 0 ∧
    timeAt b 12 = k.subEnd.getD 0 ∧ timeAt b 14 = k.attachTime ∧ timeAt b 16 = k.parkTime.getD 0

/-- The events of an item of each kind, by their bits from bit 15 of the first event word down, a circuit's second word
after its first (R154, R186). -/
def Item.events : Item → List Event
  | .circuit _ =>
    [.proceed, .digitsSent, .answered, .clearedBack, .reanswered, .seizeFailed, .autoCleared, .released, .guardFailed,
     .offered, .registerCongestion, .digitsLost, .digit, .digitOverflow, .digitTimeout, .clearedForward, .pulseError,
     .glareWon, .glareLost, .transferred, .farSeizeBlocked, .lateGuard]
  | .slot _ => [.seized, .rehunted, .expired, .glareQueued, .glareFailed]
  | .group _ => [.locked, .unlocked, .applied]
  | .watch _ => [.matched]

/-- A word of event bits: from bit 15 down a bit for each event of a list, set where the set holds it, and the rest 0
(R186). -/
def EventWord (events : List Event) (k : EventSet) (w : Word) : Prop :=
  ∀ i : Fin 16, bitSet w (15 - i.val) = ((events[i.val]?).map k.has).getD false

/-- A slot report's fields by the slot as it stands (R161, R186); a SEIZING slot shows the outcome seized. -/
def SlotReport (slot : Slot) (state outcome : Nat) (circuit : Option (Fin 96)) (tag : BitVec 8) : Prop :=
  match slot with
  | .free => False
  | .waiting call _ _ _ => state = 1 ∧ outcome = 0 ∧ circuit = none ∧ tag = call.tag
  | .seizing call c => state = 2 ∧ outcome = 1 ∧ circuit = some c ∧ tag = call.tag
  | .outcome call (.seized c) => state = 3 ∧ outcome = 1 ∧ circuit = some c ∧ tag = call.tag
  | .outcome call .expired => state = 3 ∧ outcome = 2 ∧ circuit = none ∧ tag = call.tag
  | .outcome call .glareFailed => state = 3 ∧ outcome = 3 ∧ circuit = none ∧ tag = call.tag

/-- Some words are the report of an item to a port, with the events it carries (R160 to R162, R186). -/
def ReportHolds (p : Port) (it : Item) (k : EventSet) (s : State) (ws : List Word) : Prop :=
  timeAt ws 1 = s.timeBase ∧ EventWord it.events k (wordAt ws 3) ∧
    match it with
    | .circuit c =>
      let r := s.circuit c
      (wordAt ws 0).toNat = c.val ∧ EventWord (it.events.drop 16) k (wordAt ws 4) ∧
        (let w := wordAt ws 5
         Coded stateTable r.state (field w 15 11) ∧ Coded [none, some Port.A, some .B] r.owner (field w 10 9) ∧
           bitSet w 8 = r.answered ∧ field w 7 4 = 0 ∧ Coded causeTable r.cause (field w 3 0)) ∧
        (let w := wordAt ws 6
         field w 15 11 = r.digits.length ∧ field w 10 6 = r.sent ∧ Unassigned w [5] ∧
           field w 4 0 = if k.has .answered then k.discarded else 0) ∧
        timeAt ws 7 = r.ansTime ∧ DigitsFrom ws 9 r.digits
    | .slot n =>
      (wordAt ws 0).toNat = 0x2000 + (if p = .B then 0x80 else 0) + n.val ∧ ws.length = 6 ∧
        (s.slot { port := p, num := n } ≠ .free →
          ∃ state outcome circuit tag, SlotReport (s.slot { port := p, num := n }) state outcome circuit tag ∧
            (let w := wordAt ws 4
             field w 15 14 = state ∧ field w 13 12 = outcome ∧ field w 11 8 = 0 ∧ bitSet w 7 = circuit.isSome ∧
               field w 6 0 = (circuit.getD 0).val) ∧
            (wordAt ws 5).toNat = tag.toNat)
    | .group g =>
      let r := (s.group g).reference
      (wordAt ws 0).toNat = 0x4000 + g.val ∧ ws.length = 7 ∧
        (let w := wordAt ws 4
         bitSet w 15 = r.locked ∧ Unassigned w [14, 13, 12] ∧ field w 11 0 = r.ref) ∧
        (wordAt ws 5).toNat = r.tBm ∧ (wordAt ws 6).toNat = r.tId
    | .watch ch =>
      (wordAt ws 0).toNat = 0x6000 + ch.val ∧ ws.length = 5 ∧ (wordAt ws 4).toNat = (s.watch ch).matchCount

/-! ## The pairs of a CONFIGURE GROUP (R21, R184) -/

/-- A selector and a value that a CONFIGURE GROUP's words carry as a pair; pair j is words 3 + 2j and 4 + 2j (R184). -/
def PairAt (ws : List Word) (j sel v : Nat) : Prop :=
  2 * j + 3 < ws.length ∧ field (wordAt ws (2 * j + 2)) 7 0 = sel ∧ (wordAt ws (2 * j + 3)).toNat = v

/-- The selectors of R184 with the values that test 2 of R21 lets pass. -/
def PairAllowed (sel v : Nat) : Prop :=
  (sel = 1 ∧ v ≤ 3) ∨ (sel = 2 ∧ v ≤ 1) ∨ (sel = 3 ∧ v ≤ 2) ∨ (sel = 4 ∧ v ≤ 3) ∨ (sel = 5 ∧ v ≤ 2) ∨
    (8 ≤ sel ∧ sel ≤ 40 ∧ (36 ≤ sel → sel ≤ 38 → v ≤ 1))

/-- Test 2 of R21 refuses the pairs: one of them is not allowed, or a selector is named twice. -/
def PairsBad (ws : List Word) : Prop :=
  (∃ j sel v, PairAt ws j sel v ∧ ¬ PairAllowed sel v) ∨
    ∃ i j sel v v', i ≠ j ∧ PairAt ws i sel v ∧ PairAt ws j sel v'

/-- One structural field that the pairs carry: the value whose code stands beside its selector (R184). -/
def CarriesField {α : Type} (ws : List Word) (sel : Nat) (table : List α) (carried : Option α) : Prop :=
  ∀ x, carried = some x ↔ ∃ j v, PairAt ws j sel v ∧ Coded table x v

/-- Everything that the pairs of a CONFIGURE GROUP carry (R184). -/
def Carries (ws : List Word) (k : GroupChange) : Prop :=
  CarriesField ws 1 [Direction.none, .outgoing, .incoming, .bothway] k.direction ∧
    CarriesField ws 2 [StartMode.ackStart, .timedStart] k.startMode ∧
    CarriesField ws 3 [HuntMode.lowFirst, .highFirst, .longestIdle] k.huntMode ∧
    CarriesField ws 4 [GlareRule.priorityAll, .priorityNone, .priorityEven, .priorityOdd] k.glareRule ∧
    CarriesField ws 5 [Distribution.fixedA, .fixedB, .alternate] k.distribution ∧
    ∀ (p : Param) (v : Nat), (p, v) ∈ k.params ↔ ∃ j, PairAt ws j (8 + p.index.val) v

/-! ## Commands of the time base -/

/-- The commands that the part's own time base brings. -/
def isTimed (i : Instr) : Bool :=
  match i with
  | .rawLeadChange _ _ => false
  | _ => i.numbered.isSome

/-! ## Reset (the last columns of R17, R20, R30, R103, R123, R136, R152, R177, R180) -/

/-- A circuit record as device reset leaves it (R17, R41, R65, R90, R169), with its send lead OFF (R9). -/
def CircuitAtReset (k : Circuit) : Prop :=
  k.state = .unequipped ∧ k.group = none ∧ k.trunkNo = 0 ∧ k.owner = none ∧ k.blockPending = false ∧
    k.callDir = .none ∧ k.callStart = none ∧ k.digits = [] ∧ k.sent = 0 ∧ k.eon = false ∧ k.unit = none ∧
    k.unitReq = none ∧ k.slot = none ∧ k.answered = false ∧ k.ansTime = 0 ∧ k.lastBrkEnd = 0 ∧ k.cause = .none ∧
    k.timer = none ∧ k.seizeTime = 0 ∧ k.ackEnd = none ∧ k.ansDue = none ∧ k.glarePhase = .none ∧
    k.glareTime = none ∧ k.relTime = none ∧ k.sup = .off

/-- A group record as device reset leaves it, with its reference (R16, R20, R123). -/
def GroupAtReset (k : Group) : Prop :=
  k.direction = .none ∧ k.startMode = .ackStart ∧ k.huntMode = .lowFirst ∧ k.glareRule = .priorityNone ∧
    k.distribution = .alternate ∧ k.nextPort = .A ∧ (∀ p, k.par p = p.default) ∧ k.idle = [] ∧ k.queue = [] ∧
    k.reference = { ref := 1600, locked := false, inRun := 0, outRun := 0, sinceApply := 0, tBm := 100, tId := 300 }

/-- A unit record as device reset leaves it (R103). -/
def UnitAtReset (k : DigitUnit) : Prop :=
  k.state = .free ∧ k.circuit = none ∧ k.count = 0 ∧ k.brkStart = none ∧ k.prevBrkStart = none ∧ k.subEnd = none ∧
    k.longBrk = false ∧ k.attachTime = 0 ∧ k.parkTime = none ∧ k.pendingOos = false

/-- A port as device reset leaves it, with PEN at a level (R30, R136, R144, R152), and its selects deasserted (the model's
choice, log entry 3). -/
def PortAtReset (r : PortRecord) (pen : Bool) : Prop :=
  r.handshake = .quiet ∧ r.wsel = false ∧ r.rsel = false ∧ r.assembly = .empty ∧ r.result = oneWord .noResult ∧
    r.resultPos = 1 ∧ r.report = none ∧ r.enabled = pen ∧ (∀ n : Fin 16, r.slots[n] = .free) ∧ (∀ it : Item, r.pend[it.index] = EventSet.empty) ∧
    r.attention = []

/-- The whole part as the release of RESET leaves it, with the raw receive leads and the PEN lines at their levels (R1, R3,
R106, R111, R177, R180). -/
def AtReset (leads : BitVec 96) (penA penB : Bool) (t : State) : Prop :=
  t.resetAsserted = false ∧ t.timeBase = 0 ∧ (∀ c, CircuitAtReset (t.circuit c)) ∧ (∀ g, GroupAtReset (t.group g)) ∧
    (∀ u, UnitAtReset (t.unit u)) ∧ t.regQueue = [] ∧ t.sndQueue = [] ∧ t.parked = [] ∧
    PortAtReset t.portA penA ∧ PortAtReset t.portB penB ∧
    (∀ c, t.filter c = { recCond := .off, recTime := 0
                         cand := if leads.getLsbD c.val then some { start := 0, persistence := 8 } else none }) ∧
    (∀ w, t.watch w = { enable := false, circuit := 0, edge := .toOn, reportTo := .none, action := .none, target := 0
                        matchCount := 0 }) ∧
    (∀ f, t.force f = { enable := false, circuit := 0, value := .off })

/-! ## Invariants -/

/-- Whether a parameter's value lies in its range (R16). -/
def Param.admits (p : Param) (v : Nat) : Prop :=
  p.range.1 ≤ v ∧ v ≤ p.range.2 ∧ (p = .cbLimit → v = 0 ∨ 10 ≤ v)

/-- A reference within the values of R123, with the lock runs as R126 and R127 leave them. -/
def Reference.Sound (r : Reference) : Prop :=
  800 ≤ r.ref ∧ r.ref ≤ 3200 ∧ r.sinceApply ≤ 64 ∧ 40 ≤ r.tBm ∧ r.tBm ≤ 200 ∧ 220 ≤ r.tId ∧ r.tId ≤ 1000 ∧
    (if r.locked then r.inRun = 4 ∧ r.outRun ≤ 2 else r.inRun ≤ 3 ∧ r.outRun = 0)

/-- Every group's parameters and reference are within their values (R16, R123, R124, R128). -/
def ReferencesSound (s : State) : Prop :=
  ∀ g, (∀ p : Param, p.admits ((s.group g).par p)) ∧ (s.group g).reference.Sound

/-- Each port's attention list holds any item at most once (R155). -/
def AttentionSound (s : State) : Prop := ∀ p, (s.port p).attention.Nodup

/-- What a call kept in a slot holds is within R30: a wait of at most 60 seconds, a glare_count of 0 or 1, and at most 24
digits. -/
def Slot.Sound : Slot → Prop
  | .free => True
  | .waiting call digits _ _ => call.wait ≤ 60 ∧ call.glareCount ≤ 1 ∧ digits.length ≤ 24
  | .seizing call _ => call.wait ≤ 60 ∧ call.glareCount ≤ 1
  | .outcome call _ => call.wait ≤ 60 ∧ call.glareCount ≤ 1

/-- The records are within the values their tables give: 24 digits a call and trunk numbers to 999 (R17), slots (R30), and
match counts to 65535 (R177). -/
def FieldsSound (s : State) : Prop :=
  (∀ c, (s.circuit c).digits.length ≤ 24 ∧ (s.circuit c).trunkNo ≤ 999) ∧ (∀ id, (s.slot id).Sound) ∧
    (∀ w, (s.watch w).matchCount ≤ 65535)

/-- The sent count of every circuit lies within its digit string (R17, R46), the counts of every unit lie within R103 and
R118, and a sender that is within a digit or between two has a digit left to end (R117, R118). -/
def DigitsSound (s : State) : Prop :=
  (∀ c, (s.circuit c).sent ≤ (s.circuit c).digits.length) ∧
    ∀ u, let k := s.unit u
      k.count ≤ 11 ∧ k.pulses ≤ 10 ∧ (k.state = .sender .inBreak → k.count ≤ k.pulses) ∧
        (k.state = .sender .inMake → k.count < k.pulses) ∧
        ∀ c, k.circuit = some c → k.state = .sender .inBreak ∨ k.state = .sender .inMake ∨ k.state = .sender .pause →
          (s.circuit c).sent < (s.circuit c).digits.length

/-- A set of events of an item: of the kinds that R154 gives it, with a discarded count of at most the 24 digits of a
call. -/
def EventSet.Fits (k : EventSet) (it : Item) : Prop :=
  (∀ i, k.bits.getLsbD i = true → ∃ e ∈ it.events, e.bit = i) ∧ k.discarded ≤ 24

/-- Every pending set, and the events of every report read in progress, fit their items (R152, R154). -/
def EventsSound (s : State) : Prop :=
  ∀ p, (∀ it : Item, ((s.port p).pend[it.index]).Fits it) ∧
    ∀ k, (s.port p).report = some k → k.events.Fits k.item

/-- The OUT_ states (R18). -/
def CircuitState.isOutgoing : CircuitState → Bool
  | .outSeizing | .outSending | .outWaitAnswer | .outAnswered | .outClearedBack | .outReleasing => true
  | .unequipped | .blocked | .fault | .idle | .inPreseize | .inSeized | .inReceiving | .inHeld | .inAnswered
  | .inClearedBack | .inGuard => false

/-- The IN_ states (R18). -/
def CircuitState.isIncoming : CircuitState → Bool
  | .inPreseize | .inSeized | .inReceiving | .inHeld | .inAnswered | .inClearedBack | .inGuard => true
  | .unequipped | .blocked | .fault | .idle | .outSeizing | .outSending | .outWaitAnswer | .outAnswered
  | .outClearedBack | .outReleasing => false

/-- The circuits' states fit their groups (R18): an OUT_ state only in an OUTGOING or BOTHWAY group, an IN_ state only in
an INCOMING or BOTHWAY group; no owner, unit, unit request or slot in UNEQUIPPED, IDLE, BLOCKED and FAULT; no group in
UNEQUIPPED, and in any other state one whose direction is not NONE. A preseizure has no owner (R66), a circuit that is
UNEQUIPPED, BLOCKED or IDLE has no block waiting (R165), and slots wait only for a group that carries outgoing calls
(R35). -/
def RestSound (s : State) : Prop :=
  (∀ c, let k := s.circuit c
    (k.state.isOutgoing = true → ∃ g, k.group = some g ∧ (s.group g).direction.outgoingCapable = true) ∧
    (k.state.isIncoming = true → ∃ g, k.group = some g ∧ (s.group g).direction.incomingCapable = true) ∧
    (k.state = .unequipped ∨ k.state = .idle ∨ k.state = .blocked ∨ k.state = .fault →
      k.owner = none ∧ k.unit = none ∧ k.unitReq = none ∧ k.slot = none) ∧
    (k.state = .unequipped → k.group = none) ∧
    (k.state ≠ .unequipped → ∃ g, k.group = some g ∧ (s.group g).direction ≠ .none) ∧
    (k.state = .inPreseize → k.owner = none) ∧
    (k.state = .unequipped ∨ k.state = .blocked ∨ k.state = .idle → k.blockPending = false)) ∧
  ∀ g, (s.group g).queue ≠ [] → (s.group g).direction.outgoingCapable = true

/-- Whether a unit's state is that of a sender (R102). -/
def UnitState.isSender : UnitState → Bool
  | .sender _ => true
  | .free | .outOfService | .register _ => false

/-- Whether a unit's state is that of a register (R102). -/
def UnitState.isRegister : UnitState → Bool
  | .register _ => true
  | .free | .outOfService | .sender _ => false

/-- The idle lists, the units, the unit request queue and the parked list agree with the circuits and with each other. -/
structure PoolSound (s : State) : Prop where
  /-- a group's idle list holds exactly the group's circuits that are IDLE (R24) -/
  idleLists : ∀ g c, c ∈ (s.group g).idle ↔ (s.circuit c).state = .idle ∧ (s.circuit c).group = some g
  /-- each once (R24) -/
  idleOnce : ∀ g, (s.group g).idle.Nodup
  /-- a unit's circuit and a circuit's unit agree (R103) -/
  linked : ∀ u c, (s.unit u).circuit = some c ↔ (s.circuit c).unit = some u
  /-- a unit that is FREE or OUT_OF_SERVICE is attached to no circuit (R102, R103) -/
  unattached : ∀ u, (s.unit u).state = .free ∨ (s.unit u).state = .outOfService → (s.unit u).circuit = none
  /-- a sender serves an outgoing call in OUT_SEIZING or OUT_SENDING (R102, R109) -/
  senders : ∀ u c, (s.unit u).state.isSender = true → (s.unit u).circuit = some c →
    (s.circuit c).state = .outSeizing ∨ (s.circuit c).state = .outSending
  /-- a register serves an incoming call in IN_RECEIVING (R102, R109) -/
  registers : ∀ u c, (s.unit u).state.isRegister = true → (s.unit u).circuit = some c →
    (s.circuit c).state = .inReceiving
  /-- a REGISTER entry's circuit is in IN_SEIZED with its request outstanding and no unit (R69, R104, R106) -/
  registerEntries : ∀ e ∈ s.regQueue, (s.circuit e.circuit).state = .inSeized ∧ (s.circuit e.circuit).unit = none ∧
    (s.circuit e.circuit).unitReq ≠ none
  /-- a SENDER entry's circuit is in OUT_SEIZING or OUT_SENDING likewise (R104, R106) -/
  senderEntries : ∀ e ∈ s.sndQueue,
    ((s.circuit e.circuit).state = .outSeizing ∨ (s.circuit e.circuit).state = .outSending) ∧
      (s.circuit e.circuit).unit = none ∧ (s.circuit e.circuit).unitReq ≠ none
  /-- the queue holds each circuit at most once (R106) -/
  queuedOnce : ((s.regQueue ++ s.sndQueue).map (·.circuit)).Nodup
  /-- a circuit whose request is outstanding has an entry of its class and its instant (R104, R106) -/
  requests : ∀ c r, (s.circuit c).unitReq = some r →
    { circuit := c, time := r.time } ∈ (if r.cls = .register then s.regQueue else s.sndQueue)
  /-- a request waits only while no unit is FREE and none is PARKED (R106) -/
  noneFree : s.regQueue ++ s.sndQueue ≠ [] → (∀ u, (s.unit u).state ≠ .free) ∧ s.parked = []
  /-- the parked list holds exactly the PARKED senders (R111) -/
  parkedList : ∀ u, u ∈ s.parked ↔ (s.unit u).state = .sender .parked
  /-- each once (R111) -/
  parkedOnce : s.parked.Nodup
  /-- a unit that is a sender or a register is attached to a circuit (R102) -/
  attached : ∀ u, (s.unit u).state.isSender = true ∨ (s.unit u).state.isRegister = true →
    (s.unit u).circuit.isSome = true

/-- The seizure slots agree with the wait queues and with the circuits. -/
structure SlotsSound (s : State) : Prop where
  /-- a group's wait queue holds exactly the slots that wait for the group (R33) -/
  waiting : ∀ g id, id ∈ (s.group g).queue ↔
    ∃ call digits eon expiry, s.slot id = .waiting call digits eon expiry ∧ call.group = g
  /-- each once (R33) -/
  waitingOnce : ∀ g, (s.group g).queue.Nodup
  /-- a slot waits only while no circuit of its group is idle (R26, R27, R36) -/
  noneIdle : ∀ g, (s.group g).queue ≠ [] → (s.group g).idle = []
  /-- a circuit's slot and a SEIZING slot's circuit agree (R31) -/
  linked : ∀ c id, (s.circuit c).slot = some id ↔ ∃ call, s.slot id = .seizing call c
  /-- a circuit with a slot is in OUT_SEIZING, owned by the slot's port, in the group of the slot's call (R30, R31) -/
  seizing : ∀ c id, (s.circuit c).slot = some id →
    (s.circuit c).state = .outSeizing ∧ (s.circuit c).owner = some id.port ∧
      ∀ call, s.slot id = .seizing call c → (s.circuit c).group = some call.group
  /-- a port that is not enabled has only FREE slots (R148) -/
  disabledFree : ∀ p (n : Fin 16), (s.port p).enabled = false → s.slot { port := p, num := n } = .free

end Sys2Proof.Machine
end

