-- ==== Sys2Proof/Certificates/Slice0/Obligations.lean ====
section
/-! DEFINITION. The statements for the provers. Each speaks of every state that meets its hypotheses; what it leaves
unsaid of the next state it says by a frame (Safety.lean). -/

open Sys2Proof Sys2Proof.Machine

/-! ## The queue of commands, and reset -/

/-- A step with a command waiting is that command on the state with the rest of the queue (the model's queue, log entry
1). -/
def Obligations.StepRunsTheFrontCommand : Prop :=
  ∀ (i : Instr) (rest : List Instr) (s : State),
    s.pending = i :: rest → step s = exec i { s with pending := rest }

/-- With no command waiting, the time base counts when nothing is due, and otherwise one thing that is due is taken; where
several are due, the choice is a free value (the model's choice, log entries 1 and 7). While RESET is asserted nothing is due
and the time base stands (log entry 3). -/
def Obligations.EmptyQueueLetsTimePass : Prop :=
  ∀ s : State, s.pending = [] →
    (dueCommands s = [] →
      step s = .next (if s.resetAsserted then s else { s with timeBase := s.timeBase + 1 })) ∧
    (∀ i, dueCommands s = [i] → step s = exec i s) ∧
    (∀ i j rest, dueCommands s = i :: j :: rest →
      ∃ k ∈ dueCommands s, step s = exec k { s with choices := s.choices + 1 })

/-- A command completes exactly when the number it carries is one the part has, and otherwise it faults by name
(00_scope.md, Capacities; the fault is the model's, log entry 2); a recognition or an expiry that is not due leaves the
state alone (the model's choice, log entry 2). -/
def Obligations.CommandsCompleteExactlyWhenWellFormed : Prop :=
  ∀ (i : Instr) (s : State),
    (WellFormed i = true → ∃ t, exec i s = .next t) ∧ (WellFormed i = false → exec i s = .fault .noSuchNumber) ∧
    (WellFormed i = true → isTimed i = true → i ∉ dueCommands s → exec i s = .next s)

/-- DEVICE_RESET is either edge of RESET. From its assertion on, every field is at the value its table gives (the leads and
PEN as deasserted), and no other command changes anything; its release leaves the tables' values with the leads and PEN at
their levels, and `State.reset` is that state with the leads OFF and PEN deasserted (the last columns of R17, R20, R30, R103,
R123, R136, R152, R177, R180; that the part does nothing between the edges, and both selects deasserted at the release, are
log entry 3; a release of RESET that is not asserted is log entry 2). ATTN, REPLY and LAST are deasserted and DATA is not
driven while RESET is asserted (R136). -/
def Obligations.ResetGivesTheTablesValues : Prop :=
  (∀ (leads : BitVec 96) (penA penB : Bool) (s : State),
    (∃ t, exec (.deviceReset .assertion penA penB) s = .next t ∧ t.resetAsserted = true ∧
      AtReset 0 false false { t with resetAsserted := false } ∧ t.pending = s.pending ∧ t.choices = s.choices) ∧
    (s.resetAsserted = true →
      ∃ t, exec (.deviceReset (.release leads) penA penB) s = .next t ∧ AtReset leads penA penB t ∧
        t.pending = s.pending ∧ t.choices = s.choices) ∧
    (s.resetAsserted = false → exec (.deviceReset (.release leads) penA penB) s = .next s)) ∧
  (∀ (i : Instr) (s : State), s.resetAsserted = true → WellFormed i = true →
    (∀ edge penA penB, i ≠ .deviceReset edge penA penB) → exec i s = .next s) ∧
  (∀ (p : Port) (s : State),
    (s.attn p = true ↔ s.resetAsserted = false ∧ (s.port p).attention ≠ []) ∧
    (s.reply p = true ↔ s.resetAsserted = false ∧ (s.port p).handshake ≠ .quiet) ∧
    ∀ word last, s.dataOut p = some (word, last) ↔
      s.resetAsserted = false ∧ (s.port p).handshake = .replyingRead word last) ∧
  AtReset 0 false false State.reset ∧ State.reset.pending = []

/-! ## Leads -/

/-- A send lead follows the lowest enabled force channel naming its BLOCKED circuit, else a sender that is pulsing or
pausing, else the supervision condition (R7). -/
def Obligations.SendLeadFollowsItsSource : Prop :=
  ∀ (c : Fin 96) (s : State),
    let forced : Prop := (s.circuit c).state = .blocked ∧ ∃ f, (s.force f).enable = true ∧ (s.force f).circuit = c
    let pulsing (sub : SenderSub) : Prop :=
      ∃ u, (s.circuit c).unit = some u ∧ (s.unit u).state = .sender sub
    (forced → ∃ f, (s.force f).enable = true ∧ (s.force f).circuit = c ∧
      (∀ f', f' < f → ¬ ((s.force f').enable = true ∧ (s.force f').circuit = c)) ∧ s.sendLead c = (s.force f).value) ∧
    (¬ forced → pulsing .inBreak → s.sendLead c = .off) ∧
    (¬ forced → pulsing .inMake ∨ pulsing .pause → s.sendLead c = .on) ∧
    (¬ forced → ¬ pulsing .inBreak → ¬ pulsing .inMake → ¬ pulsing .pause → s.sendLead c = (s.circuit c).sup)

/-- RAW_LEAD_CHANGE (R4): away from rec_cond a candidate begins with the group's filt, or 8 in no group; back to rec_cond
before its persistence it is discarded; back at the instant it is reached, the transition is accepted first and the return
begins a new candidate. Nothing else changes but by that transition. -/
def Obligations.RawLeadChangesAreCandidates : Prop :=
  ∀ (c : Fin 96) (s : State), s.resetAsserted = false →
    let start (u : State) : State :=
      u.setFilter c
        { u.filter c with
          cand := some { start := u.timeBase, persistence :=
            match (u.circuit c).group with
            | some g => (u.group g).par .filt
            | none => 8 } }
    (∀ cond, (s.filter c).cand = none → cond ≠ (s.filter c).recCond →
      exec (.rawLeadChange c.val cond) s = .next (start s)) ∧
    (∀ k, (s.filter c).cand = some k → elapsed s.timeBase k.start < k.persistence →
      exec (.rawLeadChange c.val (s.filter c).recCond) s =
        .next (s.setFilter c { s.filter c with cand := none })) ∧
    (TransitionDue c s → ∀ u, exec (.recognizedTransition c.val) s = .next u →
      exec (.rawLeadChange c.val (s.filter c).recCond) s = .next (start u))

/-- RECOGNIZED_TRANSITION (R5, R178): the channel takes the new condition and the stamp, every other channel stays, the time
base stays, and every watch channel that matches counts the transition, saturating, and reports it to the ports that its
report_to names, to no other, and with NONE to neither (R154). -/
def Obligations.RecognizedTransitionIsStampedAndWatched : Prop :=
  ∀ (c : Fin 96) (s : State), s.resetAsserted = false → TransitionDue c s →
    ∃ t, exec (.recognizedTransition c.val) s = .next t ∧
      t.filter c = { recCond := oppositeCond (s.filter c).recCond, recTime := s.timeBase, cand := none } ∧
      (∀ d, d ≠ c → t.filter d = s.filter d) ∧ t.timeBase = s.timeBase ∧ t.resetAsserted = false ∧
      t.pending = s.pending ∧ t.choices = s.choices ∧
      ∀ w,
        let k := s.watch w
        let matched : Prop := WatchMatches k c (oppositeCond (s.filter c).recCond)
        let it := Item.watch w
        (matched → t.watch w = { k with matchCount := min 65535 (k.matchCount + 1) }) ∧ (¬ matched → t.watch w = k) ∧
          ∀ p,
            (matched → k.reportTo.names p = true →
              (t.port p).pend[it.index] = ((s.port p).pend[it.index]).add .matched ∧
                it ∈ (t.port p).attention) ∧
            (¬ matched ∨ k.reportTo.names p = false →
              (t.port p).pend[it.index] = (s.port p).pend[it.index] ∧
                (it ∈ (t.port p).attention ↔ it ∈ (s.port p).attention))

/-- The actions that one transition collects for a force channel give it one value: ON with a SET, else OFF with a CLEAR,
else the opposite with a TOGGLE, else the value it had; whatever its enable and its circuit, which do not change (R179). -/
def Obligations.ForceActionsAreResolved : Prop :=
  ∀ (c : Fin 96) (s : State) (f : Fin 8), s.resetAsserted = false → TransitionDue c s →
    let got (a : Action) : Prop :=
      ∃ w, WatchMatches (s.watch w) c (oppositeCond (s.filter c).recCond) ∧ (s.watch w).target = f ∧
        (s.watch w).action = a
    ∃ t, exec (.recognizedTransition c.val) s = .next t ∧
      (t.force f).enable = (s.force f).enable ∧ (t.force f).circuit = (s.force f).circuit ∧
      (got .set → (t.force f).value = .on) ∧
      (¬ got .set → got .clear → (t.force f).value = .off) ∧
      (¬ got .set → ¬ got .clear → got .toggle → (t.force f).value = oppositeCond (s.force f).value) ∧
      (¬ got .set → ¬ got .clear → ¬ got .toggle → (t.force f).value = (s.force f).value)

/-- A TO_ON on an IDLE circuit of an incoming-capable group takes it off the idle list into IN_PRESEIZE, begins an incoming
call and starts the timer with sz_rec (R25, R19, R66). A TO_OFF in IN_PRESEIZE before sz_rec stops the timer, and the
circuit becomes idle with no event raised on it and no register requested: it is placed in BLOCKED, with the waiting slot at
the head of the queue, or at the tail of the idle list (R67, R27, R28). Where a waiting slot takes the circuit, the flag of
an ON present at the seizure is log entry 19. -/
def Obligations.IdleCircuitBeginsAPreseizure : Prop :=
  ∀ (c : Fin 96) (g : Fin 8) (s : State), s.resetAsserted = false → PoolSound s → TransitionDue c s →
    (s.circuit c).group = some g →
    let now := s.setFilter c { recCond := .off, recTime := s.timeBase, cand := none }
    ((s.filter c).recCond = .off → (s.circuit c).state = .idle → (s.group g).direction.incomingCapable = true →
      ∃ t, exec (.recognizedTransition c.val) s = .next t ∧
        Preseizes (s.group g) c s t ∧ (t.circuit c).owner = (s.circuit c).owner ∧
        t.group g = { s.group g with idle := (s.group g).idle.filter fun d => d ≠ c } ∧
        GroupsKept [g] s t ∧ CircuitsKept [c] s t ∧ PoolKept s t) ∧
    ((s.filter c).recCond = .on → (s.circuit c).state = .inPreseize → ¬ TimerReached c s → RestSound s →
      ∃ t, exec (.recognizedTransition c.val) s = .next t ∧ PlacedAs g c now t ∧ NoCircuitEvent c s t ∧
        (∀ d, d ≠ c → s.reclaimed ≠ some d → t.circuit d = s.circuit d) ∧ GroupsKept [g] s t ∧ PortStateKept s t)

/-- A register takes the transitions of its circuit's lead (R119, R120, R122). A TO_OFF in WAIT_DIGIT or MAKE begins a break
timed against the t_bm applied; from MAKE it also hands the period P to the group's reference if track is on and P is 50 to
200. A TO_ON before t_bm, and before cf_rec, counts a pulse, staying at 11, and is timed against the t_id applied; one that
ends a long break, or is stamped as the break reaches t_bm, discards the digit with pulse_error; one in WAIT_DIGIT does
nothing. -/
def Obligations.RegistersTimeBreaksAndMakes : Prop :=
  ∀ (c : Fin 96) (u : Fin 16) (g : Fin 8) (s : State), s.resetAsserted = false → PoolSound s → TransitionDue c s →
    (s.circuit c).unit = some u → (s.circuit c).group = some g →
    let k := s.unit u
    let start (prev : Option Time) : DigitUnit :=
      { k with state := .register .inBreak, longBrk := false, prevBrkStart := prev, brkStart := some s.timeBase
               subEnd := some (timeAfter s.timeBase (s.group g).reference.tBm) }
    let taken (unit : DigitUnit) (t : State) : Prop :=
      exec (.recognizedTransition c.val) s = .next t ∧ t.unit u = unit ∧
        t.circuit c = { s.circuit c with held := s.thresholds c } ∧ UnitsKept [u] s t ∧ CircuitsKept [c] s t ∧
        t.regQueue = s.regQueue ∧ t.sndQueue = s.sndQueue ∧ t.parked = s.parked ∧ PortStateKept s t
    ((s.filter c).recCond = .on → k.state = .register .waitDigit →
      ∃ t, taken (start none) t ∧ t.groups = s.groups ∧ NoCircuitEvent c s t) ∧
    ((s.filter c).recCond = .on → k.state = .register .inMake → ¬ Come s.timeBase k.subEnd →
      ∃ t, taken (start k.brkStart) t ∧ GroupsKept [g] s t ∧ NoCircuitEvent c s t ∧
        ∀ since, k.brkStart = some since →
          let p := elapsed s.timeBase since
          ((s.group g).par .track = 1 → 50 ≤ p → p ≤ 200 → t.group g = (takePeriod g p s).group g ∧
            ∀ q, (t.port q).pend[(Item.group g).index] = ((takePeriod g p s).port q).pend[(Item.group g).index]) ∧
          ((s.group g).par .track ≠ 1 ∨ p < 50 ∨ 200 < p → t.groups = s.groups)) ∧
    ((s.filter c).recCond = .off → s.recFor c < (s.heldOf c).cfRec →
      (k.state = .register .inBreak → k.longBrk = false → ¬ Come s.timeBase k.subEnd →
        ∃ t, taken
            { k with state := .register .inMake, count := min 11 (k.count + 1)
                     subEnd := some (timeAfter s.timeBase (s.group g).reference.tId) } t ∧
          t.groups = s.groups ∧ NoCircuitEvent c s t) ∧
      (k.state = .register .inBreak → k.longBrk = true ∨ Come s.timeBase k.subEnd →
        ∃ t, taken
            { k with state := .register .waitDigit, count := 0, brkStart := none, prevBrkStart := none, subEnd := none
                     longBrk := false } t ∧
          t.groups = s.groups ∧ Reports c [((s.circuit c).owner, .pulseError)] s t) ∧
      (k.state = .register .waitDigit → ∃ t, taken k t ∧ t.groups = s.groups ∧ NoCircuitEvent c s t))

/-- A far ON that began after the clear-forward and lasted guard_min ends: in OUT_RELEASING it is the release guard, and
released goes to the owner, who is then none; in FAULT it is a late guard, reported to both ports. The circuit becomes idle:
it is placed in BLOCKED, with the waiting slot at the head of the queue, or at the tail of the idle list (R59, R170, R27,
R28). The end of an ON that was present at the entry to OUT_RELEASING, or was shorter than guard_min, is ignored; a TO_ON
begins an ON that was not present then, unless its stamp is that of the entry (log entry 19). -/
def Obligations.GuardsReturnTheCircuit : Prop :=
  ∀ (c : Fin 96) (g : Fin 8) (s : State), s.resetAsserted = false → PoolSound s → RestSound s → TransitionDue c s →
    (s.circuit c).group = some g →
    let k := s.circuit c
    let guard : Prop := k.presentOn = false ∧ (s.heldOf c).guardMin ≤ s.recFor c
    let now := s.setFilter c { recCond := .off, recTime := s.timeBase, cand := none }
    let returned (owner : Option Port) (e : Event) : Prop :=
      ∃ t, exec (.recognizedTransition c.val) s = .next t ∧ PlacedAs g c now t ∧ Reports c [(owner, e)] s t ∧
        (∀ d, d ≠ c → s.reclaimed ≠ some d → t.circuit d = s.circuit d) ∧ GroupsKept [g] s t ∧ PortStateKept s t
    ((s.filter c).recCond = .on →
      (k.state = .outReleasing → guard → returned k.owner .released) ∧
      (k.state = .fault → guard → returned none .lateGuard) ∧
      (k.state = .outReleasing ∨ k.state = .fault → ¬ guard →
        ∃ t, exec (.recognizedTransition c.val) s = .next t ∧ TransitionIgnored c false s t)) ∧
    ((s.filter c).recCond = .off →
      (k.state = .outReleasing →
        ∃ t, exec (.recognizedTransition c.val) s = .next t ∧
          TransitionIgnored c (decide (k.relTime = some s.timeBase)) s t) ∧
      (k.state = .fault → ∃ t, exec (.recognizedTransition c.val) s = .next t ∧ TransitionIgnored c false s t))

/-! ## Outgoing calls -/

/-- The leave to send takes a seizing circuit into OUT_SENDING with proceed to its owner and its slot link broken: in an
ACK_START group the end of an ON of a width from ack_min up to ack_max that began after the seizure, in a TIMED_START
group the expiry of pre_pause (R42, R45). With nothing to send it goes on to OUT_WAIT_ANSWER with digits_sent if eon is set,
and otherwise starts the stall timer (R46, R51); with a digit left its sender's start instant is decided, its request waits,
or it requests a sender (R46, R47, R117; the break fields of a sender are log entry 11). An ON that has reached ans_rec is
answer at once (R53). An ON that was present at the seizure, is shorter than ack_min, or ends before ack_max in a TIMED_START
group is ignored; a TO_ON begins an ON that was not present at the seizure, unless its stamp is seize_time (R42, R45; log
entry 19). -/
def Obligations.LeaveToSendProceeds : Prop :=
  ∀ (c : Fin 96) (g : Fin 8) (s : State), s.resetAsserted = false → PoolSound s → (s.circuit c).state = .outSeizing →
    (s.circuit c).group = some g → (s.circuit c).glarePhase ≠ .holding →
    let k := s.circuit c
    let acknowledged : Prop :=
      (s.group g).startMode = .ackStart ∧ k.presentOn = false ∧ (s.heldOf c).ackMin ≤ s.recFor c ∧
        s.recFor c < (s.heldOf c).ackMax
    let early : Prop :=
      if k.presentOn then elapsed s.timeBase k.seizeTime < k.seizeAckMax else s.recFor c < (s.heldOf c).ackMax
    let answered : Prop := (s.filter c).recCond = .on ∧ (s.heldOf c).ansRec ≤ s.recFor c
    let sent : List (Option Port × Event) :=
      if k.digits.length ≤ k.sent ∧ k.eon = true then [(k.owner, .digitsSent)] else []
    (TransitionDue c s → (s.filter c).recCond = .on →
      (acknowledged → ∃ t, exec (.recognizedTransition c.val) s = .next t ∧ Proceeds c s t) ∧
      (¬ acknowledged → early →
        ∃ t, exec (.recognizedTransition c.val) s = .next t ∧ TransitionIgnored c false s t)) ∧
    (TransitionDue c s → (s.filter c).recCond = .off →
      ∃ t, exec (.recognizedTransition c.val) s = .next t ∧
        TransitionIgnored c (decide (k.seizeTime = s.timeBase)) s t) ∧
    ((s.group g).startMode = .timedStart → TimerReached c s →
      ∃ t, exec (.prePauseExpiry c.val) s = .next t ∧ LinesKept s t ∧
        (¬ answered → Proceeds c s t) ∧
        (answered →
          (t.circuit c).state = .outAnswered ∧ (t.circuit c).answered = true ∧ (t.circuit c).ansTime = s.timeBase ∧
            (t.circuit c).slot = none ∧ (t.circuit c).owner = k.owner ∧ (t.circuit c).unit = none ∧
            (t.circuit c).unitReq = none ∧ (t.circuit c).timer = none ∧
            (t.circuit c).digits = k.digits.take k.sent ∧
            Reports c ([(k.owner, .proceed)] ++ sent ++ [(k.owner, .answered)]) s t ∧
            (∀ p, routedTo k.owner p = true →
              ((t.port p).pend[(Item.circuit c).index]).discarded = k.digits.length - k.sent) ∧
            LinkBroken c s t ∧ t.groups = s.groups ∧ PortStateKept s t))

/-- ANSWER_RECOGNIZED (R53): the sender is detached, the request withdrawn, the digits not sent removed and their number
held with answered, and the circuit enters OUT_ANSWERED with the instant recorded. No port but the owner's, or both if there
is none, hears of it (R154). -/
def Obligations.AnswerIsRecognized : Prop :=
  ∀ (c : Fin 96) (s : State), s.resetAsserted = false → PoolSound s →
    (s.circuit c).state = .outSending ∨ (s.circuit c).state = .outWaitAnswer → (s.filter c).recCond = .on →
    (s.heldOf c).ansRec ≤ s.recFor c →
    let k := s.circuit c
    ∃ t, exec (.answerRecognized c.val) s = .next t ∧
      (t.circuit c).state = .outAnswered ∧ (t.circuit c).answered = true ∧ (t.circuit c).ansTime = s.timeBase ∧
      (t.circuit c).digits = k.digits.take k.sent ∧ (t.circuit c).timer = none ∧ (t.circuit c).unit = none ∧
      (t.circuit c).unitReq = none ∧ (t.circuit c).owner = k.owner ∧ (t.circuit c).sup = k.sup ∧
      (∀ p, t.port p =
        let it := Item.circuit c
        let r := s.port p
        if routedTo k.owner p then
          { r.withEvent it .answered with
            pend := r.pend.set it.index
              { (r.pend[it.index]).add .answered with discarded := k.digits.length - k.sent } }
        else r) ∧
      ServedFrame c s t

/-- CLEAR_BACK_RECOGNIZED, REANSWER_RECOGNIZED and FAR_SEIZE_BLOCKED change one circuit and raise one event (R54, R55,
R167). In BLOCKED a TO_ON starts the timer with sz_rec and a TO_OFF stops it, raising nothing but a far seizure reached at
that very instant (R167, R6; the stop of a timer that a RESET CIRCUIT with block_pending started is log entry 23). -/
def Obligations.RecognitionsChangeOneCircuit : Prop :=
  ∀ (c : Fin 96) (s : State), s.resetAsserted = false →
    ((s.circuit c).state = .outAnswered → (s.filter c).recCond = .off → (s.heldOf c).cbRec ≤ s.recFor c →
      ∃ t, exec (.clearBackRecognized c.val) s = .next t ∧
        t.circuit c =
          { s.circuit c with
            state := .outClearedBack
            timer := if s.par c .cbLimit = 0 then none
              else some { start := s.timeBase, value := 1000 * s.par c .cbLimit } } ∧
        OnlyCircuit c s t ∧ CircuitEvent c .clearedBack s t) ∧
    ((s.circuit c).state = .outClearedBack → (s.filter c).recCond = .on → (s.heldOf c).ansRec ≤ s.recFor c →
      ∃ t, exec (.reanswerRecognized c.val) s = .next t ∧
        t.circuit c = { s.circuit c with state := .outAnswered, timer := none } ∧
        OnlyCircuit c s t ∧ CircuitEvent c .reanswered s t) ∧
    ((s.circuit c).state = .blocked → TimerReached c s →
      ∃ t, exec (.farSeizeBlocked c.val) s = .next t ∧ t.circuit c = { s.circuit c with timer := none } ∧
        OnlyCircuit c s t ∧ CircuitEvent c .farSeizeBlocked s t) ∧
    ((s.circuit c).state = .blocked → PoolSound s → TransitionDue c s →
      ∃ t, exec (.recognizedTransition c.val) s = .next t ∧
        t.circuit c =
          { s.circuit c with
            held := s.thresholds c
            timer := if (s.filter c).recCond = .off then some { start := s.timeBase, value := s.par c .szRec }
              else none } ∧
        CircuitsKept [c] s t ∧ t.groups = s.groups ∧ PoolKept s t ∧ PortStateKept s t ∧
        (¬ TimerReached c s → NoCircuitEvent c s t) ∧
        (TimerReached c s → Reports c [((s.circuit c).owner, .farSeizeBlocked)] s t))

/-- The waits of an outgoing call that expire, and a far ON that reaches ack_max where that is no glare, give the call up
with the cause and the event of R61 (R43, R44, R51, R52, R56, R92, R93). Of the ports only the slot and that event differ
(R154). The timer of a seizure hold is log entry 14, and the flag of an ON present at the entry to OUT_RELEASING log entry
19. -/
def Obligations.ExpiriesGiveTheCallUp : Prop :=
  ∀ (c : Fin 96) (g : Fin 8) (s : State), s.resetAsserted = false → PoolSound s → (s.circuit c).group = some g →
    let k := s.circuit c
    (k.state = .outSeizing → (s.group g).startMode = .ackStart ∨ k.glarePhase = .holding → TimerReached c s →
      ∃ t, exec (.ackWaitExpiry c.val) s = .next t ∧
        CallGivenUp c (if k.glarePhase = .holding then .glareUnresolved else .noProceed) .seizeFailed s t) ∧
    (k.state = .outSending → TimerReached c s →
      ∃ t, exec (.stallExpiry c.val) s = .next t ∧ CallGivenUp c .stall .autoCleared s t) ∧
    (k.state = .outClearedBack → TimerReached c s →
      ∃ t, exec (.cbLimitExpiry c.val) s = .next t ∧ CallGivenUp c .cbLimit .autoCleared s t) ∧
    (∀ r, k.unitReq = some r → r.cls = .sender → r.wait ≤ elapsed s.timeBase r.time →
      (k.state = .outSeizing →
        ∃ t, exec (.senderWaitExpiry c.val) s = .next t ∧ CallGivenUp c .senderCongestion .seizeFailed s t) ∧
      (k.state = .outSending →
        ∃ t, exec (.senderWaitExpiry c.val) s = .next t ∧ CallGivenUp c .senderCongestion .autoCleared s t)) ∧
    (k.state = .outSeizing → (s.filter c).recCond = .on → k.glarePhase ≠ .holding →
      (if k.presentOn then k.seizeAckMax ≤ elapsed s.timeBase k.seizeTime else (s.heldOf c).ackMax ≤ s.recFor c) →
      (k.glarePhase = .farCleared →
        ∃ t, exec (.ackMaxReached c.val) s = .next t ∧ CallGivenUp c .glareUnresolved .seizeFailed s t) ∧
      (k.glarePhase ≠ .farCleared → (s.group g).direction ≠ .bothway →
        ∃ t, exec (.ackMaxReached c.val) s = .next t ∧ CallGivenUp c .lineFault .seizeFailed s t))

/-- SEIZE_HOLD_END, GUARD_SEP_END and GUARD_WAIT_EXPIRY: the hold's end takes the lead OFF and starts guard_wait (R58, R59);
the OFF gap's end begins the guard ON (R84); the expiry of guard_wait locks the circuit out (R60, R169). -/
def Obligations.ReleaseIntervalsEnd : Prop :=
  ∀ (c : Fin 96) (s : State), s.resetAsserted = false → TimerReached c s →
    let k := s.circuit c
    (k.state = .outReleasing → k.sup = .on →
      ∃ t, exec (.seizeHoldEnd c.val) s = .next t ∧
        t.circuit c =
          { k with sup := .off, lastOff := some { start := s.timeBase, value := s.par c .sep }
                   timer := some { start := s.timeBase, value := s.par c .guardWait } } ∧
        OnlyCircuit c s t ∧ PortsKept s t) ∧
    (k.state = .inGuard → k.sup = .off →
      ∃ t, exec (.guardSepEnd c.val) s = .next t ∧
        t.circuit c =
          { k with sup := .on, timer := some { start := s.timeBase, value := s.par c .guardSend } } ∧
        OnlyCircuit c s t ∧ PortsKept s t) ∧
    (k.state = .outReleasing → k.sup = .off →
      ∃ t, exec (.guardWaitExpiry c.val) s = .next t ∧
        t.circuit c = { k with state := .fault, cause := .guardFailed, owner := none, timer := none } ∧
        OnlyCircuit c s t ∧ CircuitEvent c .guardFailed s t)

/-! ## Glare -/

/-- This end's priority on glare follows from the glare rule and the parity of the trunk number, and complementary rules
give the two ends opposite decisions (R89). -/
def Obligations.GlarePriorityFollowsRuleAndParity : Prop :=
  ∀ n : Nat,
    hasPriority .priorityAll n = true ∧ hasPriority .priorityNone n = false ∧
    (n % 2 = 0 → hasPriority .priorityEven n = true ∧ hasPriority .priorityOdd n = false) ∧
    (n % 2 = 1 → hasPriority .priorityEven n = false ∧ hasPriority .priorityOdd n = true)

/-- ACK_MAX_REACHED in a BOTHWAY group is glare (R88): with priority this end holds its seizure and restarts ack_wait (R91).
Without it the circuit yields: its lead goes OFF at once, for the gap of sep that the acknowledgment pulse waits for (R94,
R95), a fresh incoming call is offered to a port, and the displaced call is dropped if no slot is linked (R99) and otherwise
goes on in its slot, whose pending seized and rehunted are taken back (R96): rehunted once as R26 and R41 say, queued first
if no circuit is idle and it has a wait, and failed at its second glare (R97, R98). A TO_OFF in HOLDING is the far end
giving way: FAR_CLEARED, with ack_wait running on in an ACK_START group and pre_pause restarted in a TIMED_START group, and
no event (R92). The register that is attached is in WAIT_DIGIT, and a TIMED_START group starts fd_wait (R72). The flag of an
ON present at the rehunt's seizure is log entry 19. -/
def Obligations.GlareHoldsOrYields : Prop :=
  ∀ (c : Fin 96) (g : Fin 8) (s : State), s.resetAsserted = false → PoolSound s → (s.circuit c).group = some g →
    (s.circuit c).state = .outSeizing → (s.filter c).recCond = .on →
    let k := s.circuit c
    let met : Prop := (s.group g).direction = .bothway ∧ k.glarePhase = .none ∧
      if k.presentOn then k.seizeAckMax ≤ elapsed s.timeBase k.seizeTime else (s.heldOf c).ackMax ≤ s.recFor c
    (met → hasPriority (s.group g).glareRule k.trunkNo = true →
      ∃ t, exec (.ackMaxReached c.val) s = .next t ∧
        t.circuit c =
          { k with glarePhase := .holding, glareTime := some s.timeBase
                   timer := some { start := s.timeBase, value := (s.group g).par .ackWait } } ∧
        OnlyCircuit c s t ∧ CircuitEvent c .glareWon s t) ∧
    (met → hasPriority (s.group g).glareRule k.trunkNo = false →
      ∃ t, exec (.ackMaxReached c.val) s = .next t ∧
        ((t.circuit c).state = .inSeized ∨ (t.circuit c).state = .inReceiving) ∧
        (t.circuit c).owner = s.offerOwner (s.group g).offerPort ∧ (t.circuit c).callDir = .incoming ∧
        (t.circuit c).glarePhase = .yielded ∧ (t.circuit c).glareTime = some s.timeBase ∧
        (t.circuit c).digits = [] ∧ (t.circuit c).eon = false ∧ (t.circuit c).sent = 0 ∧
        (t.circuit c).slot = none ∧ (t.circuit c).seizeTime = k.seizeTime ∧
        FreshCall .incoming (s.group g).startMode (t.circuit c) ∧
        (t.circuit c).lastOff =
          (if k.sup = .on then some { start := s.timeBase, value := (s.group g).par .sep } else k.lastOff) ∧
        (0 < (s.group g).par .sep → (t.circuit c).sup = .off ∧
          ((t.circuit c).state = .inReceiving → (s.group g).startMode = .ackStart →
            let start := timeAfter s.timeBase ((s.group g).par .sep)
            (t.circuit c).ackPulse = .scheduled start ∧ (t.circuit c).timer = none ∧
              (t.circuit c).ackEnd = some (timeAfter start ((s.group g).par .ackSend)))) ∧
        ((t.circuit c).state = .inReceiving →
          (∃ u, (t.circuit c).unit = some u ∧ (t.circuit c).unitReq = none ∧ (t.unit u).circuit = some c ∧
            (t.unit u).state = .register .waitDigit ∧ (t.unit u).attachTime = s.timeBase) ∧
          ((s.group g).startMode = .timedStart → (t.circuit c).ackEnd = none ∧
            (t.circuit c).timer = some { start := s.timeBase, value := 1000 * (s.group g).par .fdWait })) ∧
        ((t.circuit c).state = .inSeized →
          (t.circuit c).ackEnd = none ∧ (t.circuit c).timer = none ∧ (t.circuit c).unit = none ∧
            (t.circuit c).unitReq =
              (if (t.circuit c).owner.isSome then
                some { cls := .register, time := s.timeBase, wait := (s.group g).par .regWait } else none)) ∧
        (t.group g).nextPort =
          (if (s.group g).distribution = .alternate then otherPort (s.group g).nextPort else (s.group g).nextPort) ∧
        Reports c [(k.owner, .glareLost), (s.offerOwner (s.group g).offerPort, .offered)] s t ∧
        t.filters = s.filters ∧ t.timeBase = s.timeBase ∧ t.watches = s.watches ∧ t.forces = s.forces ∧
        (k.slot = none →
          (∀ id, t.slot id = s.slot id ∧ t.slotPend id = s.slotPend id) ∧ (t.group g).idle = (s.group g).idle ∧
            (t.group g).queue = (s.group g).queue ∧
            ∀ d, (t.circuit d).state = .outSeizing → (s.circuit d).state = .outSeizing) ∧
        (∀ id call, k.slot = some id → s.slot id = .seizing call c → call.group = g →
          let rehunted : Prop := call.glareCount = 0 ∧ (s.group g).idle ≠ []
          (t.slotPend id).has .seized = false ∧ ((t.slotPend id).has .rehunted = true ↔ rehunted) ∧
          (∀ e ∈ [Event.expired, .glareQueued, .glareFailed],
            (s.slotPend id).has e = true → (t.slotPend id).has e = true) ∧
          (∀ read, (s.port id.port).report = some read →
            ∃ read' : ReportRead, (t.port id.port).report = some { read with events := read'.events } ∧
              (read.item ≠ .slot id.num → read'.events = read.events) ∧
              (read.item = .slot id.num →
                read'.events.has .seized = false ∧ read'.events.has .rehunted = false ∧
                  read'.events.discarded = read.events.discarded ∧
                  ∀ e ∈ [Event.expired, .glareQueued, .glareFailed], read'.events.has e = read.events.has e)) ∧
          (call.glareCount ≠ 0 → t.slot id = .outcome call .glareFailed ∧
            Reported id.port (.slot id.num) .glareFailed t) ∧
          (call.glareCount = 0 →
            let again : SlotCall := { call with glareCount := 1 }
            (∀ d, huntChoice (s.group g).huntMode (s.group g).idle = some d →
              t.slot id = .seizing again d ∧ Seizes (s.group g) d id k.digits k.eon s t ∧
                (t.group g).idle = (s.group g).idle.filter (fun x => x ≠ d) ∧
                Reported id.port (.slot id.num) .rehunted t) ∧
            ((s.group g).idle = [] → 0 < call.wait →
              t.slot id = .waiting again k.digits k.eon (timeAfter s.timeBase (1000 * call.wait)) ∧
                (t.group g).queue = id :: (s.group g).queue ∧ Reported id.port (.slot id.num) .glareQueued t) ∧
            ((s.group g).idle = [] → call.wait = 0 →
              t.slot id = .outcome again .glareFailed ∧ Reported id.port (.slot id.num) .glareFailed t)))) ∧
    (k.glarePhase = .holding → TransitionDue c s →
      ∃ t, exec (.recognizedTransition c.val) s = .next t ∧
        t.circuit c =
          { k with
            held := s.thresholds c, presentOn := false, glarePhase := .farCleared
            timer := match (s.group g).startMode with
              | .ackStart => k.timer
              | .timedStart => some { start := s.timeBase, value := (s.group g).par .prePause } } ∧
        CircuitsKept [c] s t ∧ t.groups = s.groups ∧ PoolKept s t ∧ PortStateKept s t ∧ NoCircuitEvent c s t)

/-! ## Incoming calls -/

/-- SEIZURE_RECOGNIZED (R29, R68, R69, R72): the group's distribution chooses the port, the other port stands in for a
disabled one, ALTERNATE moves next_port at every offer, offered is raised, and with an owner a register is requested (R105).
If a unit is FREE or parked it is attached at once in WAIT_DIGIT and the circuit is in IN_RECEIVING, an ACK_START group
sending the acknowledgement and a TIMED_START group starting fd_wait; otherwise the circuit is in IN_SEIZED, with its request
at the tail of the REGISTER class, or with none if it has no owner. -/
def Obligations.SeizureIsOffered : Prop :=
  ∀ (c : Fin 96) (g : Fin 8) (s : State), s.resetAsserted = false →
    PoolSound s → (s.circuit c).state = .inPreseize → TimerReached c s →
    (s.circuit c).group = some g →
    let k := s.group g
    let chosen : Port := match k.distribution with
      | .fixedA => .A
      | .fixedB => .B
      | .alternate => k.nextPort
    let owner : Option Port :=
      if (s.port chosen).enabled then some chosen
      else if (s.port (otherPort chosen)).enabled then some (otherPort chosen)
      else none
    let served : Prop := s.freeUnit.isSome = true ∨ s.parked ≠ []
    ∃ t, exec (.seizureRecognized c.val) s = .next t ∧ (t.circuit c).owner = owner ∧
      (owner ≠ none → Asked c .register s t ∧
        (served → ∃ u, RegisterAttached c u s t)) ∧
      (owner = none ∨ ¬ served → (t.circuit c).state = .inSeized ∧ (t.circuit c).timer = none ∧
        (t.circuit c).unit = none ∧ (t.circuit c).sup = (s.circuit c).sup ∧
        (t.circuit c).ackEnd = (s.circuit c).ackEnd) ∧
      (owner = none → (t.circuit c).unitReq = none ∧ PoolKept s t) ∧
      t.group g =
        { k with nextPort := if k.distribution = .alternate then otherPort k.nextPort else k.nextPort } ∧
      CircuitEventBy owner c .offered s t ∧ GroupsKept [g] s t ∧
      (∀ d, d ≠ c → s.reclaimed ≠ some d → t.circuit d = s.circuit d) ∧ LinesKept s t

/-- REGISTER_CONGESTION withdraws the request and leaves the circuit in IN_SEIZED (R70); DIGIT_TIMEOUT detaches the register
and holds the call with its digits (R76). A TO_OFF in IN_SEIZED of a TIMED_START group loses the digits: the request is
withdrawn, the circuit enters IN_HELD and digits_lost is raised (R71). -/
def Obligations.RegisterAndDigitWaitsEnd : Prop :=
  ∀ (c : Fin 96) (s : State), s.resetAsserted = false →
    (∀ r, (s.circuit c).state = .inSeized → (s.circuit c).unitReq = some r → r.cls = .register →
      r.wait ≤ elapsed s.timeBase r.time →
      ∃ t, exec (.registerCongestion c.val) s = .next t ∧ t.circuit c = { s.circuit c with unitReq := none } ∧
        CircuitsKept [c] s t ∧ t.groups = s.groups ∧ t.units = s.units ∧ t.parked = s.parked ∧ LinesKept s t ∧
        t.regQueue = s.regQueue.filter (fun e => e.circuit ≠ c) ∧
        t.sndQueue = s.sndQueue.filter (fun e => e.circuit ≠ c) ∧ CircuitEvent c .registerCongestion s t) ∧
    (PoolSound s → (s.circuit c).state = .inReceiving → TimerReached c s →
      ∃ t, exec (.digitTimeout c.val) s = .next t ∧
        t.circuit c = { s.circuit c with state := .inHeld, timer := none, unit := none } ∧
        CircuitEvent c .digitTimeout s t ∧ ServedFrame c s t) ∧
    (∀ g, PoolSound s → (s.circuit c).state = .inSeized → (s.circuit c).group = some g →
      (s.group g).startMode = .timedStart → (s.filter c).recCond = .on → TransitionDue c s →
      ∃ t, exec (.recognizedTransition c.val) s = .next t ∧
        t.circuit c =
          { s.circuit c with state := .inHeld, timer := none, unitReq := none, held := s.thresholds c } ∧
        Reports c [((s.circuit c).owner, .digitsLost)] s t ∧ CircuitsKept [c] s t ∧ t.groups = s.groups ∧
        t.units = s.units ∧ t.parked = s.parked ∧ t.regQueue = s.regQueue.filter (fun e => e.circuit ≠ c) ∧
        t.sndQueue = s.sndQueue.filter (fun e => e.circuit ≠ c) ∧ PortStateKept s t)

/-- ACK_PULSE_START and ACK_PULSE_END take the lead ON and OFF, fd_wait starting at the end if no digit has come (R73, R95);
ANSWER_DUE takes it ON for a deferred answer, and the first answer records its instant (R80). -/
def Obligations.PulseAndDeferredAnswerAreShown : Prop :=
  ∀ (c : Fin 96) (s : State), s.resetAsserted = false →
    let k := s.circuit c
    let inCall : Prop := k.state = .inReceiving ∨ k.state = .inHeld ∨ k.state = .inAnswered ∨ k.state = .inClearedBack
    (∀ at_, inCall → k.ackPulse = .scheduled at_ → reached s.timeBase at_ = true →
      ∃ t, exec (.ackPulseStart c.val) s = .next t ∧ t.circuit c = { k with ackPulse := .running, sup := .on } ∧
        OnlyCircuit c s t ∧ PortsKept s t) ∧
    (inCall → k.ackPulse = .running → Come s.timeBase k.ackEnd →
      ∃ t, exec (.ackPulseEnd c.val) s = .next t ∧
        t.circuit c =
          { k with
            ackPulse := .ended, ackEndSep := s.par c .sep, sup := .off
            lastOff := if k.sup = .on then some { start := s.timeBase, value := s.par c .sep } else k.lastOff
            timer := if k.state = .inReceiving ∧ k.digits = [] then
              some { start := s.timeBase, value := 1000 * s.par c .fdWait } else k.timer } ∧
        OnlyCircuit c s t ∧ PortsKept s t) ∧
    (k.state = .inAnswered → Come s.timeBase k.ansDue →
      ∃ t, exec (.answerDue c.val) s = .next t ∧
        t.circuit c =
          { k with ansDue := none, answered := true, ansTime := if k.answered then k.ansTime else s.timeBase
                   sup := .on } ∧
        OnlyCircuit c s t ∧ PortsKept s t)

/-- CLEAR_FORWARD_RECOGNIZED (R83, R84): the register is detached, a deferred answer and a pulse are cut, a pulse that has not
begun is cancelled (R95; at the very instant of its beginning the cancellation is the model's choice, log entry 24),
cleared_forward goes to the owner, who is kept, and the guard begins: an OFF gap of sep if the lead was ON, else what is left
of the gap since the lead went OFF (its timer is log entry 13), else the guard ON. -/
def Obligations.ClearForwardBeginsTheGuard : Prop :=
  ∀ (c : Fin 96) (s : State), s.resetAsserted = false → PoolSound s →
    let k := s.circuit c
    k.state = .inSeized ∨ k.state = .inReceiving ∨ k.state = .inHeld ∨ k.state = .inAnswered ∨
      k.state = .inClearedBack →
    (s.filter c).recCond = .off → (s.heldOf c).cfRec ≤ s.recFor c →
    ∃ t, exec (.clearForwardRecognized c.val) s = .next t ∧
      (let r := t.circuit c
       r.state = .inGuard ∧ r.unit = none ∧ r.unitReq = none ∧ r.ansDue = none ∧ r.owner = k.owner ∧
         r.digits = k.digits ∧ r.answered = k.answered ∧ r.ansTime = k.ansTime ∧ r.cause = k.cause ∧
         r.ackEnd = (match k.ackPulse with
           | .running => some s.timeBase
           | .scheduled _ => none
           | .none | .ended => k.ackEnd) ∧
         (k.sup = .on → r.sup = .off ∧ r.timer = some { start := s.timeBase, value := s.par c .sep }) ∧
         (∀ gap, k.sup = .off → k.lastOff = some gap → elapsed s.timeBase gap.start < gap.value →
           r.sup = .off ∧ r.timer = some gap) ∧
         (k.sup = .off → (∀ gap, k.lastOff = some gap → gap.value ≤ elapsed s.timeBase gap.start) →
           r.sup = .on ∧ r.timer = some { start := s.timeBase, value := s.par c .guardSend })) ∧
      CircuitEvent c .clearedForward s t ∧ ServedFrame c s t

/-- GUARD_END (R84, R27): the guard ON ends, the owner is cleared and the circuit becomes idle: BLOCKED if a block waits
(R165), OUT_SEIZING for the waiting slot at the head of the queue (R28, R41), IN_PRESEIZE if its lead is ON (R66), or at the
tail of the idle list (R24). It raises no event on the circuit. Where a waiting slot takes the circuit, the flag of an ON
present at the seizure is log entry 19. -/
def Obligations.GuardEndMakesTheCircuitIdle : Prop :=
  ∀ (c : Fin 96) (g : Fin 8) (s : State), s.resetAsserted = false →
    PoolSound s → (s.circuit c).state = .inGuard → (s.circuit c).sup = .on →
    TimerReached c s → (s.circuit c).group = some g →
    ∃ t, exec (.guardEnd c.val) s = .next t ∧ BecameIdle g c s t

/-! ## Slots, units and the reference -/

/-- SLOT_EXPIRY (R34): the waiting slot leaves its queue for OUTCOME expired, and expired is raised for its port. -/
def Obligations.WaitingSlotExpires : Prop :=
  ∀ (id : SlotId) (call : SlotCall) (digits : List (Fin 10)) (eon : Bool) (expiry : Time) (s : State), s.resetAsserted = false →
    s.slot id = .waiting call digits eon expiry → reached s.timeBase expiry = true →
    ∃ t, exec (.slotExpiry id.port id.num.val) s = .next t ∧
      t.port id.port =
        ({ s.port id.port with
           slots := (s.port id.port).slots.set id.num (.outcome call .expired) }).withEvent (.slot id.num) .expired ∧
      t.port (otherPort id.port) = s.port (otherPort id.port) ∧
      t.group call.group =
        { s.group call.group with queue := (s.group call.group).queue.filter fun x => x ≠ id } ∧
      GroupsKept [call.group] s t ∧ t.circuits = s.circuits ∧ PoolKept s t ∧ LinesKept s t

/-- PARK_LIMIT_EXPIRY (R109, R112): the parked sender is detached and leaves the parked list; its circuit goes on without a
unit; with no request waiting the unit is FREE, or out of service if that was pending. -/
def Obligations.ParkLimitFreesTheSender : Prop :=
  ∀ (u : Fin 16) (c : Fin 96) (s : State), s.resetAsserted = false → PoolSound s → (s.unit u).state = .sender .parked →
    Come s.timeBase (s.unit u).subEnd → (s.unit u).circuit = some c →
    ∃ t, exec (.parkLimitExpiry u.val) s = .next t ∧ t.circuit c = { s.circuit c with unit := none } ∧
      (s.regQueue = [] → s.sndQueue = [] →
        (t.unit u).state = (if (s.unit u).pendingOos then .outOfService else .free) ∧ (t.unit u).circuit = none ∧
          (t.unit u).count = 0 ∧ (t.unit u).brkStart = none ∧ (t.unit u).prevBrkStart = none ∧
          (t.unit u).subEnd = none ∧ (t.unit u).parkTime = none ∧ (t.unit u).pendingOos = false) ∧
      ServedFrame c s t ∧ PortsKept s t

/-- The intervals of a unit that end within a digit change that unit alone: SENDER_START and SENDER_PAUSE_END begin the next
digit with its pulse number (R117), SENDER_BREAK_END with breaks left and SENDER_MAKE_END alternate (R118), and LONG_BREAK
marks the break (R120); a sender's brk_start and prev_brk_start are log entry 11. -/
def Obligations.UnitIntervalsEnd : Prop :=
  ∀ (u : Fin 16) (c : Fin 96) (s : State), s.resetAsserted = false →
    (s.unit u).circuit = some c → Come s.timeBase (s.unit u).subEnd →
    let k := s.unit u
    (∀ d, (s.circuit c).digits[(s.circuit c).sent]? = some d →
      let begun : DigitUnit :=
        { k with state := .sender .inBreak, count := 1, pulses := if d.val = 0 then 10 else d.val
                 brkStart := some s.timeBase, prevBrkStart := none
                 subEnd := some (timeAfter s.timeBase (s.par c .brkSend)) }
      (k.state = .sender .waitStart →
        ∃ t, exec (.senderStart u.val) s = .next t ∧ t.unit u = begun ∧ OnlyUnit u s t ∧ PortsKept s t) ∧
      (k.state = .sender .pause →
        ∃ t, exec (.senderPauseEnd u.val) s = .next t ∧ t.unit u = begun ∧ OnlyUnit u s t ∧ PortsKept s t)) ∧
    (k.state = .sender .inBreak → k.count < k.pulses →
      ∃ t, exec (.senderBreakEnd u.val) s = .next t ∧
        t.unit u = { k with state := .sender .inMake, subEnd := some (timeAfter s.timeBase (s.par c .mkSend)) } ∧
        OnlyUnit u s t ∧ PortsKept s t) ∧
    (k.state = .sender .inMake →
      ∃ t, exec (.senderMakeEnd u.val) s = .next t ∧
        t.unit u =
          { k with state := .sender .inBreak, count := k.count + 1, prevBrkStart := k.brkStart
                   brkStart := some s.timeBase, subEnd := some (timeAfter s.timeBase (s.par c .brkSend)) } ∧
        OnlyUnit u s t ∧ PortsKept s t) ∧
    (k.state = .register .inBreak → k.longBrk = false →
      ∃ t, exec (.longBreak u.val) s = .next t ∧ t.unit u = { k with longBrk := true } ∧ OnlyUnit u s t ∧
        PortsKept s t)

/-- SENDER_BREAK_END at a digit's last break (R48, R110): the digit is counted; then the sender pauses before the next
digit, or with eon set is detached as the circuit enters OUT_WAIT_ANSWER with digits_sent, or with eon clear parks unless
it is wanted elsewhere, the stall timer starting. -/
def Obligations.DigitEndIsCounted : Prop :=
  ∀ (u : Fin 16) (c : Fin 96) (s : State), s.resetAsserted = false → PoolSound s → (s.unit u).circuit = some c →
    Come s.timeBase (s.unit u).subEnd → (s.unit u).state = .sender .inBreak →
    (s.unit u).pulses ≤ (s.unit u).count →
    let k := s.circuit c
    ∃ t, exec (.senderBreakEnd u.val) s = .next t ∧ (t.circuit c).sent = k.sent + 1 ∧
      (t.circuit c).lastBrkEnd = s.timeBase ∧ (t.circuit c).digits = k.digits ∧ (t.circuit c).owner = k.owner ∧
      (k.sent + 1 < k.digits.length →
        (t.circuit c).state = k.state ∧ (t.circuit c).timer = k.timer ∧
        t.unit u =
          { s.unit u with state := .sender .pause, subEnd := some (timeAfter s.timeBase (s.par c .idSend)) } ∧
        UnitsKept [u] s t ∧ CircuitsKept [c] s t ∧ PortsKept s t ∧ t.groups = s.groups ∧ LinesKept s t) ∧
      (k.digits.length ≤ k.sent + 1 → k.eon = true →
        (t.circuit c).state = .outWaitAnswer ∧ (t.circuit c).unit = none ∧ (t.circuit c).timer = none ∧
        CircuitEvent c .digitsSent s t ∧ ServedFrame c s t) ∧
      (k.digits.length ≤ k.sent + 1 → k.eon = false →
        (t.circuit c).state = k.state ∧
        (t.circuit c).timer = some { start := s.timeBase, value := 1000 * s.par c .stallLimit } ∧ PortsKept s t ∧
        ((s.unit u).pendingOos = true ∨ s.regQueue ≠ [] ∨ s.sndQueue ≠ [] →
          (t.circuit c).unit = none ∧ ServedFrame c s t) ∧
        ((s.unit u).pendingOos = false → s.regQueue = [] → s.sndQueue = [] →
          t.unit u =
            { s.unit u with state := .sender .parked, parkTime := some s.timeBase
                            subEnd := some (timeAfter s.timeBase (1000 * s.par c .parkLimit)) } ∧
          t.parked = s.parked ++ [u] ∧ UnitsKept [u] s t ∧ CircuitsKept [c] s t ∧ t.groups = s.groups ∧
          LinesKept s t))

/-- DIGIT_COMPLETE (R121): one to ten pulses are a digit, ten being digit 0, which is appended with digit raised and dig_wait
started (R74), or as a 25th is discarded and holds the call (R75); more than ten raise pulse_error and no more. The register
waits for the next digit or is freed. A valid digit is counted by the group's reference, and the count that reaches
apply_every in a locked reference with gate off is an apply: the count returns to 0, with override off the thresholds are
computed anew, and applied is raised if one changed (R128, R129, R131). -/
def Obligations.MakeCompletesTheDigit : Prop :=
  ∀ (u : Fin 16) (c : Fin 96) (g : Fin 8) (s : State), s.resetAsserted = false →
    PoolSound s → (s.unit u).circuit = some c →
    (s.circuit c).group = some g → Come s.timeBase (s.unit u).subEnd → (s.unit u).state = .register .inMake →
    let k := s.circuit c
    let n := (s.unit u).count
    let waiting : DigitUnit :=
      { s.unit u with state := .register .waitDigit, count := 0, brkStart := none, prevBrkStart := none
                      subEnd := none, longBrk := false }
    ∃ t, exec (.digitComplete u.val) s = .next t ∧ GroupsKept [g] s t ∧ LinesKept s t ∧ PortStateKept s t ∧
      (1 ≤ n → n ≤ 10 →
        let old := s.group g
        let r := old.reference
        let digits := min 64 (r.sinceApply + 1)
        let applies : Prop := old.par .applyEvery ≤ digits ∧ r.locked = true ∧ old.par .gate = 0
        let r' := (t.group g).reference
        (t.group g = { old with reference := { r with sinceApply := r'.sinceApply, tBm := r'.tBm, tId := r'.tId } } ∧
          r'.sinceApply = (if applies then 0 else digits) ∧
          (r'.tBm, r'.tId) = (if applies ∧ old.par .override = 0 then thresholdsOf old else (r.tBm, r.tId)) ∧
          ((r'.tBm, r'.tId) ≠ (r.tBm, r.tId) →
            Reported .A (.group g) .applied t ∧ Reported .B (.group g) .applied t) ∧
          ((r'.tBm, r'.tId) = (r.tBm, r.tId) →
            ∀ p, (t.port p).pend[(Item.group g).index] = (s.port p).pend[(Item.group g).index])) ∧
        (k.digits.length < 24 →
          (∀ d : Fin 10, d.val = n % 10 → (t.circuit c).digits = k.digits ++ [d]) ∧
          (t.circuit c).timer = some { start := s.timeBase, value := 1000 * (s.group g).par .digWait } ∧
          (t.circuit c).state = k.state ∧ t.unit u = waiting ∧ UnitsKept [u] s t ∧ CircuitsKept [c] s t ∧
          Reports c [(k.owner, .digit)] s t) ∧
        (24 ≤ k.digits.length →
          t.circuit c = { k with state := .inHeld, unit := none, timer := none } ∧
          Reports c [(k.owner, .digitOverflow)] s t ∧ UnitServed c s t)) ∧
      (10 < n →
        t.circuits = s.circuits ∧ t.groups = s.groups ∧ t.unit u = waiting ∧ UnitsKept [u] s t ∧
          CircuitEvent c .pulseError s t)

/-- A unit request takes the lowest FREE unit, else reclaims the sender that parked earliest, else joins the tail of its
class; a request served at once never enters the queue and leaves unit_req none, and no unit out of service, or attached
and not the one reclaimed, is taken (R105). -/
def Obligations.RequestsAreServedInOrder : Prop :=
  ∀ (c : Fin 96) (cls : UnitClass) (s : State),
    let t := requestUnit c cls s
    (∀ u, (s.unit u).state = .free → (∀ v, v < u → (s.unit v).state ≠ .free) →
      (t.circuit c).unit = some u ∧ (t.circuit c).unitReq = none ∧ (t.unit u).circuit = some c ∧
        (t.unit u).attachTime = s.timeBase ∧ t.regQueue = s.regQueue ∧ t.sndQueue = s.sndQueue ∧
        UnitsKept [u] s t) ∧
    (∀ u rest, (∀ v, (s.unit v).state ≠ .free) → s.parked = u :: rest →
      (t.circuit c).unit = some u ∧ (t.circuit c).unitReq = none ∧ (t.unit u).circuit = some c ∧
        (t.unit u).attachTime = s.timeBase ∧ u ∉ t.parked ∧ t.regQueue = s.regQueue ∧ t.sndQueue = s.sndQueue ∧
        UnitsKept [u] s t) ∧
    ((∀ v, (s.unit v).state ≠ .free) → s.parked = [] →
      t.units = s.units ∧ (t.circuit c).unit = (s.circuit c).unit ∧
      (∃ r, (t.circuit c).unitReq = some r ∧ r.cls = cls ∧ r.time = s.timeBase) ∧
      (cls = .register → t.regQueue = s.regQueue ++ [{ circuit := c, time := s.timeBase }] ∧
        t.sndQueue = s.sndQueue) ∧
      (cls = .sender → t.sndQueue = s.sndQueue ++ [{ circuit := c, time := s.timeBase }] ∧
        t.regQueue = s.regQueue))

/-- A period moves ref one eighth of the way toward 16·P and moves the lock run by its band (R124 to R127): four in a row
in band lock, with locked raised and an apply unless gate is on; three in a row out of band unlock, with unlocked raised
and no apply. -/
def Obligations.PeriodsMoveRefAndLock : Prop :=
  ∀ (g : Fin 8) (p : Nat) (s : State),
    let k := s.group g
    let r := k.reference
    let t := takePeriod g p s
    let r' := (t.group g).reference
    let inBand : Prop := ((16 * p : Int) - r.ref).natAbs ≤ r.ref / 8
    let kept : Prop := r'.tBm = r.tBm ∧ r'.tId = r.tId ∧ r'.sinceApply = r.sinceApply
    (r'.ref : Int) = r.ref + ((16 * p : Int) - r.ref).tdiv 8 ∧
    (r.locked = false →
      r'.outRun = (if inBand ∧ 4 ≤ r.inRun + 1 then 0 else r.outRun) ∧
      (¬ inBand → r'.locked = false ∧ r'.inRun = 0 ∧ kept ∧ PortsKept s t) ∧
      (inBand → r.inRun + 1 < 4 → r'.locked = false ∧ r'.inRun = r.inRun + 1 ∧ kept ∧ PortsKept s t) ∧
      (inBand → 4 ≤ r.inRun + 1 →
        r'.locked = true ∧ r'.inRun = 4 ∧ Reported .A (.group g) .locked t ∧ Reported .B (.group g) .locked t ∧
        (k.par .gate ≠ 0 → kept) ∧
        (k.par .gate = 0 → r'.sinceApply = 0 ∧
          (k.par .override = 0 → r'.tBm = max 40 (min 200 (r'.ref * k.par .kBm / 256)) ∧
            r'.tId = max 220 (min 1000 (r'.ref * k.par .kId / 256))) ∧
          (k.par .override ≠ 0 → r'.tBm = r.tBm ∧ r'.tId = r.tId) ∧
          ((r'.tBm, r'.tId) ≠ (r.tBm, r.tId) →
            Reported .A (.group g) .applied t ∧ Reported .B (.group g) .applied t)))) ∧
    (r.locked = true →
      kept ∧
      (inBand → r'.locked = true ∧ r'.outRun = 0 ∧ r'.inRun = r.inRun ∧ PortsKept s t) ∧
      (¬ inBand → r.outRun + 1 < 3 →
        r'.locked = true ∧ r'.outRun = r.outRun + 1 ∧ r'.inRun = r.inRun ∧ PortsKept s t) ∧
      (¬ inBand → 3 ≤ r.outRun + 1 →
        r'.locked = false ∧ r'.outRun = 0 ∧ r'.inRun = 0 ∧ Reported .A (.group g) .unlocked t ∧
          Reported .B (.group g) .unlocked t)) ∧
    GroupsKept [g] s t ∧ t.circuits = s.circuits ∧ PoolKept s t ∧ PortStateKept s t ∧ LinesKept s t

/-! ## Orders -/

/-- An order of the catalogue that the port refuses leaves its result code alone and changes nothing else: BAD_LENGTH, then
PORT_DISABLED unless it is a READ, then NOT_PERMITTED for a maintenance order without MPERM (R143 tests 2 to 4). -/
def Obligations.OrdersMeetTheCommonTests : Prop :=
  ∀ (kind : OrderKind) (w : OrderWrite) (ws : List Word) (s : State), LastWord kind w ws s →
    (lengthAllowed kind ws = false → Refuses (rowOf kind w) w .badLength s) ∧
    (lengthAllowed kind ws = true → (s.port w.port).enabled = false → kind.isRead = false →
      Refuses (rowOf kind w) w .portDisabled s) ∧
    (lengthAllowed kind ws = true → (s.port w.port).enabled = true → kind.isMaintenance = true → w.mperm = false →
      Refuses (rowOf kind w) w .notPermitted s)

/-- The call orders make their own tests in the order of their rules, and a refused one changes nothing: SEIZE (R35), ADD
DIGITS (R49), and CLEAR, RELEASE REGISTER, ANSWER and CLEAR BACK with their states (R57, R77, R78, R81, R145). -/
def Obligations.CallOrdersAreRefusedInOrder : Prop :=
  ∀ (w : OrderWrite) (ws : List Word) (s : State),
    let w2 := wordAt ws 1
    let w3 := wordAt ws 2
    (OrderReady .seize w ws s →
      (7 < field w2 7 4 → Refuses (.seize w) w .badGroup s) ∧
      (∀ g : Fin 8, field w2 7 4 = g.val →
        ((s.group g).direction = .none ∨ (s.group g).direction = .incoming → Refuses (.seize w) w .badGroup s) ∧
        ((s.group g).direction = .outgoing ∨ (s.group g).direction = .bothway →
          (60 < field w3 15 10 → Refuses (.seize w) w .badValue s) ∧
          (field w3 15 10 ≤ 60 →
            ((∃ i, i < field w3 4 0 ∧ 9 < nibbleAt (ws.drop 3) i) → Refuses (.seize w) w .digitBad s) ∧
            ((∀ i, i < field w3 4 0 → nibbleAt (ws.drop 3) i ≤ 9) →
              (24 < field w3 4 0 → Refuses (.seize w) w .digitOverflow s) ∧
              (field w3 4 0 ≤ 24 → (∀ n : Fin 16, s.slot { port := w.port, num := n } ≠ .free) →
                Refuses (.seize w) w .noSlot s)))))) ∧
    (OrderReady .addDigits w ws s →
      (95 < field w2 15 9 → Refuses (.addDigits w) w .badValue s) ∧
      (∀ c : Fin 96, field w2 15 9 = c.val →
        ((∃ i, i < field w2 4 0 ∧ 9 < nibbleAt (ws.drop 2) i) → Refuses (.addDigits w) w .digitBad s) ∧
        ((∀ i, i < field w2 4 0 → nibbleAt (ws.drop 2) i ≤ 9) →
          ((s.circuit c).owner ≠ some w.port → Refuses (.addDigits w) w .notOwner s) ∧
          ((s.circuit c).owner = some w.port →
            (((s.circuit c).state ≠ .outSeizing ∧ (s.circuit c).state ≠ .outSending) ∨ (s.circuit c).eon = true →
              Refuses (.addDigits w) w .wrongState s) ∧
            ((s.circuit c).state = .outSeizing ∨ (s.circuit c).state = .outSending → (s.circuit c).eon = false →
              24 < (s.circuit c).digits.length + field w2 4 0 → Refuses (.addDigits w) w .digitOverflow s))))) ∧
    (∀ kind : OrderKind, kind = .clear ∨ kind = .releaseRegister ∨ kind = .answer ∨ kind = .clearBack →
      OrderReady kind w ws s →
      (95 < field w2 6 0 → Refuses (rowOf kind w) w .badValue s) ∧
      (∀ c : Fin 96, field w2 6 0 = c.val →
        ((s.circuit c).owner ≠ some w.port → Refuses (rowOf kind w) w .notOwner s) ∧
        ((s.circuit c).owner = some w.port → (s.circuit c).state ∉ statesOf kind →
          Refuses (rowOf kind w) w .wrongState s)))

/-- SEIZE that passes its tests (R26, R36): the hunt takes a circuit of the idle list by the hunt mode, which enters
OUT_SEIZING with the call's fresh fields (R19), linked to the port's lowest FREE slot, and with digits carried requests a
sender (R41), SEIZED; or the slot joins the tail of the wait queue, QUEUED; or with no wait the answer is CONGESTION and
nothing changes. The flag of an ON present at the seizure is log entry 19. -/
def Obligations.SeizeTakesQueuesOrCongests : Prop :=
  ∀ (w : OrderWrite) (ws : List Word) (s : State) (g : Fin 8) (digits : List (Fin 10)) (n : Fin 16),
    PoolSound s → OrderReady .seize w ws s → field (wordAt ws 1) 7 4 = g.val →
    (s.group g).direction = .outgoing ∨ (s.group g).direction = .bothway → field (wordAt ws 2) 15 10 ≤ 60 →
    digits.length = field (wordAt ws 2) 4 0 → digits.length ≤ 24 →
    (∀ (i : Nat) (h : i < digits.length), (digits[i]).val = nibbleAt (ws.drop 3) i) →
    s.slot { port := w.port, num := n } = .free → (∀ m, m < n → s.slot { port := w.port, num := m } ≠ .free) →
    let id : SlotId := { port := w.port, num := n }
    let eon := bitSet (wordAt ws 2) 9
    let wait := field (wordAt ws 2) 15 10
    let call : SlotCall :=
      { tag := BitVec.ofNat 8 (field (wordAt ws 1) 15 8), group := g, wait := wait, glareCount := 0 }
    ((s.group g).idle ≠ [] →
      ∃ c t, c ∈ (s.group g).idle ∧
        ((s.group g).huntMode = .lowFirst → ∀ d ∈ (s.group g).idle, c ≤ d) ∧
        ((s.group g).huntMode = .highFirst → ∀ d ∈ (s.group g).idle, d ≤ c) ∧
        ((s.group g).huntMode = .longestIdle → (s.group g).idle.head? = some c) ∧
        Answers (.seize w) w (resultBlock .seized [BitVec.ofNat 16 c.val, slotWord id]) s t ∧
        Seizes (s.group g) c id digits eon s t ∧ SenderAsked c digits s t ∧
        t.slot id = .seizing call c ∧
        t.group g = { s.group g with idle := (s.group g).idle.filter fun d => d ≠ c } ∧ GroupsKept [g] s t ∧
        (digits = [] → CircuitsKept [c] s t) ∧
        (∀ d, d ≠ c → s.reclaimed ≠ some d → t.circuit d = s.circuit d) ∧
        PortStateKept (orderStart w s) t ∧ LinesKept s t) ∧
    ((s.group g).idle = [] → 0 < wait →
      Answers (.seize w) w (resultBlock .queued [slotWord id]) s
        (((orderStart w s).setSlot id
            (.waiting call digits eon (timeAfter s.timeBase (1000 * wait)))).modGroup g
          fun k => { k with queue := k.queue ++ [id] })) ∧
    ((s.group g).idle = [] → wait = 0 → Refuses (.seize w) w .congestion s)

/-- ADD DIGITS that passes its tests (R50): the digits join the tail of the string and eon is set if carried; in OUT_SENDING
with nothing left to send the circuit goes on to OUT_WAIT_ANSWER with eon set, or restarts the stall timer without it. With a
digit left and neither sender nor request, one is requested. A parked sender resumes: it leaves the parked list, attach_time
takes the instant, and it pulses at once if its start instant has come and waits in WAIT_START to it if not; a sender that
waits with that instant not yet decided has it decided, and any other goes on as it is (R114, R117, R47). That a sender's
first break writes brk_start and leaves prev_brk_start absent (R103), and that a resumed sender keeps park_time, is log entry
11. -/
def Obligations.AddDigitsExtendsTheString : Prop :=
  ∀ (w : OrderWrite) (ws : List Word) (s : State) (c : Fin 96) (digits : List (Fin 10)),
    PoolSound s → OrderReady .addDigits w ws s → field (wordAt ws 1) 15 9 = c.val →
    digits.length = field (wordAt ws 1) 4 0 →
    (∀ (i : Nat) (h : i < digits.length), (digits[i]).val = nibbleAt (ws.drop 2) i) →
    (s.circuit c).owner = some w.port → (s.circuit c).state = .outSeizing ∨ (s.circuit c).state = .outSending →
    (s.circuit c).eon = false → (s.circuit c).digits.length + digits.length ≤ 24 →
    let k := s.circuit c
    let eon := bitSet (wordAt ws 1) 8
    let done : Prop := k.digits.length + digits.length ≤ k.sent
    ∃ t, Answers (.addDigits w) w (oneWord .ok) s t ∧ (t.circuit c).digits = k.digits ++ digits ∧
      (t.circuit c).eon = eon ∧ (t.circuit c).sent = k.sent ∧ (t.circuit c).owner = k.owner ∧
      (k.state = .outSeizing → (t.circuit c).state = .outSeizing ∧ (t.circuit c).timer = k.timer) ∧
      (k.state = .outSending → ¬ done → (t.circuit c).state = .outSending ∧ (t.circuit c).timer = none) ∧
      (k.state = .outSending → done → eon = true →
        (t.circuit c).state = .outWaitAnswer ∧ (t.circuit c).unit = none ∧ (t.circuit c).timer = none ∧
          Reports c [(k.owner, .digitsSent)] (orderStart w s) t) ∧
      (k.state = .outSeizing ∨ ¬ done ∨ eon = false → NoCircuitEvent c (orderStart w s) t) ∧
      (k.state = .outSending → done → eon = false →
        (t.circuit c).state = .outSending ∧
          (t.circuit c).timer = some { start := s.timeBase, value := 1000 * s.par c .stallLimit }) ∧
      (¬ done → k.unit = none → k.unitReq = none → Asked c .sender s t ∧
        (k.state = .outSending → ∀ u, (t.circuit c).unit = some u →
          StartDecided c (k.digits ++ digits) (t.unit u) (t.unit u) s)) ∧
      (∀ u, k.state = .outSending → ¬ done → k.unit = some u → SenderGoesOn c u (k.digits ++ digits) s t) ∧
      (∀ u, k.state = .outSeizing → k.unit = some u → PoolKept s t) ∧
      (∀ d, d ≠ c → s.reclaimed ≠ some d → ¬ s.queued d → t.circuit d = s.circuit d) ∧ t.groups = s.groups ∧
      PortStateKept (orderStart w s) t ∧ LinesKept s t

/-- CLEAR from the owner makes an outgoing call clear forward (R57), and RELEASE REGISTER frees the register and holds the
call with its digits (R77); neither raises an event. The timer of a seizure hold is log entry 14, and the flag of an ON
present at the entry log entry 19. -/
def Obligations.ClearAndReleaseRegisterAct : Prop :=
  ∀ (w : OrderWrite) (ws : List Word) (s : State) (c : Fin 96), PoolSound s → field (wordAt ws 1) 6 0 = c.val →
    (s.circuit c).owner = some w.port →
    let k := s.circuit c
    (OrderReady .clear w ws s →
      k.state = .outSeizing ∨ k.state = .outSending ∨ k.state = .outWaitAnswer ∨ k.state = .outAnswered ∨
        k.state = .outClearedBack →
      ∃ t, Answers (.clear w) w (oneWord .ok) s t ∧ ClearedForward c (orderStart w s) t ∧
        (t.circuit c).cause = k.cause ∧ LinkBroken c (orderStart w s) t ∧ ServedFrame c (orderStart w s) t ∧
        (∀ p, (t.port p).pend = ((orderStart w s).port p).pend ∧
          (t.port p).attention = ((orderStart w s).port p).attention)) ∧
    (OrderReady .releaseRegister w ws s → k.state = .inReceiving →
      ∃ t, Answers (.releaseRegister w) w (oneWord .ok) s t ∧
        t.circuit c = { k with state := .inHeld, timer := none, unit := none } ∧
        ServedFrame c (orderStart w s) t ∧ PortsKept (orderStart w s) t)

/-- ANSWER enters IN_ANSWERED and shows the answer at once, or defers it to ack_end plus sep while the pulse runs or ended
less than sep ago (R79, R80); CLEAR BACK takes the lead OFF but for a running pulse and cancels a deferred answer (R81). -/
def Obligations.AnswerAndClearBackAct : Prop :=
  ∀ (w : OrderWrite) (ws : List Word) (s : State) (c : Fin 96), PoolSound s → field (wordAt ws 1) 6 0 = c.val →
    (s.circuit c).owner = some w.port →
    let k := s.circuit c
    (OrderReady .answer w ws s → k.state = .inReceiving ∨ k.state = .inHeld ∨ k.state = .inClearedBack →
      ∃ t, Answers (.answer w) w (oneWord .ok) s t ∧
        (let r := t.circuit c
         r.state = .inAnswered ∧ r.timer = none ∧ r.unit = none ∧ r.digits = k.digits ∧ r.owner = k.owner ∧
         (∀ e at_, k.ackEnd = some e → k.ackPulse = .running ∨ k.ackPulse = .scheduled at_ →
           r.ansDue = some (timeAfter e (s.par c .sep)) ∧ r.sup = k.sup ∧ r.answered = k.answered) ∧
         (∀ e, k.ackEnd = some e → k.ackPulse = .ended → elapsed s.timeBase e < k.ackEndSep →
           r.ansDue = some (timeAfter e k.ackEndSep) ∧ r.sup = k.sup ∧ r.answered = k.answered) ∧
         ((k.ackEnd = none ∨ k.ackPulse = .none ∨
             (k.ackPulse = .ended ∧ ∀ e, k.ackEnd = some e → k.ackEndSep ≤ elapsed s.timeBase e)) →
           r.ansDue = none ∧ r.sup = .on ∧ r.answered = true ∧
             r.ansTime = if k.answered then k.ansTime else s.timeBase)) ∧
        ServedFrame c (orderStart w s) t ∧ PortsKept (orderStart w s) t) ∧
    (OrderReady .clearBack w ws s → k.state = .inAnswered →
      ∃ t, Answers (.clearBack w) w (oneWord .ok) s t ∧
        t.circuit c =
          { k with
            state := .inClearedBack, ansDue := none
            sup := if k.ackPulse = .running then k.sup else .off
            lastOff := if k.ackPulse ≠ .running ∧ k.sup = .on then some { start := s.timeBase, value := s.par c .sep }
              else k.lastOff } ∧
        OnlyCircuit c (orderStart w s) t ∧ PortsKept (orderStart w s) t)

/-- CANCEL (R38): BAD_VALUE above slot 15, NOT_OWNER for the other port's slot, and by the slot's state: a waiting slot leaves
its queue, is FREE and loses its pending events and its place on the list; TOO_LATE for SEIZING and OUTCOME, WRONG_STATE for
FREE. -/
def Obligations.CancelFreesAWaitingSlot : Prop :=
  ∀ (w : OrderWrite) (ws : List Word) (s : State), OrderReady .cancel w ws s →
    let named : Port := if bitSet (wordAt ws 1) 7 then .B else .A
    (15 < field (wordAt ws 1) 5 0 → Refuses (.cancel w) w .badValue s) ∧
    (∀ n : Fin 16, field (wordAt ws 1) 5 0 = n.val →
      let id : SlotId := { port := w.port, num := n }
      (named ≠ w.port → Refuses (.cancel w) w .notOwner s) ∧
      (named = w.port →
        (∀ call digits eon expiry, s.slot id = .waiting call digits eon expiry →
          ∃ t, Answers (.cancel w) w (oneWord .ok) s t ∧ t.slot id = .free ∧
            t.group call.group =
              { s.group call.group with queue := (s.group call.group).queue.filter fun x => x ≠ id } ∧
            (t.port w.port).pend[(Item.slot n).index] = EventSet.empty ∧
            (t.port w.port).attention =
              ((orderStart w s).port w.port).attention.filter (fun it => it ≠ .slot n) ∧
            (∀ m, m ≠ n → t.slot { port := w.port, num := m } = s.slot { port := w.port, num := m }) ∧
            t.port (otherPort w.port) = s.port (otherPort w.port) ∧ GroupsKept [call.group] s t ∧
            t.circuits = s.circuits ∧ PoolKept s t ∧ LinesKept s t) ∧
        (∀ call c, s.slot id = .seizing call c → Refuses (.cancel w) w .tooLate s) ∧
        (∀ call out, s.slot id = .outcome call out → Refuses (.cancel w) w .tooLate s) ∧
        (s.slot id = .free → Refuses (.cancel w) w .wrongState s)))

/-- READ CIRCUIT, READ GROUP and READ UNIT answer OK with the words that R185 lays out for the instant, and change nothing; a
number above the range is BAD_VALUE or BAD_GROUP (R146, R147, R185). -/
def Obligations.ReadOrdersAnswerSnapshots : Prop :=
  ∀ (w : OrderWrite) (ws : List Word) (s : State), PoolSound s → SlotsSound s → ReferencesSound s → FieldsSound s →
    DigitsSound s →
    let w2 := wordAt ws 1
    let s0 := orderStart w s
    (OrderReady .readCircuit w ws s →
      (95 < field w2 6 0 → Refuses (.readCircuit w) w .badValue s) ∧
      (∀ c : Fin 96, field w2 6 0 = c.val →
        ∃ block, Answers (.readCircuit w) w block s s0 ∧ CircuitWords c s block)) ∧
    (OrderReady .readGroup w ws s →
      (7 < field w2 3 0 → Refuses (.readGroup w) w .badGroup s) ∧
      (∀ g : Fin 8, field w2 3 0 = g.val → ∃ block, Answers (.readGroup w) w block s s0 ∧ GroupWords g s block)) ∧
    (OrderReady .readUnit w ws s →
      (15 < field w2 4 0 → Refuses (.readUnit w) w .badValue s) ∧
      (∀ u : Fin 16, field w2 4 0 = u.val → ∃ block, Answers (.readUnit w) w block s s0 ∧ UnitWords u s block))

/-- CONFIGURE GROUP makes its tests in order and then stores every field it carries, each parameter clamped; writing
distribution sets next_port to A; the result says whether a parameter was clamped (R16, R21, R22, R184). The reference takes
the override values, or makes an apply, as override and they change, applied being raised for both ports if a threshold
changed (R130, R131). A changed brk_send, mk_send or id_send detaches the senders parked on the group's circuits (R114), and
a direction changed from OUTGOING to INCOMING or BOTHWAY takes its IDLE members whose lead is ON into IN_PRESEIZE; nothing
else outside the group changes (R22). -/
def Obligations.ConfigureGroupStoresItsFields : Prop :=
  ∀ (w : OrderWrite) (ws : List Word) (s : State), PoolSound s → OrderReady .configureGroup w ws s →
    (7 < field (wordAt ws 1) 3 0 → Refuses (.configureGroup w) w .badGroup s) ∧
    (∀ g : Fin 8, field (wordAt ws 1) 3 0 = g.val →
      (PairsBad ws → Refuses (.configureGroup w) w .badValue s) ∧
      (¬ PairsBad ws → ∃ k, Carries ws k ∧
        let old := s.group g
        let changed : Prop :=
          k.direction.getD old.direction ≠ old.direction ∨ k.startMode.getD old.startMode ≠ old.startMode ∨
            k.huntMode.getD old.huntMode ≠ old.huntMode ∨ k.glareRule.getD old.glareRule ≠ old.glareRule ∨
            k.distribution.getD old.distribution ≠ old.distribution
        let still : Prop :=
          (∀ c, (s.circuit c).group = some g → (s.circuit c).state = .blocked ∨ (s.circuit c).state = .idle) ∧
            old.queue = []
        let unmakes : Prop := k.direction = some .none ∧ ∃ c, (s.circuit c).group = some g
        ((changed ∧ ¬ still) ∨ unmakes → Refuses (.configureGroup w) w .groupBusy s) ∧
        (¬ (changed ∧ ¬ still) → ¬ unmakes →
          ∃ t, Answers (.configureGroup w) w
              (oneWord (if ∃ x ∈ k.params, x.1.clamp x.2 ≠ x.2 then .okClamped else .ok)) s t ∧
            let r := t.group g
            let turned : Prop := old.direction = .outgoing ∧ (r.direction = .incoming ∨ r.direction = .bothway)
            let unparks : Prop :=
              old.par .brkSend ≠ r.par .brkSend ∨ old.par .mkSend ≠ r.par .mkSend ∨ old.par .idSend ≠ r.par .idSend
            let taken (c : Fin 96) : Prop :=
              turned ∧ (s.circuit c).group = some g ∧ (s.circuit c).state = .idle ∧ (s.filter c).recCond = .on
            let freed (u : Fin 16) (c : Fin 96) : Prop :=
              unparks ∧ u ∈ s.parked ∧ (s.unit u).circuit = some c ∧ (s.circuit c).group = some g
            (r.direction = k.direction.getD old.direction ∧ r.startMode = k.startMode.getD old.startMode ∧
               r.huntMode = k.huntMode.getD old.huntMode ∧ r.glareRule = k.glareRule.getD old.glareRule ∧
               r.distribution = k.distribution.getD old.distribution ∧
               r.nextPort = (if k.distribution.isSome then .A else old.nextPort) ∧
               (∀ x ∈ k.params, r.par x.1 = x.1.clamp x.2) ∧
               (∀ p : Param, (∀ x ∈ k.params, x.1 ≠ p) → r.par p = old.par p) ∧ r.queue = old.queue ∧
               (turned → r.idle = old.idle.filter fun c => (s.filter c).recCond = .off) ∧
               (¬ turned → r.idle = old.idle)) ∧
            (r.reference.ref = old.reference.ref ∧ r.reference.locked = old.reference.locked ∧
               r.reference.inRun = old.reference.inRun ∧ r.reference.outRun = old.reference.outRun ∧
               (old.par .override = 1 → r.par .override = 0 →
                 (r.reference.tBm, r.reference.tId) = thresholdsOf r ∧ r.reference.sinceApply = 0) ∧
               (¬ (old.par .override = 1 ∧ r.par .override = 0) → r.reference.sinceApply = old.reference.sinceApply) ∧
               (r.par .override = 1 →
                 old.par .override = 0 ∨ old.par .ovrBm ≠ r.par .ovrBm ∨ old.par .ovrId ≠ r.par .ovrId →
                 r.reference.tBm = r.par .ovrBm ∧ r.reference.tId = r.par .ovrId) ∧
               ((old.par .override = 0 ∧ r.par .override = 0) ∨
                   (old.par .override = 1 ∧ r.par .override = 1 ∧ old.par .ovrBm = r.par .ovrBm ∧
                     old.par .ovrId = r.par .ovrId) →
                 r.reference = old.reference)) ∧
            (r.reference.tBm = old.reference.tBm → r.reference.tId = old.reference.tId →
              PortsKept (orderStart w s) t) ∧
            (r.reference.tBm ≠ old.reference.tBm ∨ r.reference.tId ≠ old.reference.tId →
              ∀ p, t.port p = ((orderStart w s).port p).withEvent (.group g) .applied) ∧
            (∀ c, (taken c → Preseizes r c s t ∧ (t.circuit c).owner = (s.circuit c).owner) ∧
              (∀ u, freed u c → t.circuit c = { s.circuit c with unit := none }) ∧
              (¬ taken c → (∀ u, ¬ freed u c) → t.circuit c = s.circuit c)) ∧
            (∀ u, (∀ c, freed u c → (t.unit u).state = (if (s.unit u).pendingOos then .outOfService else .free) ∧
                (t.unit u).circuit = none ∧ (t.unit u).pendingOos = false ∧ (t.unit u).subEnd = none ∧
                (t.unit u).parkTime = none ∧ u ∉ t.parked) ∧
              ((∀ c, ¬ freed u c) → t.unit u = s.unit u ∧ (u ∈ t.parked ↔ u ∈ s.parked))) ∧
            t.parked.Sublist s.parked ∧ t.regQueue = s.regQueue ∧ t.sndQueue = s.sndQueue ∧ GroupsKept [g] s t ∧
            LinesKept s t)))

/-- ASSIGN CIRCUIT (R23): its tests in order; then the trunk number is stored and block_pending cleared, and the circuit is
BLOCKED in the group named or UNEQUIPPED in none, its call fields kept. -/
def Obligations.AssignCircuitPlacesTheCircuit : Prop :=
  ∀ (w : OrderWrite) (ws : List Word) (s : State), OrderReady .assignCircuit w ws s →
    let w2 := wordAt ws 1
    let trunkNo := field (wordAt ws 2) 9 0
    (95 < field w2 6 0 ∨ 999 < trunkNo → Refuses (.assignCircuit w) w .badValue s) ∧
    (∀ c : Fin 96, field w2 6 0 = c.val → trunkNo ≤ 999 →
      let k := s.circuit c
      let free : Prop := k.state = .unequipped ∨ k.state = .blocked
      let placed (group : Option (Fin 8)) (state : CircuitState) : Prop :=
        ∃ t, Answers (.assignCircuit w) w (oneWord .ok) s t ∧ (t.circuit c).state = state ∧
          (t.circuit c).group = group ∧ (t.circuit c).trunkNo = trunkNo ∧ (t.circuit c).blockPending = false ∧
          CallKept k (t.circuit c) ∧ (t.circuit c).owner = k.owner ∧ OnlyCircuit c (orderStart w s) t ∧
          PortsKept (orderStart w s) t
      (bitSet w2 15 = true →
        (¬ free → Refuses (.assignCircuit w) w .wrongState s) ∧ (free → placed none .unequipped)) ∧
      (bitSet w2 15 = false →
        (7 < field w2 11 8 → Refuses (.assignCircuit w) w .badGroup s) ∧
        (∀ g : Fin 8, field w2 11 8 = g.val →
          ((s.group g).direction = .none → Refuses (.assignCircuit w) w .badGroup s) ∧
          ((s.group g).direction ≠ .none →
            (¬ free → Refuses (.assignCircuit w) w .wrongState s) ∧ (free → placed (some g) .blocked)))))

/-- BLOCK by the circuit's state: WRONG_STATE for UNEQUIPPED, off the idle list into BLOCKED for IDLE, nothing for BLOCKED,
and block_pending for every other state (R164, R167). -/
def Obligations.BlockActsByState : Prop :=
  ∀ (w : OrderWrite) (ws : List Word) (s : State), PoolSound s → OrderReady .block w ws s →
    (95 < field (wordAt ws 1) 6 0 → Refuses (.block w) w .badValue s) ∧
    (∀ c : Fin 96, field (wordAt ws 1) 6 0 = c.val →
      let k := s.circuit c
      (k.state = .unequipped → Refuses (.block w) w .wrongState s) ∧
      (k.state = .blocked → Answers (.block w) w (oneWord .ok) s (orderStart w s)) ∧
      (∀ g, k.state = .idle → k.group = some g →
        ∃ t, Answers (.block w) w (oneWord .ok) s t ∧
          t.circuit c =
            { k with state := .blocked, sup := .off
                     lastOff := if k.sup = .on then some { start := s.timeBase, value := s.par c .sep } else k.lastOff
                     timer := if (s.filter c).recCond = .on then
                       some { start := s.timeBase, value := (s.group g).par .szRec } else none } ∧
          t.group g = { s.group g with idle := (s.group g).idle.filter fun d => d ≠ c } ∧ GroupsKept [g] s t ∧
          CircuitsKept [c] s t ∧ PoolKept s t ∧ LinesKept s t ∧ PortsKept (orderStart w s) t) ∧
      (k.state ≠ .unequipped → k.state ≠ .blocked → k.state ≠ .idle →
        Answers (.block w) w (oneWord .ok) s
          ((orderStart w s).modCircuit c fun r => { r with blockPending := true })))

/-- UNBLOCK makes a BLOCKED circuit idle and clears block_pending in any other state (R166); RESET CIRCUIT makes a FAULT
circuit idle and is WRONG_STATE in any other (R171). A circuit that becomes idle goes where R27 places it, with the waiting
slot at the head of the queue if there is one (R28). Neither raises an event on the circuit. Where a waiting slot takes the
circuit, the flag of an ON present at the seizure is log entry 19. -/
def Obligations.UnblockAndResetReturnTheCircuit : Prop :=
  ∀ (w : OrderWrite) (ws : List Word) (s : State) (kind : OrderKind), PoolSound s → RestSound s →
    kind = .unblock ∨ kind = .resetCircuit → OrderReady kind w ws s →
    (95 < field (wordAt ws 1) 6 0 → Refuses (rowOf kind w) w .badValue s) ∧
    (∀ c : Fin 96, field (wordAt ws 1) 6 0 = c.val →
      let k := s.circuit c
      (∀ g, k.group = some g → (kind = .unblock ∧ k.state = .blocked) ∨ (kind = .resetCircuit ∧ k.state = .fault) →
        ∃ t, Answers (rowOf kind w) w (oneWord .ok) s t ∧ BecameIdle g c (orderStart w s) t) ∧
      (kind = .unblock → k.state ≠ .blocked →
        Answers (rowOf kind w) w (oneWord .ok) s
          ((orderStart w s).modCircuit c fun r => { r with blockPending := false })) ∧
      (kind = .resetCircuit → k.state ≠ .fault → Refuses (rowOf kind w) w .wrongState s))

/-- UNIT SERVICE by the unit's state (R115): off takes a FREE unit or a parked sender out of service and marks any other
attached unit; on brings a unit back, to the queue's head or FREE, and clears the mark. A register so attached is as R72,
R104 and R119 leave it. -/
def Obligations.UnitServiceActsByState : Prop :=
  ∀ (w : OrderWrite) (ws : List Word) (s : State), PoolSound s →
    let n := field (wordAt ws 1) 4 0
    let s0 := orderStart w s
    (OrderReady .unitServiceOff w ws s →
      (15 < n → Refuses (.unitServiceOff w) w .badValue s) ∧
      (∀ u : Fin 16, n = u.val →
        let k := s.unit u
        (k.state = .outOfService → Answers (.unitServiceOff w) w (oneWord .ok) s s0) ∧
        (k.state = .free → ∃ t, Answers (.unitServiceOff w) w (oneWord .ok) s t ∧
          t.unit u = { k with state := .outOfService } ∧ OnlyUnit u s0 t ∧ PortsKept s0 t) ∧
        (k.state = .sender .parked → ∃ t, Answers (.unitServiceOff w) w (oneWord .ok) s t ∧
          (t.unit u).state = .outOfService ∧ (t.unit u).circuit = none ∧ (t.unit u).pendingOos = false ∧
          (t.unit u).parkTime = none ∧ t.parked = s.parked.filter (fun v => v ≠ u) ∧ UnitsKept [u] s t ∧
          (∀ c, k.circuit = some c → t.circuit c = { s.circuit c with unit := none } ∧ CircuitsKept [c] s t) ∧
          t.regQueue = s.regQueue ∧ t.sndQueue = s.sndQueue ∧ t.groups = s.groups ∧ LinesKept s t ∧
          PortsKept s0 t) ∧
        (k.state ≠ .outOfService → k.state ≠ .free → k.state ≠ .sender .parked →
          ∃ t, Answers (.unitServiceOff w) w (oneWord .ok) s t ∧ t.unit u = { k with pendingOos := true } ∧
            OnlyUnit u s0 t ∧ PortsKept s0 t))) ∧
    (OrderReady .unitServiceOn w ws s →
      (15 < n → Refuses (.unitServiceOn w) w .badValue s) ∧
      (∀ u : Fin 16, n = u.val →
        let k := s.unit u
        (k.state = .free → Answers (.unitServiceOn w) w (oneWord .ok) s s0) ∧
        (k.state = .outOfService → ∃ t, Answers (.unitServiceOn w) w (oneWord .ok) s t ∧
          (s.regQueue = [] → s.sndQueue = [] →
            t.unit u = { k with state := .free } ∧ OnlyUnit u s0 t ∧ PortsKept s0 t) ∧
          (∀ e rest, s.regQueue = e :: rest → RegisterAttached e.circuit u s t ∧ t.regQueue = rest ∧
            t.sndQueue = s.sndQueue ∧ UnitsKept [u] s t ∧ CircuitsKept [e.circuit] s t) ∧
          (∀ e rest, s.regQueue = [] → s.sndQueue = e :: rest → (t.unit u).circuit = some e.circuit ∧
            (t.unit u).state.isSender = true ∧ (t.circuit e.circuit).unit = some u ∧ t.sndQueue = rest ∧
            UnitsKept [u] s t ∧ CircuitsKept [e.circuit] s t)) ∧
        (k.state ≠ .outOfService → k.state ≠ .free → ∃ t, Answers (.unitServiceOn w) w (oneWord .ok) s t ∧
          t.unit u = { k with pendingOos := false } ∧ OnlyUnit u s0 t ∧ PortsKept s0 t)))

/-- REFERENCE CONTROL APPLY (R128, R132): since_apply returns to 0 and, with override off, the thresholds take the computed
values, applied being raised for both ports if either changed; the lock and its runs stay. A group above 7 is BAD_GROUP and
an action from 2 to 15 BAD_VALUE (the row of these actions is log entry 10). -/
def Obligations.ReferenceApplySetsTheThresholds : Prop :=
  ∀ (w : OrderWrite) (ws : List Word) (s : State), OrderReady .referenceControlApply w ws s →
    (7 < field (wordAt ws 1) 3 0 → Refuses (.referenceControlApply w) w .badGroup s) ∧
    (∀ g : Fin 8, field (wordAt ws 1) 3 0 = g.val →
      (field (wordAt ws 1) 11 8 ≠ 0 → Refuses (.referenceControlApply w) w .badValue s) ∧
      (field (wordAt ws 1) 11 8 = 0 →
        let k := s.group g
        let computed := if k.par .override = 0 then thresholdsOf k else (k.reference.tBm, k.reference.tId)
        let same : Prop := k.reference.tBm = computed.1 ∧ k.reference.tId = computed.2
        ∃ t, Answers (.referenceControlApply w) w (oneWord .ok) s t ∧
          t.group g =
            { k with reference := { k.reference with sinceApply := 0, tBm := computed.1, tId := computed.2 } } ∧
          GroupsKept [g] s t ∧ t.circuits = s.circuits ∧ PoolKept s t ∧ LinesKept s t ∧
          (same → PortsKept (orderStart w s) t) ∧
          (¬ same → ∀ p, t.port p = ((orderStart w s).port p).withEvent (.group g) .applied)))

/-- REFERENCE CONTROL SET (R133): ref takes the value clamped to 800 to 3200, OK_CLAMPED if it was outside; the lock is
UNLOCKED with both runs 0, and unlocked is raised if it was LOCKED; no apply is made. -/
def Obligations.ReferenceSetStoresRef : Prop :=
  ∀ (w : OrderWrite) (ws : List Word) (s : State), OrderReady .referenceControlSet w ws s →
    let v := (wordAt ws 2).toNat
    (7 < field (wordAt ws 1) 3 0 → Refuses (.referenceControlSet w) w .badGroup s) ∧
    (∀ g : Fin 8, field (wordAt ws 1) 3 0 = g.val →
      let k := s.group g
      ∃ t, Answers (.referenceControlSet w) w (oneWord (if v < 800 ∨ 3200 < v then .okClamped else .ok)) s t ∧
        t.group g =
          { k with reference :=
              { k.reference with
                ref := if v < 800 then 800 else if 3200 < v then 3200 else v
                locked := false, inRun := 0, outRun := 0 } } ∧
        GroupsKept [g] s t ∧ t.circuits = s.circuits ∧ PoolKept s t ∧ LinesKept s t ∧
        (k.reference.locked = false → PortsKept (orderStart w s) t) ∧
        (k.reference.locked = true → ∀ p, t.port p = ((orderStart w s).port p).withEvent (.group g) .unlocked))

/-- WATCH SET (R181): BAD_VALUE for a channel or target above 7, a circuit above 95 or edge code 3, changing nothing;
otherwise OK, every field stored and match_count 0, and nothing else changed. -/
def Obligations.WatchSetStoresItsFields : Prop :=
  ∀ (w : OrderWrite) (ws : List Word) (s : State), OrderReady .watchSet w ws s →
    let w2 := wordAt ws 1
    let w3 := wordAt ws 2
    (7 < field w2 11 8 ∨ 95 < field w2 6 0 ∨ 7 < field w3 3 0 ∨ field w3 13 12 = 3 →
      Refuses (.watchSet w) w .badValue s) ∧
    (∀ (ch : Fin 8) (c : Fin 96) (target : Fin 8) (edge : Edge) (dest : ReportTo) (action : Action),
      field w2 11 8 = ch.val → field w2 6 0 = c.val → field w3 3 0 = target.val →
      (edge, field w3 13 12) ∈ [(Edge.toOn, 0), (Edge.toOff, 1), (Edge.any, 2)] →
      (dest, field w3 9 8) ∈ [(ReportTo.none, 0), (ReportTo.A, 1), (ReportTo.B, 2), (ReportTo.both, 3)] →
      (action, field w3 5 4) ∈ [(Action.none, 0), (Action.set, 1), (Action.clear, 2), (Action.toggle, 3)] →
      Answers (.watchSet w) w (oneWord .ok) s
        ((orderStart w s).setWatch ch
          { enable := bitSet w2 15, circuit := c, edge := edge, reportTo := dest, action := action
            target := target, matchCount := 0 }))

/-- FORCE SET (R182): BAD_VALUE for a channel above 7 or a circuit above 95, changing nothing; otherwise OK and the three
fields stored, and nothing else changed. -/
def Obligations.ForceSetStoresItsFields : Prop :=
  ∀ (w : OrderWrite) (ws : List Word) (s : State), OrderReady .forceSet w ws s →
    let w2 := wordAt ws 1
    (7 < field w2 11 8 ∨ 95 < field w2 6 0 → Refuses (.forceSet w) w .badValue s) ∧
    (∀ (ch : Fin 8) (c : Fin 96), field w2 11 8 = ch.val → field w2 6 0 = c.val →
      Answers (.forceSet w) w (oneWord .ok) s
        ((orderStart w s).setForce ch
          { enable := bitSet w2 15, circuit := c, value := if bitSet w2 14 then .on else .off }))

/-- RESTART CALLS (R39, R63, R87, R116, R173 to R175): outgoing calls clear forward, incoming calls are held with their
leads OFF, no circuit in a call has an owner, every other circuit keeps its record but for links that it has not, every slot
is FREE, the queues, the parked list, the pending sets and the lists are empty, and the units are detached; groups keep
everything but their wait queues. The other port keeps its selects, handshake, assembly and result block, and its report
read goes on with its words and its position, while the issuing port's report read is dropped. The timer of a seizure hold
is log entry 14, and the flag of an ON present at the entry to OUT_RELEASING log entry 19. -/
def Obligations.RestartClearsEveryCall : Prop :=
  ∀ (w : OrderWrite) (ws : List Word) (s : State), PoolSound s → OrderReady .restartCalls w ws s →
    ∃ t, Answers (.restartCalls w) w (oneWord .ok) s t ∧
      (∀ c, let k := s.circuit c
        let r := t.circuit c
        r.unit = none ∧ r.unitReq = none ∧ r.slot = none ∧ r.group = k.group ∧ r.trunkNo = k.trunkNo ∧
        r.blockPending = k.blockPending ∧ r.digits = k.digits ∧ r.cause = k.cause ∧ r.answered = k.answered ∧
        (k.state = .outSeizing ∨ k.state = .outSending ∨ k.state = .outWaitAnswer ∨ k.state = .outAnswered ∨
            k.state = .outClearedBack →
          r.state = .outReleasing ∧ r.owner = none ∧ r.relTime = some s.timeBase ∧ r.presentOn = s.leadOn c ∧
          (if k.state = .outSeizing ∧ elapsed s.timeBase k.seizeTime < k.minSeize then
            r.sup = k.sup ∧ r.timer = some { start := k.seizeTime, value := k.minSeize }
          else r.sup = .off ∧ r.timer = some { start := s.timeBase, value := s.par c .guardWait })) ∧
        (k.state = .inSeized ∨ k.state = .inReceiving ∨ k.state = .inHeld ∨ k.state = .inAnswered ∨
            k.state = .inClearedBack →
          r.state = .inHeld ∧ r.owner = none ∧ r.sup = .off ∧ r.ansDue = none ∧ r.timer = none ∧
          (k.ackPulse = .running → r.ackEnd = some s.timeBase)) ∧
        (k.state = .outReleasing ∨ k.state = .inGuard →
          r = { k with owner := none, unit := none, unitReq := none, slot := none }) ∧
        (k.state = .unequipped ∨ k.state = .blocked ∨ k.state = .fault ∨ k.state = .idle ∨ k.state = .inPreseize →
          r = { k with unit := none, unitReq := none, slot := none })) ∧
      (∀ g, t.group g = { s.group g with queue := [] }) ∧
      (∀ u, (t.unit u).circuit = none ∧
        ((s.unit u).state = .free ∨ (s.unit u).state = .outOfService → t.unit u = s.unit u) ∧
        ((s.unit u).state ≠ .free → (s.unit u).state ≠ .outOfService →
          (t.unit u).state = (if (s.unit u).pendingOos then .outOfService else .free) ∧ (t.unit u).pendingOos = false)) ∧
      t.regQueue = [] ∧ t.sndQueue = [] ∧ t.parked = [] ∧
      (∀ p, (∀ n : Fin 16, t.slot { port := p, num := n } = .free) ∧ (t.port p).attention = [] ∧
        (∀ it : Item, (t.port p).pend[it.index] = EventSet.empty) ∧
        (let before := (orderStart w s).port p
         t.port p =
          { before with
            slots := (t.port p).slots, pend := (t.port p).pend, attention := []
            report := before.report.map fun k => { k with merge := false } })) ∧
      (t.port w.port).report = none ∧
      (orderStart w s).port (otherPort w.port) = s.port (otherPort w.port) ∧ LinesKept s t

/-! ## The other accesses of a port -/

/-- On an open port an ORDER_WORD joins the order in assembly, or begins one and discards the old result, or completes an
order of unknown code (R140, R143); a REPORT_CHANNEL_WRITE is discarded and abandons an order in assembly (R139, R141). The CH 0
write abandons a report read, the CH 1 write does not. That the discarded result block holds no word until the order is done
with, where R136 gives a block one word or more, is the model's choice (log entry 15). -/
def Obligations.WritesAreAssembledOrDiscarded : Prop :=
  ∀ (w : OrderWrite) (s : State), Open w.port s → w.beside = false →
    let r := s.port w.port
    let s0 := writeStart w.port s
    let a : Assertion := { port := w.port, beside := false }
    (r.assembly = .empty → 1 < field w.data 3 0 + 1 →
      exec (.orderWord w) s = .next (s0.modPort w.port fun k =>
        { k with assembly := .assembling [w.data] (field w.data 3 0 + 1), result := [], resultPos := 1
                 handshake := .replyingWrite })) ∧
    (∀ ws n, r.assembly = .assembling ws n → ws.length + 1 < n →
      exec (.orderWord w) s = .next (s0.modPort w.port fun k =>
        { k with assembly := .assembling (ws ++ [w.data]) n, resultPos := 1, handshake := .replyingWrite })) ∧
    (r.completes w.data = true → orderKind (r.taken w.data).1 = none →
      exec (.orderWord w) s = .next (s0.modPort w.port fun k =>
        { k with assembly := .empty, result := oneWord .unknownOrder, resultPos := 1
                 handshake := .replyingWrite })) ∧
    (r.assembly = .empty →
      exec (.reportChannelWrite a w.data) s = .next (s.modPort w.port fun k =>
        { k with wsel := true, resultPos := 1, handshake := .replyingWrite })) ∧
    (∀ ws n, r.assembly = .assembling ws n →
      exec (.reportChannelWrite a w.data) s = .next (s.modPort w.port fun k =>
        { k with wsel := true, assembly := .empty, result := oneWord .incomplete, resultPos := 1
                 handshake := .replyingWrite }))

/-- On an open port a RESULT_READ presents the word at the result position, with LAST on the final word, and the position
advances or returns to 1; it abandons a report read, and an order in assembly, whose INCOMPLETE it then presents (R138, R141,
R142). -/
def Obligations.ResultReadsPresentTheBlock : Prop :=
  ∀ (p : Port) (s : State), Open p s →
    let r := s.port p
    let s0 := abandonReport p (readStart p s)
    let a : Assertion := { port := p, beside := false }
    (∀ word, r.assembly = .empty → 1 ≤ r.resultPos → r.result[r.resultPos - 1]? = some word →
      exec (.resultRead a) s = .next (s0.modPort p fun k =>
        { k with handshake := .replyingRead word (decide (r.resultPos = r.result.length))
                 resultPos := if r.resultPos = r.result.length then 1 else r.resultPos + 1 })) ∧
    (∀ ws n, r.assembly = .assembling ws n →
      exec (.resultRead a) s = .next (s0.modPort p fun k =>
        { k with assembly := .empty, result := [0x2400#16], resultPos := 1
                 handshake := .replyingRead 0x2400#16 true }))

/-- On an open port a REPORT_READ with no report read in progress presents NO_REPORT on an empty list, and otherwise takes the
item at the head, moves its pending set into a snapshot of the words that R186 lays out, presents the first word and frees a
slot in OUTCOME; the reads that follow present the snapshot's words in turn, and the report read is absent after the last
(R32, R156, R157, R160 to R162, R186). Taken while an order is in assembly it abandons the order, whose INCOMPLETE waits for
the next CH 0 read, and acts all the same (R141). -/
def Obligations.ReportReadsPresentTheSnapshot : Prop :=
  ∀ (p : Port) (s : State), Open p s →
    let r := s.port p
    let a : Assertion := { port := p, beside := false }
    (∀ ws n, r.assembly = .assembling ws n →
      exec (.reportRead a) s = exec (.reportRead a)
        (s.modPort p fun k => { k with assembly := .empty, result := [0x2400#16], resultPos := 1 })) ∧
    (r.assembly = .empty → r.report = none → r.attention = [] →
      exec (.reportRead a) s = .next (s.modPort p fun k =>
        { k with rsel := true, resultPos := 1, handshake := .replyingRead 0xE000#16 true })) ∧
    (∀ it rest, r.assembly = .empty → r.report = none → r.attention = it :: rest →
      let events := r.pend[it.index]
      ∃ t words, exec (.reportRead a) s = .next t ∧
        (ReferencesSound s → FieldsSound s → DigitsSound s → EventsSound s → ReportHolds p it events s words) ∧
        (t.port p).handshake = .replyingRead (wordAt words 0) false ∧
        (t.port p).report = some { item := it, words := words, position := 2, events := events, merge := true } ∧
        (t.port p).attention = rest.filter (fun x => x ≠ it) ∧
        (t.port p).pend = r.pend.set it.index EventSet.empty ∧ (t.port p).resultPos = 1 ∧
        (t.port p).result = r.result ∧ (t.port p).assembly = .empty ∧ (t.port p).enabled = r.enabled ∧
        (t.port p).rsel = true ∧ (t.port p).wsel = false ∧
        (∀ n : Fin 16, (t.port p).slots[n] =
          (if it = .slot n then
            match r.slots[n] with
            | .outcome _ _ => .free
            | k => k
          else r.slots[n])) ∧
        t.port (otherPort p) = s.port (otherPort p) ∧ t.circuits = s.circuits ∧ t.groups = s.groups ∧
        PoolKept s t ∧ LinesKept s t) ∧
    (∀ k word, r.assembly = .empty → r.report = some k → 1 ≤ k.position → k.words[k.position - 1]? = some word →
      exec (.reportRead a) s = .next (s.modPort p fun x =>
        { x with rsel := true, resultPos := 1
                 handshake := .replyingRead word (decide (k.position = k.words.length))
                 report := if k.position = k.words.length then none
                   else some { k with position := k.position + 1 } }))

/-- The selects of a port (R137, R138). A select asserted while the port replies or the other select is asserted stands, and
is not answered; two asserted at one instant both stand, and the port answers neither. The deassertion of the select being
answered, or of either where neither is, takes the port to QUIET; the other select, if it is asserted, is answered from that
instant as an ordinary access with the lines as they stand then. The deassertion of the other withdraws it. How a command
carries the lines and names the row is log entry 5. -/
def Obligations.SelectsAreAnsweredInTurn : Prop :=
  ∀ (p : Port) (s : State), s.resetAsserted = false →
    let r := s.port p
    let freed := s.modPort p fun k => { k with handshake := .quiet, wsel := false, rsel := false }
    let alone : Assertion := { port := p, beside := false }
    let both : Assertion := { port := p, beside := true }
    let write (beside : Bool) (data : Word) (mperm : Bool) (u : State) : Host.Outcome State Fault Refusal :=
      let w : OrderWrite := { port := p, data := data, mperm := mperm, beside := beside }
      match r.completedKind data with
      | none => exec (.orderWord w) u
      | some kind => exec (rowOf kind w) u
    (r.wsel = false → r.rsel = true ∨ r.handshake ≠ .quiet → ∀ data mperm,
      let stands := s.modPort p fun k => { k with wsel := true }
      write false data mperm s = .next stands ∧ exec (.reportChannelWrite alone data) s = .next stands) ∧
    (r.rsel = false → r.wsel = true ∨ r.handshake ≠ .quiet →
      let stands := s.modPort p fun k => { k with rsel := true }
      exec (.resultRead alone) s = .next stands ∧ exec (.reportRead alone) s = .next stands) ∧
    (r.wsel = false → r.rsel = false → ∀ data mperm,
      let stand := s.modPort p fun k => { k with wsel := true, rsel := true }
      write true data mperm s = .next stand ∧ exec (.reportChannelWrite both data) s = .next stand ∧
        exec (.resultRead both) s = .next stand ∧ exec (.reportRead both) s = .next stand) ∧
    (∀ d : Deassertion,
      (d.select = .write → r.handshake = .replyingWrite → r.wsel = true → r.rsel = false →
        exec (.selectDeassert p d) s = .next freed) ∧
      (∀ word last, d.select = .read → r.handshake = .replyingRead word last → r.rsel = true → r.wsel = false →
        exec (.selectDeassert p d) s = .next freed) ∧
      (d.select = .write → r.handshake = .quiet ∨ r.handshake = .replyingWrite → r.wsel = true → r.rsel = true →
        (d.ch = .ch0 → exec (.selectDeassert p d) s = exec (.resultRead alone) freed) ∧
        (d.ch = .ch1 → exec (.selectDeassert p d) s = exec (.reportRead alone) freed)) ∧
      (d.select = .read → r.handshake = .quiet ∨ (∃ word last, r.handshake = .replyingRead word last) →
        r.wsel = true → r.rsel = true →
        (d.ch = .ch0 → exec (.selectDeassert p d) s = write false d.data d.mperm freed) ∧
        (d.ch = .ch1 → exec (.selectDeassert p d) s = exec (.reportChannelWrite alone d.data) freed)) ∧
      (∀ word last, d.select = .write → r.handshake = .replyingRead word last → r.wsel = true →
        exec (.selectDeassert p d) s = .next (s.modPort p fun k => { k with wsel := false })) ∧
      (d.select = .read → r.handshake = .replyingWrite → r.rsel = true →
        exec (.selectDeassert p d) s = .next (s.modPort p fun k => { k with rsel := false })))

/-- An abandoned report read gives its events back and puts its item at the head of the list, unless its merge flag is clear
or its slot is FREE; the report read is then absent (R159). -/
def Obligations.AbandonedReadGivesBack : Prop :=
  ∀ (p : Port) (s : State) (k : ReportRead), (s.port p).report = some k →
    let r := s.port p
    let lost : Prop := k.merge = false ∨ ∃ n, k.item = .slot n ∧ s.slot { port := p, num := n } = .free
    (lost → abandonReport p s = s.modPort p fun x => { x with report := none }) ∧
    (¬ lost →
      ∃ merged : EventSet, merged.bits = (r.pend[k.item.index]).bits ||| k.events.bits ∧
        merged.discarded =
          (if (r.pend[k.item.index]).has .answered then (r.pend[k.item.index]).discarded else k.events.discarded) ∧
        abandonReport p s = s.modPort p fun x =>
          { x with report := none, pend := x.pend.set k.item.index merged
                   attention := k.item :: x.attention.filter (fun it => it ≠ k.item) })

/-- PEN_FALL frees the port's slots and discards their events, and hands its circuits to the other port if that is enabled
(R148, R149); PEN_RISE hands the circuits of a disabled other port to the port, once a report read of one of them is abandoned
(R150). A circuit handed over carries transferred and its pending events to the new port, with the discarded count of the old
port's answered, and leaves the old port's list; those that stood on that list join the new port's in its order, and the rest
then in ascending number. -/
def Obligations.PenChangesMoveOwnership : Prop :=
  ∀ (x : Port) (s : State), s.resetAsserted = false → AttentionSound s →
    let y := otherPort x
    ((s.port x).enabled = true →
      ∃ t, exec (.penFall x) s = .next t ∧ (t.port x).enabled = false ∧ (t.port y).enabled = (s.port y).enabled ∧
        (t.port x).report = none ∧
        (∀ n : Fin 16, t.slot { port := x, num := n } = .free ∧
          (t.port x).pend[(Item.slot n).index] = EventSet.empty ∧ Item.slot n ∉ (t.port x).attention) ∧
        (∀ (n : Fin 16) call digits eon expiry,
          s.slot { port := x, num := n } = .waiting call digits eon expiry →
            ({ port := x, num := n } : SlotId) ∉ (t.group call.group).queue) ∧
        (∀ (n : Fin 16) call c, s.slot { port := x, num := n } = .seizing call c → (t.circuit c).slot = none) ∧
        (let u := abandonReport x s
         let stays (it : Item) : Bool := ∀ n, it ≠ .slot n
         ((s.port y).enabled = true → Transfers x y u t ∧
           (t.port x).attention = (u.port x).attention.filter fun it => stays it ∧ u.ownsItem x it = false) ∧
         ((s.port y).enabled = false → (∀ c, (t.circuit c).owner = (s.circuit c).owner) ∧ t.port y = s.port y ∧
           (t.port x).attention = (u.port x).attention.filter stays ∧
           ∀ it, stays it = true → (t.port x).pend[it.index] = (u.port x).pend[it.index])) ∧
        (∀ c, (s.circuit c).owner ≠ some x → (t.circuit c).owner = (s.circuit c).owner) ∧
        (∀ c, (t.circuit c).state = (s.circuit c).state ∧ (t.circuit c).digits = (s.circuit c).digits ∧
          (t.circuit c).timer = (s.circuit c).timer) ∧
        PoolKept s t ∧ LinesKept s t) ∧
    ((s.port x).enabled = false →
      ∃ t, exec (.penRise x) s = .next t ∧ (t.port x).enabled = true ∧ (t.port y).enabled = (s.port y).enabled ∧
        ((s.port y).enabled = true → t = s.modPort x fun r => { r with enabled := true }) ∧
        (let u := if readsOwnCircuit y s then abandonReport y s else s
         (s.port y).enabled = false → Transfers y x u t ∧
           (t.port y).attention = (u.port y).attention.filter (fun it => u.ownsItem y it = false) ∧
           (∀ n : Fin 16, (t.port y).pend[(Item.slot n).index] = (s.port y).pend[(Item.slot n).index]) ∧
           ∀ c, (s.circuit c).owner ≠ some y → t.circuit c = s.circuit c) ∧
        t.groups = s.groups ∧ PoolKept s t ∧ LinesKept s t)

/-! ## Invariants -/

/-- Every step keeps the parameters in their ranges and every reference within its values: ref from 800 to 3200, t_bm from
40 to 200, t_id from 220 to 1000, and the lock runs as the lock allows (R16, R123 to R128). -/
def Obligations.ReferencesStaySound : Prop :=
  ∀ s t : State, ReferencesSound s → step s = .next t → ReferencesSound t

/-- Every step keeps each port's attention list without duplicates, and such a list holds at most 128 items (R155); and it
keeps every pending set, and the events of every report being read, within the kinds of their item (R152, R154). -/
def Obligations.AttentionListsStaySound : Prop :=
  (∀ s t : State, AttentionSound s → step s = .next t → AttentionSound t) ∧
    (∀ (s : State) (p : Port), AttentionSound s → (s.port p).attention.length ≤ 128) ∧
    ∀ s t : State, FieldsSound s → EventsSound s → step s = .next t → EventsSound t

/-- Every step keeps the idle lists, the units, the unit request queue and the parked list in agreement with the circuits
and with each other (R24, R102, R103, R104, R106, R111). -/
def Obligations.PoolStaysSound : Prop :=
  ∀ s t : State, PoolSound s → step s = .next t → PoolSound t

/-- Every step keeps the wait queues, the seizure slots and the circuits' links in agreement (R30, R31, R33), and the slots of a
port that is not enabled FREE (R148). -/
def Obligations.SlotsStaySound : Prop :=
  ∀ s t : State, PoolSound s → SlotsSound s → step s = .next t → SlotsSound t

/-- Every step keeps the circuits' states fitting their groups (R18); of every record, the values of its table (R17, R30,
R177); and the counts of digits sent and of pulses within their strings and their trains (R46, R103, R117, R118). -/
def Obligations.StatesStayFitting : Prop :=
  (∀ s t : State, PoolSound s → SlotsSound s → RestSound s → step s = .next t → RestSound t) ∧
    (∀ s t : State, FieldsSound s → step s = .next t → FieldsSound t) ∧
    ∀ s t : State, PoolSound s → DigitsSound s → step s = .next t → DigitsSound t

/-- The state after reset meets every invariant. -/
def Obligations.ResetMeetsTheInvariants : Prop :=
  ReferencesSound State.reset ∧ AttentionSound State.reset ∧ PoolSound State.reset ∧ SlotsSound State.reset ∧
    RestSound State.reset ∧ FieldsSound State.reset ∧ DigitsSound State.reset ∧ EventsSound State.reset
end

