-- ==== Sys2Proof/Laws/State.lean ====
section
/-! SUPPORT. One lemma per field per update of the state: what each named update changes, and that it leaves every other
field and record as it was. -/

namespace Sys2Proof.Machine

variable (s : State)

/-! ## `State.modCircuit` -/

@[simp] theorem State.modCircuit_resetAsserted (c : Fin 96) (f : Circuit → Circuit) : (s.modCircuit c f).resetAsserted = s.resetAsserted := rfl
@[simp] theorem State.modCircuit_timeBase (c : Fin 96) (f : Circuit → Circuit) : (s.modCircuit c f).timeBase = s.timeBase := rfl
@[simp] theorem State.modCircuit_filters (c : Fin 96) (f : Circuit → Circuit) : (s.modCircuit c f).filters = s.filters := rfl
@[simp] theorem State.modCircuit_groups (c : Fin 96) (f : Circuit → Circuit) : (s.modCircuit c f).groups = s.groups := rfl
@[simp] theorem State.modCircuit_units (c : Fin 96) (f : Circuit → Circuit) : (s.modCircuit c f).units = s.units := rfl
@[simp] theorem State.modCircuit_regQueue (c : Fin 96) (f : Circuit → Circuit) : (s.modCircuit c f).regQueue = s.regQueue := rfl
@[simp] theorem State.modCircuit_sndQueue (c : Fin 96) (f : Circuit → Circuit) : (s.modCircuit c f).sndQueue = s.sndQueue := rfl
@[simp] theorem State.modCircuit_parked (c : Fin 96) (f : Circuit → Circuit) : (s.modCircuit c f).parked = s.parked := rfl
@[simp] theorem State.modCircuit_portA (c : Fin 96) (f : Circuit → Circuit) : (s.modCircuit c f).portA = s.portA := rfl
@[simp] theorem State.modCircuit_portB (c : Fin 96) (f : Circuit → Circuit) : (s.modCircuit c f).portB = s.portB := rfl
@[simp] theorem State.modCircuit_watches (c : Fin 96) (f : Circuit → Circuit) : (s.modCircuit c f).watches = s.watches := rfl
@[simp] theorem State.modCircuit_forces (c : Fin 96) (f : Circuit → Circuit) : (s.modCircuit c f).forces = s.forces := rfl
@[simp] theorem State.modCircuit_pending (c : Fin 96) (f : Circuit → Circuit) : (s.modCircuit c f).pending = s.pending := rfl
@[simp] theorem State.modCircuit_choices (c : Fin 96) (f : Circuit → Circuit) : (s.modCircuit c f).choices = s.choices := rfl
@[simp] theorem State.modCircuit_circuit_self (c : Fin 96) (f : Circuit → Circuit) : (s.modCircuit c f).circuit c = f (s.circuit c) := by
  simp [State.modCircuit, State.circuit]
theorem State.modCircuit_circuit_ne (c : Fin 96) (f : Circuit → Circuit) {x : Fin 96} (h : x ≠ c) : (s.modCircuit c f).circuit x = s.circuit x := by
  have h : ¬ c.val = x.val := fun e => h (Fin.ext e.symm)
  simp [State.modCircuit, State.circuit, h]
theorem State.modCircuit_circuit (c : Fin 96) (f : Circuit → Circuit) (x : Fin 96) :
    (s.modCircuit c f).circuit x = if x = c then f (s.circuit c) else s.circuit x := by
  by_cases h : x = c
  · subst h; simp
  · simp [State.modCircuit_circuit_ne, h]
@[simp] theorem State.modCircuit_filter (c : Fin 96) (f : Circuit → Circuit) (x : Fin 96) : (s.modCircuit c f).filter x = s.filter x := rfl
@[simp] theorem State.modCircuit_group (c : Fin 96) (f : Circuit → Circuit) (x : Fin 8) : (s.modCircuit c f).group x = s.group x := rfl
@[simp] theorem State.modCircuit_unit (c : Fin 96) (f : Circuit → Circuit) (x : Fin 16) : (s.modCircuit c f).unit x = s.unit x := rfl
@[simp] theorem State.modCircuit_watch (c : Fin 96) (f : Circuit → Circuit) (x : Fin 8) : (s.modCircuit c f).watch x = s.watch x := rfl
@[simp] theorem State.modCircuit_force (c : Fin 96) (f : Circuit → Circuit) (x : Fin 8) : (s.modCircuit c f).force x = s.force x := rfl
@[simp] theorem State.modCircuit_port (c : Fin 96) (f : Circuit → Circuit) (p : Port) : (s.modCircuit c f).port p = s.port p := by cases p <;> rfl
@[simp] theorem State.modCircuit_slot (c : Fin 96) (f : Circuit → Circuit) (id : SlotId) : (s.modCircuit c f).slot id = s.slot id := by
  simp [State.slot]

/-! ## `State.setFilter` -/

@[simp] theorem State.setFilter_resetAsserted (c : Fin 96) (k : FilterChannel) : (s.setFilter c k).resetAsserted = s.resetAsserted := rfl
@[simp] theorem State.setFilter_timeBase (c : Fin 96) (k : FilterChannel) : (s.setFilter c k).timeBase = s.timeBase := rfl
@[simp] theorem State.setFilter_circuits (c : Fin 96) (k : FilterChannel) : (s.setFilter c k).circuits = s.circuits := rfl
@[simp] theorem State.setFilter_groups (c : Fin 96) (k : FilterChannel) : (s.setFilter c k).groups = s.groups := rfl
@[simp] theorem State.setFilter_units (c : Fin 96) (k : FilterChannel) : (s.setFilter c k).units = s.units := rfl
@[simp] theorem State.setFilter_regQueue (c : Fin 96) (k : FilterChannel) : (s.setFilter c k).regQueue = s.regQueue := rfl
@[simp] theorem State.setFilter_sndQueue (c : Fin 96) (k : FilterChannel) : (s.setFilter c k).sndQueue = s.sndQueue := rfl
@[simp] theorem State.setFilter_parked (c : Fin 96) (k : FilterChannel) : (s.setFilter c k).parked = s.parked := rfl
@[simp] theorem State.setFilter_portA (c : Fin 96) (k : FilterChannel) : (s.setFilter c k).portA = s.portA := rfl
@[simp] theorem State.setFilter_portB (c : Fin 96) (k : FilterChannel) : (s.setFilter c k).portB = s.portB := rfl
@[simp] theorem State.setFilter_watches (c : Fin 96) (k : FilterChannel) : (s.setFilter c k).watches = s.watches := rfl
@[simp] theorem State.setFilter_forces (c : Fin 96) (k : FilterChannel) : (s.setFilter c k).forces = s.forces := rfl
@[simp] theorem State.setFilter_pending (c : Fin 96) (k : FilterChannel) : (s.setFilter c k).pending = s.pending := rfl
@[simp] theorem State.setFilter_choices (c : Fin 96) (k : FilterChannel) : (s.setFilter c k).choices = s.choices := rfl
@[simp] theorem State.setFilter_circuit (c : Fin 96) (k : FilterChannel) (x : Fin 96) : (s.setFilter c k).circuit x = s.circuit x := rfl
@[simp] theorem State.setFilter_filter_self (c : Fin 96) (k : FilterChannel) : (s.setFilter c k).filter c = k := by
  simp [State.setFilter, State.filter]
theorem State.setFilter_filter_ne (c : Fin 96) (k : FilterChannel) {x : Fin 96} (h : x ≠ c) : (s.setFilter c k).filter x = s.filter x := by
  have h : ¬ c.val = x.val := fun e => h (Fin.ext e.symm)
  simp [State.setFilter, State.filter, h]
theorem State.setFilter_filter (c : Fin 96) (k : FilterChannel) (x : Fin 96) :
    (s.setFilter c k).filter x = if x = c then k else s.filter x := by
  by_cases h : x = c
  · subst h; simp
  · simp [State.setFilter_filter_ne, h]
@[simp] theorem State.setFilter_group (c : Fin 96) (k : FilterChannel) (x : Fin 8) : (s.setFilter c k).group x = s.group x := rfl
@[simp] theorem State.setFilter_unit (c : Fin 96) (k : FilterChannel) (x : Fin 16) : (s.setFilter c k).unit x = s.unit x := rfl
@[simp] theorem State.setFilter_watch (c : Fin 96) (k : FilterChannel) (x : Fin 8) : (s.setFilter c k).watch x = s.watch x := rfl
@[simp] theorem State.setFilter_force (c : Fin 96) (k : FilterChannel) (x : Fin 8) : (s.setFilter c k).force x = s.force x := rfl
@[simp] theorem State.setFilter_port (c : Fin 96) (k : FilterChannel) (p : Port) : (s.setFilter c k).port p = s.port p := by cases p <;> rfl
@[simp] theorem State.setFilter_slot (c : Fin 96) (k : FilterChannel) (id : SlotId) : (s.setFilter c k).slot id = s.slot id := by
  simp [State.slot]

/-! ## `State.modGroup` -/

@[simp] theorem State.modGroup_resetAsserted (g : Fin 8) (f : Group → Group) : (s.modGroup g f).resetAsserted = s.resetAsserted := rfl
@[simp] theorem State.modGroup_timeBase (g : Fin 8) (f : Group → Group) : (s.modGroup g f).timeBase = s.timeBase := rfl
@[simp] theorem State.modGroup_filters (g : Fin 8) (f : Group → Group) : (s.modGroup g f).filters = s.filters := rfl
@[simp] theorem State.modGroup_circuits (g : Fin 8) (f : Group → Group) : (s.modGroup g f).circuits = s.circuits := rfl
@[simp] theorem State.modGroup_units (g : Fin 8) (f : Group → Group) : (s.modGroup g f).units = s.units := rfl
@[simp] theorem State.modGroup_regQueue (g : Fin 8) (f : Group → Group) : (s.modGroup g f).regQueue = s.regQueue := rfl
@[simp] theorem State.modGroup_sndQueue (g : Fin 8) (f : Group → Group) : (s.modGroup g f).sndQueue = s.sndQueue := rfl
@[simp] theorem State.modGroup_parked (g : Fin 8) (f : Group → Group) : (s.modGroup g f).parked = s.parked := rfl
@[simp] theorem State.modGroup_portA (g : Fin 8) (f : Group → Group) : (s.modGroup g f).portA = s.portA := rfl
@[simp] theorem State.modGroup_portB (g : Fin 8) (f : Group → Group) : (s.modGroup g f).portB = s.portB := rfl
@[simp] theorem State.modGroup_watches (g : Fin 8) (f : Group → Group) : (s.modGroup g f).watches = s.watches := rfl
@[simp] theorem State.modGroup_forces (g : Fin 8) (f : Group → Group) : (s.modGroup g f).forces = s.forces := rfl
@[simp] theorem State.modGroup_pending (g : Fin 8) (f : Group → Group) : (s.modGroup g f).pending = s.pending := rfl
@[simp] theorem State.modGroup_choices (g : Fin 8) (f : Group → Group) : (s.modGroup g f).choices = s.choices := rfl
@[simp] theorem State.modGroup_circuit (g : Fin 8) (f : Group → Group) (x : Fin 96) : (s.modGroup g f).circuit x = s.circuit x := rfl
@[simp] theorem State.modGroup_filter (g : Fin 8) (f : Group → Group) (x : Fin 96) : (s.modGroup g f).filter x = s.filter x := rfl
@[simp] theorem State.modGroup_group_self (g : Fin 8) (f : Group → Group) : (s.modGroup g f).group g = f (s.group g) := by
  simp [State.modGroup, State.group]
theorem State.modGroup_group_ne (g : Fin 8) (f : Group → Group) {x : Fin 8} (h : x ≠ g) : (s.modGroup g f).group x = s.group x := by
  have h : ¬ g.val = x.val := fun e => h (Fin.ext e.symm)
  simp [State.modGroup, State.group, h]
theorem State.modGroup_group (g : Fin 8) (f : Group → Group) (x : Fin 8) :
    (s.modGroup g f).group x = if x = g then f (s.group g) else s.group x := by
  by_cases h : x = g
  · subst h; simp
  · simp [State.modGroup_group_ne, h]
@[simp] theorem State.modGroup_unit (g : Fin 8) (f : Group → Group) (x : Fin 16) : (s.modGroup g f).unit x = s.unit x := rfl
@[simp] theorem State.modGroup_watch (g : Fin 8) (f : Group → Group) (x : Fin 8) : (s.modGroup g f).watch x = s.watch x := rfl
@[simp] theorem State.modGroup_force (g : Fin 8) (f : Group → Group) (x : Fin 8) : (s.modGroup g f).force x = s.force x := rfl
@[simp] theorem State.modGroup_port (g : Fin 8) (f : Group → Group) (p : Port) : (s.modGroup g f).port p = s.port p := by cases p <;> rfl
@[simp] theorem State.modGroup_slot (g : Fin 8) (f : Group → Group) (id : SlotId) : (s.modGroup g f).slot id = s.slot id := by
  simp [State.slot]

/-! ## `State.modUnit` -/

@[simp] theorem State.modUnit_resetAsserted (u : Fin 16) (f : DigitUnit → DigitUnit) : (s.modUnit u f).resetAsserted = s.resetAsserted := rfl
@[simp] theorem State.modUnit_timeBase (u : Fin 16) (f : DigitUnit → DigitUnit) : (s.modUnit u f).timeBase = s.timeBase := rfl
@[simp] theorem State.modUnit_filters (u : Fin 16) (f : DigitUnit → DigitUnit) : (s.modUnit u f).filters = s.filters := rfl
@[simp] theorem State.modUnit_circuits (u : Fin 16) (f : DigitUnit → DigitUnit) : (s.modUnit u f).circuits = s.circuits := rfl
@[simp] theorem State.modUnit_groups (u : Fin 16) (f : DigitUnit → DigitUnit) : (s.modUnit u f).groups = s.groups := rfl
@[simp] theorem State.modUnit_regQueue (u : Fin 16) (f : DigitUnit → DigitUnit) : (s.modUnit u f).regQueue = s.regQueue := rfl
@[simp] theorem State.modUnit_sndQueue (u : Fin 16) (f : DigitUnit → DigitUnit) : (s.modUnit u f).sndQueue = s.sndQueue := rfl
@[simp] theorem State.modUnit_parked (u : Fin 16) (f : DigitUnit → DigitUnit) : (s.modUnit u f).parked = s.parked := rfl
@[simp] theorem State.modUnit_portA (u : Fin 16) (f : DigitUnit → DigitUnit) : (s.modUnit u f).portA = s.portA := rfl
@[simp] theorem State.modUnit_portB (u : Fin 16) (f : DigitUnit → DigitUnit) : (s.modUnit u f).portB = s.portB := rfl
@[simp] theorem State.modUnit_watches (u : Fin 16) (f : DigitUnit → DigitUnit) : (s.modUnit u f).watches = s.watches := rfl
@[simp] theorem State.modUnit_forces (u : Fin 16) (f : DigitUnit → DigitUnit) : (s.modUnit u f).forces = s.forces := rfl
@[simp] theorem State.modUnit_pending (u : Fin 16) (f : DigitUnit → DigitUnit) : (s.modUnit u f).pending = s.pending := rfl
@[simp] theorem State.modUnit_choices (u : Fin 16) (f : DigitUnit → DigitUnit) : (s.modUnit u f).choices = s.choices := rfl
@[simp] theorem State.modUnit_circuit (u : Fin 16) (f : DigitUnit → DigitUnit) (x : Fin 96) : (s.modUnit u f).circuit x = s.circuit x := rfl
@[simp] theorem State.modUnit_filter (u : Fin 16) (f : DigitUnit → DigitUnit) (x : Fin 96) : (s.modUnit u f).filter x = s.filter x := rfl
@[simp] theorem State.modUnit_group (u : Fin 16) (f : DigitUnit → DigitUnit) (x : Fin 8) : (s.modUnit u f).group x = s.group x := rfl
@[simp] theorem State.modUnit_unit_self (u : Fin 16) (f : DigitUnit → DigitUnit) : (s.modUnit u f).unit u = f (s.unit u) := by
  simp [State.modUnit, State.unit]
theorem State.modUnit_unit_ne (u : Fin 16) (f : DigitUnit → DigitUnit) {x : Fin 16} (h : x ≠ u) : (s.modUnit u f).unit x = s.unit x := by
  have h : ¬ u.val = x.val := fun e => h (Fin.ext e.symm)
  simp [State.modUnit, State.unit, h]
theorem State.modUnit_unit (u : Fin 16) (f : DigitUnit → DigitUnit) (x : Fin 16) :
    (s.modUnit u f).unit x = if x = u then f (s.unit u) else s.unit x := by
  by_cases h : x = u
  · subst h; simp
  · simp [State.modUnit_unit_ne, h]
@[simp] theorem State.modUnit_watch (u : Fin 16) (f : DigitUnit → DigitUnit) (x : Fin 8) : (s.modUnit u f).watch x = s.watch x := rfl
@[simp] theorem State.modUnit_force (u : Fin 16) (f : DigitUnit → DigitUnit) (x : Fin 8) : (s.modUnit u f).force x = s.force x := rfl
@[simp] theorem State.modUnit_port (u : Fin 16) (f : DigitUnit → DigitUnit) (p : Port) : (s.modUnit u f).port p = s.port p := by cases p <;> rfl
@[simp] theorem State.modUnit_slot (u : Fin 16) (f : DigitUnit → DigitUnit) (id : SlotId) : (s.modUnit u f).slot id = s.slot id := by
  simp [State.slot]

/-! ## `State.setWatch` -/

@[simp] theorem State.setWatch_resetAsserted (w : Fin 8) (k : WatchChannel) : (s.setWatch w k).resetAsserted = s.resetAsserted := rfl
@[simp] theorem State.setWatch_timeBase (w : Fin 8) (k : WatchChannel) : (s.setWatch w k).timeBase = s.timeBase := rfl
@[simp] theorem State.setWatch_filters (w : Fin 8) (k : WatchChannel) : (s.setWatch w k).filters = s.filters := rfl
@[simp] theorem State.setWatch_circuits (w : Fin 8) (k : WatchChannel) : (s.setWatch w k).circuits = s.circuits := rfl
@[simp] theorem State.setWatch_groups (w : Fin 8) (k : WatchChannel) : (s.setWatch w k).groups = s.groups := rfl
@[simp] theorem State.setWatch_units (w : Fin 8) (k : WatchChannel) : (s.setWatch w k).units = s.units := rfl
@[simp] theorem State.setWatch_regQueue (w : Fin 8) (k : WatchChannel) : (s.setWatch w k).regQueue = s.regQueue := rfl
@[simp] theorem State.setWatch_sndQueue (w : Fin 8) (k : WatchChannel) : (s.setWatch w k).sndQueue = s.sndQueue := rfl
@[simp] theorem State.setWatch_parked (w : Fin 8) (k : WatchChannel) : (s.setWatch w k).parked = s.parked := rfl
@[simp] theorem State.setWatch_portA (w : Fin 8) (k : WatchChannel) : (s.setWatch w k).portA = s.portA := rfl
@[simp] theorem State.setWatch_portB (w : Fin 8) (k : WatchChannel) : (s.setWatch w k).portB = s.portB := rfl
@[simp] theorem State.setWatch_forces (w : Fin 8) (k : WatchChannel) : (s.setWatch w k).forces = s.forces := rfl
@[simp] theorem State.setWatch_pending (w : Fin 8) (k : WatchChannel) : (s.setWatch w k).pending = s.pending := rfl
@[simp] theorem State.setWatch_choices (w : Fin 8) (k : WatchChannel) : (s.setWatch w k).choices = s.choices := rfl
@[simp] theorem State.setWatch_circuit (w : Fin 8) (k : WatchChannel) (x : Fin 96) : (s.setWatch w k).circuit x = s.circuit x := rfl
@[simp] theorem State.setWatch_filter (w : Fin 8) (k : WatchChannel) (x : Fin 96) : (s.setWatch w k).filter x = s.filter x := rfl
@[simp] theorem State.setWatch_group (w : Fin 8) (k : WatchChannel) (x : Fin 8) : (s.setWatch w k).group x = s.group x := rfl
@[simp] theorem State.setWatch_unit (w : Fin 8) (k : WatchChannel) (x : Fin 16) : (s.setWatch w k).unit x = s.unit x := rfl
@[simp] theorem State.setWatch_watch_self (w : Fin 8) (k : WatchChannel) : (s.setWatch w k).watch w = k := by
  simp [State.setWatch, State.watch]
theorem State.setWatch_watch_ne (w : Fin 8) (k : WatchChannel) {x : Fin 8} (h : x ≠ w) : (s.setWatch w k).watch x = s.watch x := by
  have h : ¬ w.val = x.val := fun e => h (Fin.ext e.symm)
  simp [State.setWatch, State.watch, h]
theorem State.setWatch_watch (w : Fin 8) (k : WatchChannel) (x : Fin 8) :
    (s.setWatch w k).watch x = if x = w then k else s.watch x := by
  by_cases h : x = w
  · subst h; simp
  · simp [State.setWatch_watch_ne, h]
@[simp] theorem State.setWatch_force (w : Fin 8) (k : WatchChannel) (x : Fin 8) : (s.setWatch w k).force x = s.force x := rfl
@[simp] theorem State.setWatch_port (w : Fin 8) (k : WatchChannel) (p : Port) : (s.setWatch w k).port p = s.port p := by cases p <;> rfl
@[simp] theorem State.setWatch_slot (w : Fin 8) (k : WatchChannel) (id : SlotId) : (s.setWatch w k).slot id = s.slot id := by
  simp [State.slot]

/-! ## `State.setForce` -/

@[simp] theorem State.setForce_resetAsserted (v : Fin 8) (k : ForceChannel) : (s.setForce v k).resetAsserted = s.resetAsserted := rfl
@[simp] theorem State.setForce_timeBase (v : Fin 8) (k : ForceChannel) : (s.setForce v k).timeBase = s.timeBase := rfl
@[simp] theorem State.setForce_filters (v : Fin 8) (k : ForceChannel) : (s.setForce v k).filters = s.filters := rfl
@[simp] theorem State.setForce_circuits (v : Fin 8) (k : ForceChannel) : (s.setForce v k).circuits = s.circuits := rfl
@[simp] theorem State.setForce_groups (v : Fin 8) (k : ForceChannel) : (s.setForce v k).groups = s.groups := rfl
@[simp] theorem State.setForce_units (v : Fin 8) (k : ForceChannel) : (s.setForce v k).units = s.units := rfl
@[simp] theorem State.setForce_regQueue (v : Fin 8) (k : ForceChannel) : (s.setForce v k).regQueue = s.regQueue := rfl
@[simp] theorem State.setForce_sndQueue (v : Fin 8) (k : ForceChannel) : (s.setForce v k).sndQueue = s.sndQueue := rfl
@[simp] theorem State.setForce_parked (v : Fin 8) (k : ForceChannel) : (s.setForce v k).parked = s.parked := rfl
@[simp] theorem State.setForce_portA (v : Fin 8) (k : ForceChannel) : (s.setForce v k).portA = s.portA := rfl
@[simp] theorem State.setForce_portB (v : Fin 8) (k : ForceChannel) : (s.setForce v k).portB = s.portB := rfl
@[simp] theorem State.setForce_watches (v : Fin 8) (k : ForceChannel) : (s.setForce v k).watches = s.watches := rfl
@[simp] theorem State.setForce_pending (v : Fin 8) (k : ForceChannel) : (s.setForce v k).pending = s.pending := rfl
@[simp] theorem State.setForce_choices (v : Fin 8) (k : ForceChannel) : (s.setForce v k).choices = s.choices := rfl
@[simp] theorem State.setForce_circuit (v : Fin 8) (k : ForceChannel) (x : Fin 96) : (s.setForce v k).circuit x = s.circuit x := rfl
@[simp] theorem State.setForce_filter (v : Fin 8) (k : ForceChannel) (x : Fin 96) : (s.setForce v k).filter x = s.filter x := rfl
@[simp] theorem State.setForce_group (v : Fin 8) (k : ForceChannel) (x : Fin 8) : (s.setForce v k).group x = s.group x := rfl
@[simp] theorem State.setForce_unit (v : Fin 8) (k : ForceChannel) (x : Fin 16) : (s.setForce v k).unit x = s.unit x := rfl
@[simp] theorem State.setForce_watch (v : Fin 8) (k : ForceChannel) (x : Fin 8) : (s.setForce v k).watch x = s.watch x := rfl
@[simp] theorem State.setForce_force_self (v : Fin 8) (k : ForceChannel) : (s.setForce v k).force v = k := by
  simp [State.setForce, State.force]
theorem State.setForce_force_ne (v : Fin 8) (k : ForceChannel) {x : Fin 8} (h : x ≠ v) : (s.setForce v k).force x = s.force x := by
  have h : ¬ v.val = x.val := fun e => h (Fin.ext e.symm)
  simp [State.setForce, State.force, h]
theorem State.setForce_force (v : Fin 8) (k : ForceChannel) (x : Fin 8) :
    (s.setForce v k).force x = if x = v then k else s.force x := by
  by_cases h : x = v
  · subst h; simp
  · simp [State.setForce_force_ne, h]
@[simp] theorem State.setForce_port (v : Fin 8) (k : ForceChannel) (p : Port) : (s.setForce v k).port p = s.port p := by cases p <;> rfl
@[simp] theorem State.setForce_slot (v : Fin 8) (k : ForceChannel) (id : SlotId) : (s.setForce v k).slot id = s.slot id := by
  simp [State.slot]

/-! ## `State.modPort` and `State.setSlot` -/

@[simp] theorem State.modPort_resetAsserted (p : Port) (f : PortRecord → PortRecord) : (s.modPort p f).resetAsserted = s.resetAsserted := by cases p <;> rfl
@[simp] theorem State.modPort_timeBase (p : Port) (f : PortRecord → PortRecord) : (s.modPort p f).timeBase = s.timeBase := by cases p <;> rfl
@[simp] theorem State.modPort_filters (p : Port) (f : PortRecord → PortRecord) : (s.modPort p f).filters = s.filters := by cases p <;> rfl
@[simp] theorem State.modPort_circuits (p : Port) (f : PortRecord → PortRecord) : (s.modPort p f).circuits = s.circuits := by cases p <;> rfl
@[simp] theorem State.modPort_groups (p : Port) (f : PortRecord → PortRecord) : (s.modPort p f).groups = s.groups := by cases p <;> rfl
@[simp] theorem State.modPort_units (p : Port) (f : PortRecord → PortRecord) : (s.modPort p f).units = s.units := by cases p <;> rfl
@[simp] theorem State.modPort_regQueue (p : Port) (f : PortRecord → PortRecord) : (s.modPort p f).regQueue = s.regQueue := by cases p <;> rfl
@[simp] theorem State.modPort_sndQueue (p : Port) (f : PortRecord → PortRecord) : (s.modPort p f).sndQueue = s.sndQueue := by cases p <;> rfl
@[simp] theorem State.modPort_parked (p : Port) (f : PortRecord → PortRecord) : (s.modPort p f).parked = s.parked := by cases p <;> rfl
@[simp] theorem State.modPort_watches (p : Port) (f : PortRecord → PortRecord) : (s.modPort p f).watches = s.watches := by cases p <;> rfl
@[simp] theorem State.modPort_forces (p : Port) (f : PortRecord → PortRecord) : (s.modPort p f).forces = s.forces := by cases p <;> rfl
@[simp] theorem State.modPort_pending (p : Port) (f : PortRecord → PortRecord) : (s.modPort p f).pending = s.pending := by cases p <;> rfl
@[simp] theorem State.modPort_choices (p : Port) (f : PortRecord → PortRecord) : (s.modPort p f).choices = s.choices := by cases p <;> rfl
@[simp] theorem State.modPort_circuit (p : Port) (f : PortRecord → PortRecord) (x : Fin 96) : (s.modPort p f).circuit x = s.circuit x := by
  simp [State.circuit]
@[simp] theorem State.modPort_filter (p : Port) (f : PortRecord → PortRecord) (x : Fin 96) : (s.modPort p f).filter x = s.filter x := by
  simp [State.filter]
@[simp] theorem State.modPort_group (p : Port) (f : PortRecord → PortRecord) (x : Fin 8) : (s.modPort p f).group x = s.group x := by
  simp [State.group]
@[simp] theorem State.modPort_unit (p : Port) (f : PortRecord → PortRecord) (x : Fin 16) : (s.modPort p f).unit x = s.unit x := by
  simp [State.unit]
@[simp] theorem State.modPort_watch (p : Port) (f : PortRecord → PortRecord) (x : Fin 8) : (s.modPort p f).watch x = s.watch x := by
  simp [State.watch]
@[simp] theorem State.modPort_force (p : Port) (f : PortRecord → PortRecord) (x : Fin 8) : (s.modPort p f).force x = s.force x := by
  simp [State.force]
@[simp] theorem State.setSlot_resetAsserted (id : SlotId) (k : Slot) : (s.setSlot id k).resetAsserted = s.resetAsserted := by
  simp [State.setSlot]
@[simp] theorem State.setSlot_timeBase (id : SlotId) (k : Slot) : (s.setSlot id k).timeBase = s.timeBase := by
  simp [State.setSlot]
@[simp] theorem State.setSlot_filters (id : SlotId) (k : Slot) : (s.setSlot id k).filters = s.filters := by
  simp [State.setSlot]
@[simp] theorem State.setSlot_circuits (id : SlotId) (k : Slot) : (s.setSlot id k).circuits = s.circuits := by
  simp [State.setSlot]
@[simp] theorem State.setSlot_groups (id : SlotId) (k : Slot) : (s.setSlot id k).groups = s.groups := by
  simp [State.setSlot]
@[simp] theorem State.setSlot_units (id : SlotId) (k : Slot) : (s.setSlot id k).units = s.units := by
  simp [State.setSlot]
@[simp] theorem State.setSlot_regQueue (id : SlotId) (k : Slot) : (s.setSlot id k).regQueue = s.regQueue := by
  simp [State.setSlot]
@[simp] theorem State.setSlot_sndQueue (id : SlotId) (k : Slot) : (s.setSlot id k).sndQueue = s.sndQueue := by
  simp [State.setSlot]
@[simp] theorem State.setSlot_parked (id : SlotId) (k : Slot) : (s.setSlot id k).parked = s.parked := by
  simp [State.setSlot]
@[simp] theorem State.setSlot_watches (id : SlotId) (k : Slot) : (s.setSlot id k).watches = s.watches := by
  simp [State.setSlot]
@[simp] theorem State.setSlot_forces (id : SlotId) (k : Slot) : (s.setSlot id k).forces = s.forces := by
  simp [State.setSlot]
@[simp] theorem State.setSlot_pending (id : SlotId) (k : Slot) : (s.setSlot id k).pending = s.pending := by
  simp [State.setSlot]
@[simp] theorem State.setSlot_choices (id : SlotId) (k : Slot) : (s.setSlot id k).choices = s.choices := by
  simp [State.setSlot]
@[simp] theorem State.setSlot_circuit (id : SlotId) (k : Slot) (x : Fin 96) : (s.setSlot id k).circuit x = s.circuit x := by
  simp [State.circuit]
@[simp] theorem State.setSlot_filter (id : SlotId) (k : Slot) (x : Fin 96) : (s.setSlot id k).filter x = s.filter x := by
  simp [State.filter]
@[simp] theorem State.setSlot_group (id : SlotId) (k : Slot) (x : Fin 8) : (s.setSlot id k).group x = s.group x := by
  simp [State.group]
@[simp] theorem State.setSlot_unit (id : SlotId) (k : Slot) (x : Fin 16) : (s.setSlot id k).unit x = s.unit x := by
  simp [State.unit]
@[simp] theorem State.setSlot_watch (id : SlotId) (k : Slot) (x : Fin 8) : (s.setSlot id k).watch x = s.watch x := by
  simp [State.watch]
@[simp] theorem State.setSlot_force (id : SlotId) (k : Slot) (x : Fin 8) : (s.setSlot id k).force x = s.force x := by
  simp [State.force]
@[simp] theorem State.modPort_port_self (p : Port) (f : PortRecord → PortRecord) :
    (s.modPort p f).port p = f (s.port p) := by cases p <;> rfl
theorem State.modPort_port_ne (p : Port) (f : PortRecord → PortRecord) {q : Port} (h : q ≠ p) :
    (s.modPort p f).port q = s.port q := by cases p <;> cases q <;> first | rfl | exact absurd rfl h
theorem State.modPort_port (p : Port) (f : PortRecord → PortRecord) (q : Port) :
    (s.modPort p f).port q = if q = p then f (s.port p) else s.port q := by
  by_cases h : q = p
  · subst h; simp
  · simp [State.modPort_port_ne, h]
@[simp] theorem State.modPort_port_other (p : Port) (f : PortRecord → PortRecord) :
    (s.modPort p f).port (otherPort p) = s.port (otherPort p) := by cases p <;> rfl
@[simp] theorem State.setSlot_slot_self (id : SlotId) (k : Slot) : (s.setSlot id k).slot id = k := by
  simp [State.setSlot, State.slot]
theorem State.setSlot_slot_ne (id : SlotId) (k : Slot) {x : SlotId} (h : x ≠ id) :
    (s.setSlot id k).slot x = s.slot x := by
  obtain ⟨p, n⟩ := id
  obtain ⟨q, m⟩ := x
  simp only [State.setSlot, State.slot]
  by_cases hp : q = p
  · subst hp
    have hn : ¬ n.val = m.val := fun e => h (by rw [Fin.ext e])
    simp [hn]
  · simp [State.modPort_port_ne, hp]
/-- Of a port, writing a slot changes its slots alone. -/
theorem State.setSlot_port (id : SlotId) (k : Slot) (p : Port) :
    (s.setSlot id k).port p =
      if p = id.port then { s.port p with slots := (s.port p).slots.set id.num k } else s.port p := by
  simp only [State.setSlot, State.modPort_port]
  split
  · next h => subst h; rfl
  · rfl
/-- Changing a port back to back is one change. -/
theorem State.modPort_modPort (p : Port) (f f' : PortRecord → PortRecord) :
    (s.modPort p f).modPort p f' = s.modPort p (fun r => f' (f r)) := by cases p <;> rfl
/-- Changing a circuit back to back is one change. -/
theorem State.modCircuit_modCircuit (c : Fin 96) (f f' : Circuit → Circuit) :
    (s.modCircuit c f).modCircuit c f' = s.modCircuit c (fun r => f' (f r)) := by
  simp [State.modCircuit, State.circuit]

/-! ## Frames compose -/

theorem LinesKept.refl : LinesKept s s := by simp [LinesKept]
theorem LinesKept.trans {s t u : State} (h : LinesKept s t) (k : LinesKept t u) : LinesKept s u := by
  simp_all [LinesKept]
theorem PoolKept.refl : PoolKept s s := by simp [PoolKept]
theorem PoolKept.trans {s t u : State} (h : PoolKept s t) (k : PoolKept t u) : PoolKept s u := by simp_all [PoolKept]
theorem PortsKept.refl : PortsKept s s := by simp [PortsKept]
theorem PortsKept.trans {s t u : State} (h : PortsKept s t) (k : PortsKept t u) : PortsKept s u := by
  simp_all [PortsKept]
theorem PortsKept.port {s t : State} (h : PortsKept s t) (p : Port) : t.port p = s.port p := by
  cases p
  · exact h.1
  · exact h.2
theorem PortStateKept.refl : PortStateKept s s := by simp [PortStateKept]
theorem PortStateKept.trans {s t u : State} (h : PortStateKept s t) (k : PortStateKept t u) : PortStateKept s u := by
  intro p
  have a := h p
  have b := k p
  simp_all
theorem PortsKept.portState {s t : State} (h : PortsKept s t) : PortStateKept s t := fun p => by simp [h.port p]

/-! ## Two states with the same records are the same -/

/-- Two states that agree on every record and every other field are equal. -/
theorem State.ext_records {s t : State} (rs : t.resetAsserted = s.resetAsserted) (tb : t.timeBase = s.timeBase) (fi : ∀ c, t.filter c = s.filter c)
    (ci : ∀ c, t.circuit c = s.circuit c) (gr : ∀ g, t.group g = s.group g) (un : ∀ u, t.unit u = s.unit u)
    (rq : t.regQueue = s.regQueue) (sq : t.sndQueue = s.sndQueue) (pk : t.parked = s.parked)
    (po : ∀ p, t.port p = s.port p) (wa : ∀ w, t.watch w = s.watch w) (fo : ∀ f, t.force f = s.force f)
    (pe : t.pending = s.pending) (ch : t.choices = s.choices) : t = s := by
  obtain ⟨⟩ := s
  obtain ⟨⟩ := t
  simp only [State.filter, State.circuit, State.group, State.unit, State.watch, State.force] at *
  have pa := po .A
  have pb := po .B
  simp only [State.port] at pa pb
  congr
  · exact Vector.ext fun i h => fi ⟨i, h⟩
  · exact Vector.ext fun i h => ci ⟨i, h⟩
  · exact Vector.ext fun i h => gr ⟨i, h⟩
  · exact Vector.ext fun i h => un ⟨i, h⟩
  · exact Vector.ext fun i h => wa ⟨i, h⟩
  · exact Vector.ext fun i h => fo ⟨i, h⟩

end Sys2Proof.Machine
end

