-- ==== Sys2Proof/Laws/Events.lean ====
section
/-! SUPPORT. What raising an event does (R153, R154): the ports it is routed to take it, and nothing else changes. -/

namespace Sys2Proof.Machine

variable (s : State)

/-! ## One port's part -/

/-- Joining the list is what `withEvent` says once the event is added to the pending set. -/
theorem PortRecord.join_setPend_add (r : PortRecord) (it : Item) (e : Event) :
    (r.setPend it ((r.pendOf it).add e)).join it = r.withEvent it e := by
  simp [PortRecord.join, PortRecord.setPend, PortRecord.pendOf, PortRecord.withEvent]

/-- The item is on the list after it joins, and every item that was on it still is. -/
theorem PortRecord.mem_join (r : PortRecord) (it x : Item) :
    x ∈ (r.join it).attention ↔ x ∈ r.attention ∨ x = it := by
  simp only [PortRecord.join]
  split
  · next h => exact ⟨.inl, fun h' => h'.elim id fun e => e ▸ by simpa using h⟩
  · simp

/-- Joining keeps a list without duplicates so. -/
theorem PortRecord.join_nodup (r : PortRecord) (it : Item) (h : r.attention.Nodup) : (r.join it).attention.Nodup := by
  simp only [PortRecord.join]
  split
  · exact h
  · next hn => exact List.Nodup.append h (by simp) (by simpa using hn)

/-- Leaving keeps a list without duplicates so. -/
theorem PortRecord.leave_nodup (r : PortRecord) (it : Item) (h : r.attention.Nodup) :
    (r.leave it).attention.Nodup := h.filter _

/-! ## `State.raiseWith`: one port, one item -/

/-- A port after a change of an item's pending set. -/
theorem State.raiseWith_port (p q : Port) (it : Item) (f : EventSet → EventSet) :
    (s.raiseWith p it f).port q =
      if q = p then ((s.port p).setPend it (f ((s.port p).pendOf it))).join it else s.port q := by
  simp [State.raiseWith, State.modPort_port]

/-- Whatever an event does to a port, the port state of R136 and the slots stay. -/
theorem State.raiseWith_kept (p q : Port) (it : Item) (f : EventSet → EventSet) :
    let t := s.raiseWith p it f
    (t.port q).enabled = (s.port q).enabled ∧ (t.port q).wsel = (s.port q).wsel ∧
      (t.port q).rsel = (s.port q).rsel ∧ (t.port q).handshake = (s.port q).handshake ∧
      (t.port q).assembly = (s.port q).assembly ∧ (t.port q).result = (s.port q).result ∧
      (t.port q).resultPos = (s.port q).resultPos ∧ (t.port q).report = (s.port q).report ∧
      (t.port q).slots = (s.port q).slots := by
  simp only [State.raiseWith_port, PortRecord.join, PortRecord.setPend]
  split
  · next h => subst h; simp
  · simp

/-- An event added at a port is `withEvent` there and nothing at the other. -/
theorem State.raiseAt_port (p q : Port) (it : Item) (e : Event) :
    (s.raiseAt p it e).port q = if q = p then (s.port p).withEvent it e else s.port q := by
  simp [State.raiseAt, State.raiseWith_port, PortRecord.join_setPend_add]

/-- An event raised for both ports. -/
theorem State.raiseBoth_port (q : Port) (it : Item) (e : Event) :
    (s.raiseBoth it e).port q = (s.port q).withEvent it e := by
  cases q <;> simp [State.raiseBoth, State.raiseAt_port]

/-- An event on a circuit goes to the ports its owner routes it to (R154). -/
theorem State.raiseCircuit_port (c : Fin 96) (q : Port) (e : Event) :
    (s.raiseCircuit c e).port q =
      if routedTo (s.circuit c).owner q then (s.port q).withEvent (.circuit c) e else s.port q := by
  unfold State.raiseCircuit routedTo
  cases h : (s.circuit c).owner with
  | none => simp [State.raiseBoth_port]
  | some p => cases p <;> cases q <;> simp [State.raiseAt_port]

/-- An event on a slot goes to the slot's own port (R154). -/
theorem State.raiseSlot_port (id : SlotId) (q : Port) (e : Event) :
    (s.raiseSlot id e).port q = if q = id.port then (s.port q).withEvent (.slot id.num) e else s.port q := by
  simp only [State.raiseSlot, State.raiseAt_port]
  split
  · next h => rw [h]
  · rfl

/-- An event on a group goes to both ports (R154). -/
theorem State.raiseGroup_port (g : Fin 8) (q : Port) (e : Event) :
    (s.raiseGroup g e).port q = (s.port q).withEvent (.group g) e := State.raiseBoth_port s q _ e

/-! ## Nothing but the ports changes -/

@[simp] theorem State.raiseWith_resetAsserted (p : Port) (it : Item) (f : EventSet → EventSet) : (s.raiseWith p it f).resetAsserted = s.resetAsserted := by simp [State.raiseWith]
@[simp] theorem State.raiseWith_timeBase (p : Port) (it : Item) (f : EventSet → EventSet) : (s.raiseWith p it f).timeBase = s.timeBase := by simp [State.raiseWith]
@[simp] theorem State.raiseWith_filters (p : Port) (it : Item) (f : EventSet → EventSet) : (s.raiseWith p it f).filters = s.filters := by simp [State.raiseWith]
@[simp] theorem State.raiseWith_circuits (p : Port) (it : Item) (f : EventSet → EventSet) : (s.raiseWith p it f).circuits = s.circuits := by simp [State.raiseWith]
@[simp] theorem State.raiseWith_groups (p : Port) (it : Item) (f : EventSet → EventSet) : (s.raiseWith p it f).groups = s.groups := by simp [State.raiseWith]
@[simp] theorem State.raiseWith_units (p : Port) (it : Item) (f : EventSet → EventSet) : (s.raiseWith p it f).units = s.units := by simp [State.raiseWith]
@[simp] theorem State.raiseWith_regQueue (p : Port) (it : Item) (f : EventSet → EventSet) : (s.raiseWith p it f).regQueue = s.regQueue := by simp [State.raiseWith]
@[simp] theorem State.raiseWith_sndQueue (p : Port) (it : Item) (f : EventSet → EventSet) : (s.raiseWith p it f).sndQueue = s.sndQueue := by simp [State.raiseWith]
@[simp] theorem State.raiseWith_parked (p : Port) (it : Item) (f : EventSet → EventSet) : (s.raiseWith p it f).parked = s.parked := by simp [State.raiseWith]
@[simp] theorem State.raiseWith_watches (p : Port) (it : Item) (f : EventSet → EventSet) : (s.raiseWith p it f).watches = s.watches := by simp [State.raiseWith]
@[simp] theorem State.raiseWith_forces (p : Port) (it : Item) (f : EventSet → EventSet) : (s.raiseWith p it f).forces = s.forces := by simp [State.raiseWith]
@[simp] theorem State.raiseWith_pending (p : Port) (it : Item) (f : EventSet → EventSet) : (s.raiseWith p it f).pending = s.pending := by simp [State.raiseWith]
@[simp] theorem State.raiseWith_choices (p : Port) (it : Item) (f : EventSet → EventSet) : (s.raiseWith p it f).choices = s.choices := by simp [State.raiseWith]
@[simp] theorem State.raiseWith_circuit (p : Port) (it : Item) (f : EventSet → EventSet) (x : Fin 96) : (s.raiseWith p it f).circuit x = s.circuit x := by
  simp [State.circuit]
@[simp] theorem State.raiseWith_filter (p : Port) (it : Item) (f : EventSet → EventSet) (x : Fin 96) : (s.raiseWith p it f).filter x = s.filter x := by
  simp [State.filter]
@[simp] theorem State.raiseWith_group (p : Port) (it : Item) (f : EventSet → EventSet) (x : Fin 8) : (s.raiseWith p it f).group x = s.group x := by
  simp [State.group]
@[simp] theorem State.raiseWith_unit (p : Port) (it : Item) (f : EventSet → EventSet) (x : Fin 16) : (s.raiseWith p it f).unit x = s.unit x := by
  simp [State.unit]
@[simp] theorem State.raiseWith_watch (p : Port) (it : Item) (f : EventSet → EventSet) (x : Fin 8) : (s.raiseWith p it f).watch x = s.watch x := by
  simp [State.watch]
@[simp] theorem State.raiseWith_force (p : Port) (it : Item) (f : EventSet → EventSet) (x : Fin 8) : (s.raiseWith p it f).force x = s.force x := by
  simp [State.force]

@[simp] theorem State.raiseAt_resetAsserted (p : Port) (it : Item) (e : Event) : (s.raiseAt p it e).resetAsserted = s.resetAsserted := by simp [State.raiseAt]
@[simp] theorem State.raiseAt_timeBase (p : Port) (it : Item) (e : Event) : (s.raiseAt p it e).timeBase = s.timeBase := by simp [State.raiseAt]
@[simp] theorem State.raiseAt_filters (p : Port) (it : Item) (e : Event) : (s.raiseAt p it e).filters = s.filters := by simp [State.raiseAt]
@[simp] theorem State.raiseAt_circuits (p : Port) (it : Item) (e : Event) : (s.raiseAt p it e).circuits = s.circuits := by simp [State.raiseAt]
@[simp] theorem State.raiseAt_groups (p : Port) (it : Item) (e : Event) : (s.raiseAt p it e).groups = s.groups := by simp [State.raiseAt]
@[simp] theorem State.raiseAt_units (p : Port) (it : Item) (e : Event) : (s.raiseAt p it e).units = s.units := by simp [State.raiseAt]
@[simp] theorem State.raiseAt_regQueue (p : Port) (it : Item) (e : Event) : (s.raiseAt p it e).regQueue = s.regQueue := by simp [State.raiseAt]
@[simp] theorem State.raiseAt_sndQueue (p : Port) (it : Item) (e : Event) : (s.raiseAt p it e).sndQueue = s.sndQueue := by simp [State.raiseAt]
@[simp] theorem State.raiseAt_parked (p : Port) (it : Item) (e : Event) : (s.raiseAt p it e).parked = s.parked := by simp [State.raiseAt]
@[simp] theorem State.raiseAt_watches (p : Port) (it : Item) (e : Event) : (s.raiseAt p it e).watches = s.watches := by simp [State.raiseAt]
@[simp] theorem State.raiseAt_forces (p : Port) (it : Item) (e : Event) : (s.raiseAt p it e).forces = s.forces := by simp [State.raiseAt]
@[simp] theorem State.raiseAt_pending (p : Port) (it : Item) (e : Event) : (s.raiseAt p it e).pending = s.pending := by simp [State.raiseAt]
@[simp] theorem State.raiseAt_choices (p : Port) (it : Item) (e : Event) : (s.raiseAt p it e).choices = s.choices := by simp [State.raiseAt]
@[simp] theorem State.raiseAt_circuit (p : Port) (it : Item) (e : Event) (x : Fin 96) : (s.raiseAt p it e).circuit x = s.circuit x := by
  simp [State.circuit]
@[simp] theorem State.raiseAt_filter (p : Port) (it : Item) (e : Event) (x : Fin 96) : (s.raiseAt p it e).filter x = s.filter x := by
  simp [State.filter]
@[simp] theorem State.raiseAt_group (p : Port) (it : Item) (e : Event) (x : Fin 8) : (s.raiseAt p it e).group x = s.group x := by
  simp [State.group]
@[simp] theorem State.raiseAt_unit (p : Port) (it : Item) (e : Event) (x : Fin 16) : (s.raiseAt p it e).unit x = s.unit x := by
  simp [State.unit]
@[simp] theorem State.raiseAt_watch (p : Port) (it : Item) (e : Event) (x : Fin 8) : (s.raiseAt p it e).watch x = s.watch x := by
  simp [State.watch]
@[simp] theorem State.raiseAt_force (p : Port) (it : Item) (e : Event) (x : Fin 8) : (s.raiseAt p it e).force x = s.force x := by
  simp [State.force]

@[simp] theorem State.raiseBoth_resetAsserted (it : Item) (e : Event) : (s.raiseBoth it e).resetAsserted = s.resetAsserted := by simp [State.raiseBoth]
@[simp] theorem State.raiseBoth_timeBase (it : Item) (e : Event) : (s.raiseBoth it e).timeBase = s.timeBase := by simp [State.raiseBoth]
@[simp] theorem State.raiseBoth_filters (it : Item) (e : Event) : (s.raiseBoth it e).filters = s.filters := by simp [State.raiseBoth]
@[simp] theorem State.raiseBoth_circuits (it : Item) (e : Event) : (s.raiseBoth it e).circuits = s.circuits := by simp [State.raiseBoth]
@[simp] theorem State.raiseBoth_groups (it : Item) (e : Event) : (s.raiseBoth it e).groups = s.groups := by simp [State.raiseBoth]
@[simp] theorem State.raiseBoth_units (it : Item) (e : Event) : (s.raiseBoth it e).units = s.units := by simp [State.raiseBoth]
@[simp] theorem State.raiseBoth_regQueue (it : Item) (e : Event) : (s.raiseBoth it e).regQueue = s.regQueue := by simp [State.raiseBoth]
@[simp] theorem State.raiseBoth_sndQueue (it : Item) (e : Event) : (s.raiseBoth it e).sndQueue = s.sndQueue := by simp [State.raiseBoth]
@[simp] theorem State.raiseBoth_parked (it : Item) (e : Event) : (s.raiseBoth it e).parked = s.parked := by simp [State.raiseBoth]
@[simp] theorem State.raiseBoth_watches (it : Item) (e : Event) : (s.raiseBoth it e).watches = s.watches := by simp [State.raiseBoth]
@[simp] theorem State.raiseBoth_forces (it : Item) (e : Event) : (s.raiseBoth it e).forces = s.forces := by simp [State.raiseBoth]
@[simp] theorem State.raiseBoth_pending (it : Item) (e : Event) : (s.raiseBoth it e).pending = s.pending := by simp [State.raiseBoth]
@[simp] theorem State.raiseBoth_choices (it : Item) (e : Event) : (s.raiseBoth it e).choices = s.choices := by simp [State.raiseBoth]
@[simp] theorem State.raiseBoth_circuit (it : Item) (e : Event) (x : Fin 96) : (s.raiseBoth it e).circuit x = s.circuit x := by
  simp [State.circuit]
@[simp] theorem State.raiseBoth_filter (it : Item) (e : Event) (x : Fin 96) : (s.raiseBoth it e).filter x = s.filter x := by
  simp [State.filter]
@[simp] theorem State.raiseBoth_group (it : Item) (e : Event) (x : Fin 8) : (s.raiseBoth it e).group x = s.group x := by
  simp [State.group]
@[simp] theorem State.raiseBoth_unit (it : Item) (e : Event) (x : Fin 16) : (s.raiseBoth it e).unit x = s.unit x := by
  simp [State.unit]
@[simp] theorem State.raiseBoth_watch (it : Item) (e : Event) (x : Fin 8) : (s.raiseBoth it e).watch x = s.watch x := by
  simp [State.watch]
@[simp] theorem State.raiseBoth_force (it : Item) (e : Event) (x : Fin 8) : (s.raiseBoth it e).force x = s.force x := by
  simp [State.force]

@[simp] theorem State.raiseCircuit_resetAsserted (c : Fin 96) (e : Event) : (s.raiseCircuit c e).resetAsserted = s.resetAsserted := by
  unfold State.raiseCircuit; split <;> simp
@[simp] theorem State.raiseCircuit_timeBase (c : Fin 96) (e : Event) : (s.raiseCircuit c e).timeBase = s.timeBase := by
  unfold State.raiseCircuit; split <;> simp
@[simp] theorem State.raiseCircuit_filters (c : Fin 96) (e : Event) : (s.raiseCircuit c e).filters = s.filters := by
  unfold State.raiseCircuit; split <;> simp
@[simp] theorem State.raiseCircuit_circuits (c : Fin 96) (e : Event) : (s.raiseCircuit c e).circuits = s.circuits := by
  unfold State.raiseCircuit; split <;> simp
@[simp] theorem State.raiseCircuit_groups (c : Fin 96) (e : Event) : (s.raiseCircuit c e).groups = s.groups := by
  unfold State.raiseCircuit; split <;> simp
@[simp] theorem State.raiseCircuit_units (c : Fin 96) (e : Event) : (s.raiseCircuit c e).units = s.units := by
  unfold State.raiseCircuit; split <;> simp
@[simp] theorem State.raiseCircuit_regQueue (c : Fin 96) (e : Event) : (s.raiseCircuit c e).regQueue = s.regQueue := by
  unfold State.raiseCircuit; split <;> simp
@[simp] theorem State.raiseCircuit_sndQueue (c : Fin 96) (e : Event) : (s.raiseCircuit c e).sndQueue = s.sndQueue := by
  unfold State.raiseCircuit; split <;> simp
@[simp] theorem State.raiseCircuit_parked (c : Fin 96) (e : Event) : (s.raiseCircuit c e).parked = s.parked := by
  unfold State.raiseCircuit; split <;> simp
@[simp] theorem State.raiseCircuit_watches (c : Fin 96) (e : Event) : (s.raiseCircuit c e).watches = s.watches := by
  unfold State.raiseCircuit; split <;> simp
@[simp] theorem State.raiseCircuit_forces (c : Fin 96) (e : Event) : (s.raiseCircuit c e).forces = s.forces := by
  unfold State.raiseCircuit; split <;> simp
@[simp] theorem State.raiseCircuit_pending (c : Fin 96) (e : Event) : (s.raiseCircuit c e).pending = s.pending := by
  unfold State.raiseCircuit; split <;> simp
@[simp] theorem State.raiseCircuit_choices (c : Fin 96) (e : Event) : (s.raiseCircuit c e).choices = s.choices := by
  unfold State.raiseCircuit; split <;> simp
@[simp] theorem State.raiseCircuit_circuit (c : Fin 96) (e : Event) (x : Fin 96) : (s.raiseCircuit c e).circuit x = s.circuit x := by
  simp [State.circuit]
@[simp] theorem State.raiseCircuit_filter (c : Fin 96) (e : Event) (x : Fin 96) : (s.raiseCircuit c e).filter x = s.filter x := by
  simp [State.filter]
@[simp] theorem State.raiseCircuit_group (c : Fin 96) (e : Event) (x : Fin 8) : (s.raiseCircuit c e).group x = s.group x := by
  simp [State.group]
@[simp] theorem State.raiseCircuit_unit (c : Fin 96) (e : Event) (x : Fin 16) : (s.raiseCircuit c e).unit x = s.unit x := by
  simp [State.unit]
@[simp] theorem State.raiseCircuit_watch (c : Fin 96) (e : Event) (x : Fin 8) : (s.raiseCircuit c e).watch x = s.watch x := by
  simp [State.watch]
@[simp] theorem State.raiseCircuit_force (c : Fin 96) (e : Event) (x : Fin 8) : (s.raiseCircuit c e).force x = s.force x := by
  simp [State.force]

@[simp] theorem State.raiseAnswered_resetAsserted (c : Fin 96) (n : Nat) : (s.raiseAnswered c n).resetAsserted = s.resetAsserted := by
  unfold State.raiseAnswered; split <;> simp
@[simp] theorem State.raiseAnswered_timeBase (c : Fin 96) (n : Nat) : (s.raiseAnswered c n).timeBase = s.timeBase := by
  unfold State.raiseAnswered; split <;> simp
@[simp] theorem State.raiseAnswered_filters (c : Fin 96) (n : Nat) : (s.raiseAnswered c n).filters = s.filters := by
  unfold State.raiseAnswered; split <;> simp
@[simp] theorem State.raiseAnswered_circuits (c : Fin 96) (n : Nat) : (s.raiseAnswered c n).circuits = s.circuits := by
  unfold State.raiseAnswered; split <;> simp
@[simp] theorem State.raiseAnswered_groups (c : Fin 96) (n : Nat) : (s.raiseAnswered c n).groups = s.groups := by
  unfold State.raiseAnswered; split <;> simp
@[simp] theorem State.raiseAnswered_units (c : Fin 96) (n : Nat) : (s.raiseAnswered c n).units = s.units := by
  unfold State.raiseAnswered; split <;> simp
@[simp] theorem State.raiseAnswered_regQueue (c : Fin 96) (n : Nat) : (s.raiseAnswered c n).regQueue = s.regQueue := by
  unfold State.raiseAnswered; split <;> simp
@[simp] theorem State.raiseAnswered_sndQueue (c : Fin 96) (n : Nat) : (s.raiseAnswered c n).sndQueue = s.sndQueue := by
  unfold State.raiseAnswered; split <;> simp
@[simp] theorem State.raiseAnswered_parked (c : Fin 96) (n : Nat) : (s.raiseAnswered c n).parked = s.parked := by
  unfold State.raiseAnswered; split <;> simp
@[simp] theorem State.raiseAnswered_watches (c : Fin 96) (n : Nat) : (s.raiseAnswered c n).watches = s.watches := by
  unfold State.raiseAnswered; split <;> simp
@[simp] theorem State.raiseAnswered_forces (c : Fin 96) (n : Nat) : (s.raiseAnswered c n).forces = s.forces := by
  unfold State.raiseAnswered; split <;> simp
@[simp] theorem State.raiseAnswered_pending (c : Fin 96) (n : Nat) : (s.raiseAnswered c n).pending = s.pending := by
  unfold State.raiseAnswered; split <;> simp
@[simp] theorem State.raiseAnswered_choices (c : Fin 96) (n : Nat) : (s.raiseAnswered c n).choices = s.choices := by
  unfold State.raiseAnswered; split <;> simp
@[simp] theorem State.raiseAnswered_circuit (c : Fin 96) (n : Nat) (x : Fin 96) : (s.raiseAnswered c n).circuit x = s.circuit x := by
  simp [State.circuit]
@[simp] theorem State.raiseAnswered_filter (c : Fin 96) (n : Nat) (x : Fin 96) : (s.raiseAnswered c n).filter x = s.filter x := by
  simp [State.filter]
@[simp] theorem State.raiseAnswered_group (c : Fin 96) (n : Nat) (x : Fin 8) : (s.raiseAnswered c n).group x = s.group x := by
  simp [State.group]
@[simp] theorem State.raiseAnswered_unit (c : Fin 96) (n : Nat) (x : Fin 16) : (s.raiseAnswered c n).unit x = s.unit x := by
  simp [State.unit]
@[simp] theorem State.raiseAnswered_watch (c : Fin 96) (n : Nat) (x : Fin 8) : (s.raiseAnswered c n).watch x = s.watch x := by
  simp [State.watch]
@[simp] theorem State.raiseAnswered_force (c : Fin 96) (n : Nat) (x : Fin 8) : (s.raiseAnswered c n).force x = s.force x := by
  simp [State.force]

@[simp] theorem State.raiseSlot_resetAsserted (id : SlotId) (e : Event) : (s.raiseSlot id e).resetAsserted = s.resetAsserted := by simp [State.raiseSlot]
@[simp] theorem State.raiseSlot_timeBase (id : SlotId) (e : Event) : (s.raiseSlot id e).timeBase = s.timeBase := by simp [State.raiseSlot]
@[simp] theorem State.raiseSlot_filters (id : SlotId) (e : Event) : (s.raiseSlot id e).filters = s.filters := by simp [State.raiseSlot]
@[simp] theorem State.raiseSlot_circuits (id : SlotId) (e : Event) : (s.raiseSlot id e).circuits = s.circuits := by simp [State.raiseSlot]
@[simp] theorem State.raiseSlot_groups (id : SlotId) (e : Event) : (s.raiseSlot id e).groups = s.groups := by simp [State.raiseSlot]
@[simp] theorem State.raiseSlot_units (id : SlotId) (e : Event) : (s.raiseSlot id e).units = s.units := by simp [State.raiseSlot]
@[simp] theorem State.raiseSlot_regQueue (id : SlotId) (e : Event) : (s.raiseSlot id e).regQueue = s.regQueue := by simp [State.raiseSlot]
@[simp] theorem State.raiseSlot_sndQueue (id : SlotId) (e : Event) : (s.raiseSlot id e).sndQueue = s.sndQueue := by simp [State.raiseSlot]
@[simp] theorem State.raiseSlot_parked (id : SlotId) (e : Event) : (s.raiseSlot id e).parked = s.parked := by simp [State.raiseSlot]
@[simp] theorem State.raiseSlot_watches (id : SlotId) (e : Event) : (s.raiseSlot id e).watches = s.watches := by simp [State.raiseSlot]
@[simp] theorem State.raiseSlot_forces (id : SlotId) (e : Event) : (s.raiseSlot id e).forces = s.forces := by simp [State.raiseSlot]
@[simp] theorem State.raiseSlot_pending (id : SlotId) (e : Event) : (s.raiseSlot id e).pending = s.pending := by simp [State.raiseSlot]
@[simp] theorem State.raiseSlot_choices (id : SlotId) (e : Event) : (s.raiseSlot id e).choices = s.choices := by simp [State.raiseSlot]
@[simp] theorem State.raiseSlot_circuit (id : SlotId) (e : Event) (x : Fin 96) : (s.raiseSlot id e).circuit x = s.circuit x := by
  simp [State.circuit]
@[simp] theorem State.raiseSlot_filter (id : SlotId) (e : Event) (x : Fin 96) : (s.raiseSlot id e).filter x = s.filter x := by
  simp [State.filter]
@[simp] theorem State.raiseSlot_group (id : SlotId) (e : Event) (x : Fin 8) : (s.raiseSlot id e).group x = s.group x := by
  simp [State.group]
@[simp] theorem State.raiseSlot_unit (id : SlotId) (e : Event) (x : Fin 16) : (s.raiseSlot id e).unit x = s.unit x := by
  simp [State.unit]
@[simp] theorem State.raiseSlot_watch (id : SlotId) (e : Event) (x : Fin 8) : (s.raiseSlot id e).watch x = s.watch x := by
  simp [State.watch]
@[simp] theorem State.raiseSlot_force (id : SlotId) (e : Event) (x : Fin 8) : (s.raiseSlot id e).force x = s.force x := by
  simp [State.force]

@[simp] theorem State.raiseGroup_resetAsserted (g : Fin 8) (e : Event) : (s.raiseGroup g e).resetAsserted = s.resetAsserted := by simp [State.raiseGroup]
@[simp] theorem State.raiseGroup_timeBase (g : Fin 8) (e : Event) : (s.raiseGroup g e).timeBase = s.timeBase := by simp [State.raiseGroup]
@[simp] theorem State.raiseGroup_filters (g : Fin 8) (e : Event) : (s.raiseGroup g e).filters = s.filters := by simp [State.raiseGroup]
@[simp] theorem State.raiseGroup_circuits (g : Fin 8) (e : Event) : (s.raiseGroup g e).circuits = s.circuits := by simp [State.raiseGroup]
@[simp] theorem State.raiseGroup_groups (g : Fin 8) (e : Event) : (s.raiseGroup g e).groups = s.groups := by simp [State.raiseGroup]
@[simp] theorem State.raiseGroup_units (g : Fin 8) (e : Event) : (s.raiseGroup g e).units = s.units := by simp [State.raiseGroup]
@[simp] theorem State.raiseGroup_regQueue (g : Fin 8) (e : Event) : (s.raiseGroup g e).regQueue = s.regQueue := by simp [State.raiseGroup]
@[simp] theorem State.raiseGroup_sndQueue (g : Fin 8) (e : Event) : (s.raiseGroup g e).sndQueue = s.sndQueue := by simp [State.raiseGroup]
@[simp] theorem State.raiseGroup_parked (g : Fin 8) (e : Event) : (s.raiseGroup g e).parked = s.parked := by simp [State.raiseGroup]
@[simp] theorem State.raiseGroup_watches (g : Fin 8) (e : Event) : (s.raiseGroup g e).watches = s.watches := by simp [State.raiseGroup]
@[simp] theorem State.raiseGroup_forces (g : Fin 8) (e : Event) : (s.raiseGroup g e).forces = s.forces := by simp [State.raiseGroup]
@[simp] theorem State.raiseGroup_pending (g : Fin 8) (e : Event) : (s.raiseGroup g e).pending = s.pending := by simp [State.raiseGroup]
@[simp] theorem State.raiseGroup_choices (g : Fin 8) (e : Event) : (s.raiseGroup g e).choices = s.choices := by simp [State.raiseGroup]
@[simp] theorem State.raiseGroup_circuit (g : Fin 8) (e : Event) (x : Fin 96) : (s.raiseGroup g e).circuit x = s.circuit x := by
  simp [State.circuit]
@[simp] theorem State.raiseGroup_filter (g : Fin 8) (e : Event) (x : Fin 96) : (s.raiseGroup g e).filter x = s.filter x := by
  simp [State.filter]
@[simp] theorem State.raiseGroup_group (g : Fin 8) (e : Event) (x : Fin 8) : (s.raiseGroup g e).group x = s.group x := by
  simp [State.group]
@[simp] theorem State.raiseGroup_unit (g : Fin 8) (e : Event) (x : Fin 16) : (s.raiseGroup g e).unit x = s.unit x := by
  simp [State.unit]
@[simp] theorem State.raiseGroup_watch (g : Fin 8) (e : Event) (x : Fin 8) : (s.raiseGroup g e).watch x = s.watch x := by
  simp [State.watch]
@[simp] theorem State.raiseGroup_force (g : Fin 8) (e : Event) (x : Fin 8) : (s.raiseGroup g e).force x = s.force x := by
  simp [State.force]

@[simp] theorem State.raiseMatched_resetAsserted (w : Fin 8) (dest : ReportTo) : (s.raiseMatched w dest).resetAsserted = s.resetAsserted := by
  unfold State.raiseMatched; split <;> simp
@[simp] theorem State.raiseMatched_timeBase (w : Fin 8) (dest : ReportTo) : (s.raiseMatched w dest).timeBase = s.timeBase := by
  unfold State.raiseMatched; split <;> simp
@[simp] theorem State.raiseMatched_filters (w : Fin 8) (dest : ReportTo) : (s.raiseMatched w dest).filters = s.filters := by
  unfold State.raiseMatched; split <;> simp
@[simp] theorem State.raiseMatched_circuits (w : Fin 8) (dest : ReportTo) : (s.raiseMatched w dest).circuits = s.circuits := by
  unfold State.raiseMatched; split <;> simp
@[simp] theorem State.raiseMatched_groups (w : Fin 8) (dest : ReportTo) : (s.raiseMatched w dest).groups = s.groups := by
  unfold State.raiseMatched; split <;> simp
@[simp] theorem State.raiseMatched_units (w : Fin 8) (dest : ReportTo) : (s.raiseMatched w dest).units = s.units := by
  unfold State.raiseMatched; split <;> simp
@[simp] theorem State.raiseMatched_regQueue (w : Fin 8) (dest : ReportTo) : (s.raiseMatched w dest).regQueue = s.regQueue := by
  unfold State.raiseMatched; split <;> simp
@[simp] theorem State.raiseMatched_sndQueue (w : Fin 8) (dest : ReportTo) : (s.raiseMatched w dest).sndQueue = s.sndQueue := by
  unfold State.raiseMatched; split <;> simp
@[simp] theorem State.raiseMatched_parked (w : Fin 8) (dest : ReportTo) : (s.raiseMatched w dest).parked = s.parked := by
  unfold State.raiseMatched; split <;> simp
@[simp] theorem State.raiseMatched_watches (w : Fin 8) (dest : ReportTo) : (s.raiseMatched w dest).watches = s.watches := by
  unfold State.raiseMatched; split <;> simp
@[simp] theorem State.raiseMatched_forces (w : Fin 8) (dest : ReportTo) : (s.raiseMatched w dest).forces = s.forces := by
  unfold State.raiseMatched; split <;> simp
@[simp] theorem State.raiseMatched_pending (w : Fin 8) (dest : ReportTo) : (s.raiseMatched w dest).pending = s.pending := by
  unfold State.raiseMatched; split <;> simp
@[simp] theorem State.raiseMatched_choices (w : Fin 8) (dest : ReportTo) : (s.raiseMatched w dest).choices = s.choices := by
  unfold State.raiseMatched; split <;> simp
@[simp] theorem State.raiseMatched_circuit (w : Fin 8) (dest : ReportTo) (x : Fin 96) : (s.raiseMatched w dest).circuit x = s.circuit x := by
  simp [State.circuit]
@[simp] theorem State.raiseMatched_filter (w : Fin 8) (dest : ReportTo) (x : Fin 96) : (s.raiseMatched w dest).filter x = s.filter x := by
  simp [State.filter]
@[simp] theorem State.raiseMatched_group (w : Fin 8) (dest : ReportTo) (x : Fin 8) : (s.raiseMatched w dest).group x = s.group x := by
  simp [State.group]
@[simp] theorem State.raiseMatched_unit (w : Fin 8) (dest : ReportTo) (x : Fin 16) : (s.raiseMatched w dest).unit x = s.unit x := by
  simp [State.unit]
@[simp] theorem State.raiseMatched_watch (w : Fin 8) (dest : ReportTo) (x : Fin 8) : (s.raiseMatched w dest).watch x = s.watch x := by
  simp [State.watch]
@[simp] theorem State.raiseMatched_force (w : Fin 8) (dest : ReportTo) (x : Fin 8) : (s.raiseMatched w dest).force x = s.force x := by
  simp [State.force]

end Sys2Proof.Machine
end

