-- ==== Sys2Proof/Laws/Units.lean ====
section
/-! SUPPORT. What the shared operations of the Digit Unit Pool and of the circuits do: each one's result on the records it
changes, and its frame. -/

namespace Sys2Proof.Machine

variable (s : State)

/-! ## Frames of the pool -/

/-- Of everything, only one circuit, one unit, the unit request queue and the parked list may differ: what the pool's
operations on a circuit and its unit leave alone. -/
def OnlyPair (c : Fin 96) (u : Fin 16) (s t : State) : Prop :=
  CircuitsKept [c] s t ∧ UnitsKept [u] s t ∧ t.groups = s.groups ∧ PortsKept s t ∧ LinesKept s t

theorem OnlyPair.trans {c : Fin 96} {u : Fin 16} {s t v : State} (h : OnlyPair c u s t) (k : OnlyPair c u t v) :
    OnlyPair c u s v :=
  ⟨fun d hd => (k.1 d hd).trans (h.1 d hd), fun w hw => (k.2.1 w hw).trans (h.2.1 w hw), k.2.2.1.trans h.2.2.1,
    h.2.2.2.1.trans k.2.2.2.1, h.2.2.2.2.trans k.2.2.2.2⟩

/-- A change of one circuit. -/
theorem OnlyPair.modCircuit (c : Fin 96) (u : Fin 16) (f : Circuit → Circuit) : OnlyPair c u s (s.modCircuit c f) :=
  ⟨fun d hd => State.modCircuit_circuit_ne s c f (by simpa using hd), fun _ _ => rfl, rfl, ⟨rfl, rfl⟩,
    LinesKept.refl s⟩

/-- A change of one unit. -/
theorem OnlyPair.modUnit (c : Fin 96) (u : Fin 16) (f : DigitUnit → DigitUnit) : OnlyPair c u s (s.modUnit u f) :=
  ⟨fun _ _ => rfl, fun v hv => State.modUnit_unit_ne s u f (by simpa using hv), rfl, ⟨rfl, rfl⟩, LinesKept.refl s⟩

/-- A change of the queues and the parked list. -/
theorem OnlyPair.lists (c : Fin 96) (u : Fin 16) (rq sq : List QueueEntry) (pk : List (Fin 16)) :
    OnlyPair c u s { s with regQueue := rq, sndQueue := sq, parked := pk } :=
  ⟨fun _ _ => rfl, fun _ _ => rfl, rfl, ⟨rfl, rfl⟩, LinesKept.refl s⟩

theorem OnlyPair.refl (c : Fin 96) (u : Fin 16) : OnlyPair c u s s := OnlyPair.lists s c u _ _ _

/-! ## The send lead and the timer -/

/-- Giving a lead a condition changes its circuit's `sup` and, from ON to OFF, the instant held with it (R8, R84). -/
theorem State.drive_circuit (c : Fin 96) (cond : Cond) (x : Fin 96) :
    (s.drive c cond).circuit x =
      if x = c then
        { s.circuit c with
          sup := cond
          lastOff := if (s.circuit c).sup = .on ∧ cond = .off then some { start := s.timeBase, value := s.par c .sep }
            else (s.circuit c).lastOff }
      else s.circuit x := by
  simp [State.drive, State.modCircuit_circuit]

theorem State.drive_frame (c : Fin 96) (u : Fin 16) (cond : Cond) : OnlyPair c u s (s.drive c cond) :=
  OnlyPair.modCircuit s c u _

/-- Starting the timer changes the timer alone. -/
theorem State.startTimer_circuit (c : Fin 96) (n : Nat) (x : Fin 96) :
    (s.startTimer c n).circuit x =
      if x = c then { s.circuit c with timer := some { start := s.timeBase, value := n } } else s.circuit x := by
  simp [State.startTimer, State.modCircuit_circuit]

theorem State.startTimer_frame (c : Fin 96) (u : Fin 16) (n : Nat) : OnlyPair c u s (s.startTimer c n) :=
  OnlyPair.modCircuit s c u _

/-! ## Senders beginning a digit (R117) -/

/-- Beginning a digit changes its unit alone. -/
theorem beginDigit_frame (u : Fin 16) (c : Fin 96) : OnlyPair c u s (beginDigit u c s) := by
  unfold beginDigit
  split
  · exact OnlyPair.modUnit s c u _
  · exact OnlyPair.refl s c u

/-- Deciding the start instant changes its unit alone. -/
theorem decideStart_frame (u : Fin 16) (c : Fin 96) : OnlyPair c u s (decideStart u c s) := by
  unfold decideStart
  simp only
  split
  · exact beginDigit_frame s u c
  · exact OnlyPair.modUnit s c u _

/-! ## Attachment and detachment (R104, R109) -/

/-- The acknowledgement changes its circuit alone. -/
theorem acknowledge_frame (c : Fin 96) (u : Fin 16) : OnlyPair c u s (acknowledge c s) := by
  unfold acknowledge
  simp only
  split
  · exact OnlyPair.modCircuit s c u _
  · exact (OnlyPair.modCircuit s c u _).trans (State.drive_frame _ c u _)

/-- What an attached sender does changes its unit alone. -/
theorem attachSender_frame (u : Fin 16) (c : Fin 96) : OnlyPair c u s (attachSender u c s) := by
  unfold attachSender
  simp only
  split
  · exact (OnlyPair.modUnit s c u _).trans (decideStart_frame _ u c)
  · exact OnlyPair.modUnit s c u _

/-- What an attached register does changes its unit and its circuit alone. -/
theorem attachRegister_frame (u : Fin 16) (c : Fin 96) : OnlyPair c u s (attachRegister u c s) := by
  unfold attachRegister
  simp only
  split
  · exact (OnlyPair.modUnit s c u _).trans ((OnlyPair.modCircuit _ c u _).trans (acknowledge_frame _ c u))
  · exact (OnlyPair.modUnit s c u _).trans ((OnlyPair.modCircuit _ c u _).trans (State.startTimer_frame _ c u _))

/-- An attachment changes its circuit and its unit alone. -/
theorem attach_frame (u : Fin 16) (c : Fin 96) (cls : UnitClass) : OnlyPair c u s (attach u c cls s) := by
  have link := (OnlyPair.modUnit s c u fun k => { k with circuit := some c, attachTime := s.timeBase }).trans
    (OnlyPair.modCircuit _ c u fun k => { k with unit := some u, unitReq := none })
  cases cls with
  | sender => exact link.trans (attachSender_frame _ u c)
  | register => exact link.trans (attachRegister_frame _ u c)

/-- Unlinking a unit gives its record the values of R103, takes its circuit's unit away, and takes it off the parked
list. -/
theorem unlinkUnit_spec (u : Fin 16) :
    (unlinkUnit u s).unit u = (s.unit u).detached ∧ (∀ v, v ≠ u → (unlinkUnit u s).unit v = s.unit v) ∧
      (∀ c, (unlinkUnit u s).circuit c =
        if (s.unit u).circuit = some c then { s.circuit c with unit := none } else s.circuit c) ∧
      (unlinkUnit u s).parked = s.parked.filter (fun v => v ≠ u) ∧ (unlinkUnit u s).regQueue = s.regQueue ∧
      (unlinkUnit u s).sndQueue = s.sndQueue ∧ (unlinkUnit u s).groups = s.groups ∧ PortsKept s (unlinkUnit u s) ∧
      LinesKept s (unlinkUnit u s) := by
  unfold unlinkUnit
  cases h : (s.unit u).circuit with
  | none =>
    refine ⟨by simp [State.unit, State.modUnit], fun v hv => ?_, fun c => by simp [State.circuit, State.modUnit], rfl,
      rfl, rfl, rfl, ⟨rfl, rfl⟩, LinesKept.refl s⟩
    exact State.modUnit_unit_ne s u _ hv
  | some d =>
    refine ⟨by simp [State.unit, State.modUnit, State.modCircuit], fun v hv => ?_, fun c => ?_, rfl, rfl, rfl, rfl,
      ⟨rfl, rfl⟩, LinesKept.refl s⟩
    · exact State.modUnit_unit_ne (s.modCircuit d _) u _ hv
    · refine (State.modCircuit_circuit s d (fun k => { k with unit := none }) c).trans ?_
      by_cases hc : c = d
      · subst hc; simp
      · simp [hc, Ne.symm hc]

/-- A unit that becomes available serves the head of the queue or stays as it is (R107): with the queue empty nothing
happens, and otherwise the head entry's circuit and the unit are attached. -/
theorem becomeAvailable_cases (u : Fin 16) :
    (s.regQueue = [] ∧ s.sndQueue = [] ∧ becomeAvailable u s = s) ∨
      (∃ e rest, s.regQueue = e :: rest ∧
        becomeAvailable u s = attach u e.circuit .register { s with regQueue := rest }) ∨
      (∃ e rest, s.regQueue = [] ∧ s.sndQueue = e :: rest ∧
        becomeAvailable u s = attach u e.circuit .sender { s with sndQueue := rest }) := by
  unfold becomeAvailable
  cases hr : s.regQueue with
  | cons e rest => exact .inr (.inl ⟨e, rest, rfl, rfl⟩)
  | nil =>
    cases hs : s.sndQueue with
    | cons e rest => exact .inr (.inr ⟨e, rest, rfl, rfl, rfl⟩)
    | nil => exact .inl ⟨rfl, rfl, rfl⟩

/-- A detachment never changes the groups, the ports or the lines. -/
theorem detach_frame (u : Fin 16) :
    (detach u s).groups = s.groups ∧ PortsKept s (detach u s) ∧ LinesKept s (detach u s) := by
  obtain ⟨-, -, -, -, -, -, hg, hp, hl⟩ := unlinkUnit_spec s u
  unfold detach
  simp only
  split
  · exact ⟨hg, hp, hl⟩
  · obtain ⟨-, -, h⟩ | ⟨e, rest, -, h⟩ | ⟨e, rest, -, -, h⟩ := becomeAvailable_cases (unlinkUnit u s) u
    · rw [h]; exact ⟨hg, hp, hl⟩
    · obtain ⟨-, -, g, p, l⟩ := attach_frame { unlinkUnit u s with regQueue := rest } u e.circuit .register
      rw [h]; exact ⟨g.trans hg, hp.trans p, hl.trans l⟩
    · obtain ⟨-, -, g, p, l⟩ := attach_frame { unlinkUnit u s with sndQueue := rest } u e.circuit .sender
      rw [h]; exact ⟨g.trans hg, hp.trans p, hl.trans l⟩

/-- With both classes of the queue empty, a detachment unlinks the unit and does no more than take it out of service where
that was pending (R109). -/
theorem detach_of_empty (u : Fin 16) (hr : s.regQueue = []) (hs : s.sndQueue = []) :
    detach u s =
      if (s.unit u).pendingOos then
        (unlinkUnit u s).modUnit u fun k => { k with state := .outOfService, pendingOos := false }
      else unlinkUnit u s := by
  obtain ⟨-, -, -, -, hr', hs', -⟩ := unlinkUnit_spec s u
  unfold detach becomeAvailable
  simp only [hr', hs', hr, hs]

/-- Detaching a circuit's unit never changes the groups, the ports or the lines. -/
theorem detachFrom_frame (c : Fin 96) :
    (detachFrom c s).groups = s.groups ∧ PortsKept s (detachFrom c s) ∧ LinesKept s (detachFrom c s) := by
  unfold detachFrom
  split
  · exact detach_frame s _
  · exact ⟨rfl, ⟨rfl, rfl⟩, LinesKept.refl s⟩

/-! ## Requests (R105, R108) -/

/-- Withdrawing a request clears it in its circuit and takes the circuit's entries out of both classes. -/
theorem withdraw_spec (c : Fin 96) :
    (∀ x, (withdraw c s).circuit x = if x = c then { s.circuit c with unitReq := none } else s.circuit x) ∧
      (withdraw c s).regQueue = s.regQueue.filter (fun e => e.circuit ≠ c) ∧
      (withdraw c s).sndQueue = s.sndQueue.filter (fun e => e.circuit ≠ c) ∧ (withdraw c s).units = s.units ∧
      (withdraw c s).parked = s.parked ∧ (withdraw c s).groups = s.groups ∧ PortsKept s (withdraw c s) ∧
      LinesKept s (withdraw c s) :=
  ⟨fun x => State.modCircuit_circuit s c (fun k => { k with unitReq := none }) x, rfl, rfl, rfl, rfl, rfl, ⟨rfl, rfl⟩,
    LinesKept.refl s⟩

/-- A request is served by a FREE unit, else by the earliest parked sender, and otherwise joins the queue (R105). -/
theorem requestUnit_cases (c : Fin 96) (cls : UnitClass) :
    let s1 := s.modCircuit c fun k =>
      { k with unitReq := some { cls := cls, time := s.timeBase, wait := s.requestWait c cls } }
    (∃ u, s.freeUnit = some u ∧ requestUnit c cls s = attach u c cls s1) ∨
      (∃ u rest, s.freeUnit = none ∧ s.parked = u :: rest ∧
        requestUnit c cls s = attach u c cls (unlinkUnit u s1)) ∨
      (s.freeUnit = none ∧ s.parked = [] ∧ requestUnit c cls s = enqueue c cls s1) := by
  have hf : ∀ f, (s.modCircuit c f).freeUnit = s.freeUnit := fun _ => rfl
  unfold requestUnit
  simp only [hf, State.modCircuit_parked]
  cases h : s.freeUnit with
  | some u => exact .inl ⟨u, rfl, rfl⟩
  | none =>
    cases hp : s.parked with
    | cons u rest => exact .inr (.inl ⟨u, rest, rfl, rfl, rfl⟩)
    | nil => exact .inr (.inr ⟨rfl, rfl, rfl⟩)

/-- A request never changes the groups, the ports or the lines. -/
theorem requestUnit_frame (c : Fin 96) (cls : UnitClass) :
    (requestUnit c cls s).groups = s.groups ∧ PortsKept s (requestUnit c cls s) ∧
      LinesKept s (requestUnit c cls s) := by
  obtain ⟨u, -, h⟩ | ⟨u, rest, -, -, h⟩ | ⟨-, -, h⟩ := requestUnit_cases s c cls
  · obtain ⟨-, -, g, p, l⟩ := attach_frame (s.modCircuit c fun k =>
      { k with unitReq := some { cls := cls, time := s.timeBase, wait := s.requestWait c cls } }) u c cls
    rw [h]; exact ⟨g, p, l⟩
  · obtain ⟨-, -, -, -, -, -, g', p', l'⟩ := unlinkUnit_spec (s.modCircuit c fun k =>
      { k with unitReq := some { cls := cls, time := s.timeBase, wait := s.requestWait c cls } }) u
    obtain ⟨-, -, g, p, l⟩ := attach_frame (unlinkUnit u (s.modCircuit c fun k =>
      { k with unitReq := some { cls := cls, time := s.timeBase, wait := s.requestWait c cls } })) u c cls
    rw [h]; exact ⟨g.trans g', PortsKept.trans p' p, LinesKept.trans l' l⟩
  · rw [h]; cases cls <;> exact ⟨rfl, ⟨rfl, rfl⟩, LinesKept.refl s⟩

/-! ## The lowest FREE unit -/

/-- The lowest FREE unit is FREE and every lower one is not. -/
theorem State.freeUnit_some {u : Fin 16} (h : s.freeUnit = some u) :
    (s.unit u).state = .free ∧ ∀ v, v < u → (s.unit v).state ≠ .free := by
  refine ⟨by simpa using List.find?_some h, fun v hv hfree => ?_⟩
  obtain ⟨-, as, bs, hl, hn⟩ := List.find?_eq_some_iff_append.mp h
  have sorted : (as ++ u :: bs).Pairwise (· < ·) := hl ▸ by decide
  have hmem : v ∈ as ++ u :: bs := hl ▸ List.mem_finRange v
  rcases List.mem_append.mp hmem with hv' | hv'
  · simpa [hfree] using hn v hv'
  · rcases List.mem_cons.mp hv' with rfl | hb
    · exact absurd hv (lt_irrefl _)
    · have := (List.pairwise_cons.mp (List.pairwise_append.mp sorted).2.1).1 v hb
      exact absurd hv (lt_asymm this)

/-- There is no FREE unit exactly when every unit is in another state. -/
theorem State.freeUnit_none : s.freeUnit = none ↔ ∀ u, (s.unit u).state ≠ .free := by
  simp [State.freeUnit, allSixteen, List.find?_eq_none]

/-! ## Slots and lists -/

/-- Leaving the idle list changes the circuit's group alone, and only its idle list. -/
theorem leaveIdleList_group (c : Fin 96) (g : Fin 8) :
    (leaveIdleList c s).group g =
      if (s.circuit c).group = some g then
        { s.group g with idle := (s.group g).idle.filter fun d => d ≠ c }
      else s.group g := by
  unfold leaveIdleList
  cases h : (s.circuit c).group with
  | none => simp
  | some g' =>
    simp only [State.modGroup_group, Option.some.injEq]
    by_cases hg : g = g'
    · subst hg; simp
    · simp [hg, Ne.symm hg]

/-- Leaving the queue takes a slot out of one group's wait queue and changes nothing else. -/
theorem leaveQueue_group (g x : Fin 8) (id : SlotId) :
    (leaveQueue g id s).group x =
      if x = g then { s.group g with queue := (s.group g).queue.filter fun y => y ≠ id } else s.group x := by
  simp [leaveQueue, State.modGroup_group]

/-- Breaking a circuit's slot link (R31): the circuit's slot becomes none, and of the ports only that slot can change. -/
theorem breakLink_spec (c : Fin 96) :
    (∀ x, (breakLink c s).circuit x = if x = c then { s.circuit c with slot := none } else s.circuit x) ∧
      (breakLink c s).groups = s.groups ∧ PoolKept s (breakLink c s) ∧ LinesKept s (breakLink c s) := by
  unfold breakLink
  cases h : (s.circuit c).slot with
  | none =>
    refine ⟨fun x => ?_, rfl, ⟨rfl, rfl, rfl, rfl⟩, LinesKept.refl s⟩
    have keep : s.circuit c = { s.circuit c with slot := none } := congrArg (fun v => { s.circuit c with slot := v }) h
    by_cases hx : x = c
    · subst hx; simpa using keep
    · rw [if_neg hx]
  | some id =>
    simp only
    split
    · split
      · exact ⟨fun x => by simp [State.modCircuit_circuit], by simp, by simp [PoolKept], by simp [LinesKept]⟩
      · exact ⟨fun x => by simp [State.modCircuit_circuit], by simp, by simp [PoolKept], by simp [LinesKept]⟩
    all_goals exact ⟨fun x => by simp [State.modCircuit_circuit], by simp, by simp [PoolKept], by simp [LinesKept]⟩

end Sys2Proof.Machine
end

