-- ==== Sys2Proof/Laws/Calls.lean ====
section
/-! SUPPORT. What the entries of the supervision machine do: to the seizing states, to BLOCKED and IDLE, and the
clear-forward; each one's cases or its circuit, and its frame. -/

namespace Sys2Proof.Machine

variable (s : State)

/-! ## Entries (R19, R27, R41, R66, R167) -/

/-- Entering OUT_SEIZING requests a sender exactly when the call has a digit (R41); the rest of the entry changes the
circuit alone. -/
theorem enterOutSeizing_cases (c : Fin 96) (id : SlotId) (digits : List (Fin 10)) (eon : Bool) :
    ∃ s1 : State, (enterOutSeizing c id digits eon s = if digits = [] then s1 else requestUnit c .sender s1) ∧
      OnlyCircuit c s s1 ∧ PortsKept s s1 ∧
      let r := s1.circuit c
      r.state = .outSeizing ∧ r.digits = digits ∧ r.eon = eon ∧ r.owner = some id.port ∧ r.slot = some id ∧
        r.seizeTime = s.timeBase ∧ r.sup = .on ∧ r.sent = 0 := by
  unfold enterOutSeizing
  simp only [List.isEmpty_iff]
  refine ⟨_, rfl, ⟨fun d hd => ?_, rfl, by simp [PoolKept, State.drive], by simp [LinesKept, State.drive]⟩,
    by simp [PortsKept, State.drive], ?_⟩
  · have hd : d ≠ c := by simpa using hd
    simp [State.drive_circuit, State.modCircuit_circuit, hd]
  · simp [State.drive_circuit, Circuit.startCall]

/-- Entering OUT_SEIZING never changes the groups, the ports or the lines. -/
theorem enterOutSeizing_frame (c : Fin 96) (id : SlotId) (digits : List (Fin 10)) (eon : Bool) :
    (enterOutSeizing c id digits eon s).groups = s.groups ∧ PortsKept s (enterOutSeizing c id digits eon s) ∧
      LinesKept s (enterOutSeizing c id digits eon s) := by
  obtain ⟨s1, h, ⟨-, g, -, l⟩, p, -⟩ := enterOutSeizing_cases s c id digits eon
  rw [h]
  split
  · exact ⟨g, p, l⟩
  · obtain ⟨g', p', l'⟩ := requestUnit_frame s1 c .sender
    exact ⟨g'.trans g, p.trans p', l.trans l'⟩

/-- Entering BLOCKED changes the circuit alone (R167). -/
theorem enterBlocked_circuit (c x : Fin 96) :
    (enterBlocked c s).circuit x =
      if x = c then
        { s.circuit c with
          state := .blocked, sup := .off
          timer := if s.leadOn c then some { start := s.timeBase, value := s.par c .szRec } else none
          lastOff := if (s.circuit c).sup = .on then some { start := s.timeBase, value := s.par c .sep }
            else (s.circuit c).lastOff }
      else s.circuit x := by
  unfold enterBlocked
  simp only [State.drive_circuit, State.modCircuit_circuit]
  by_cases h : x = c
  · subst h; simp [State.par]
  · simp [h]

theorem enterBlocked_frame (c : Fin 96) (u : Fin 16) : OnlyPair c u s (enterBlocked c s) :=
  (OnlyPair.modCircuit s c u _).trans (State.drive_frame _ c u _)

/-- Where a circuit that becomes idle goes (R27): nowhere in no group, to BLOCKED, to the head slot of the queue, or to the
idle list. -/
theorem becomesIdle_cases (c : Fin 96) :
    ((s.circuit c).group = none ∧ becomesIdle c s = s) ∨
      ∃ g, (s.circuit c).group = some g ∧
        (((s.circuit c).blockPending = true ∧
            becomesIdle c s = enterBlocked c (s.modCircuit c fun k => { k with blockPending := false })) ∨
          ((s.circuit c).blockPending = false ∧
            ((∃ id rest call digits eon expiry, (s.group g).queue = id :: rest ∧
                s.slot id = .waiting call digits eon expiry ∧
                becomesIdle c s = serveWaiting c g id call digits eon s) ∨
              becomesIdle c s = enterIdle c g s))) := by
  unfold becomesIdle
  cases hg : (s.circuit c).group with
  | none => exact .inl ⟨rfl, rfl⟩
  | some g =>
    refine .inr ⟨g, rfl, ?_⟩
    cases hb : (s.circuit c).blockPending with
    | true => exact .inl ⟨rfl, by simp⟩
    | false =>
      refine .inr ⟨rfl, ?_⟩
      cases hq : (s.group g).queue with
      | nil => exact .inr (by simp [hq])
      | cons id rest =>
        cases hs : s.slot id with
        | waiting call digits eon expiry => exact .inl ⟨id, rest, call, digits, eon, expiry, rfl, hs, by simp [hq, hs]⟩
        | free => exact .inr (by simp [hq, hs])
        | seizing call d => exact .inr (by simp [hq, hs])
        | outcome call r => exact .inr (by simp [hq, hs])

/-! ## The clear-forward (R57 to R59) -/

/-- The circuit's own part of a clear-forward: it enters OUT_RELEASING with its owner kept; the lead is held while
min_seize runs from OUT_SEIZING, and otherwise goes OFF as guard_wait starts. -/
theorem releaseForward_spec (c : Fin 96) :
    let r := (releaseForward c s).circuit c
    let k := s.circuit c
    r.state = .outReleasing ∧ r.relTime = some s.timeBase ∧ r.owner = k.owner ∧ r.unit = k.unit ∧
      r.unitReq = k.unitReq ∧ r.slot = k.slot ∧ r.digits = k.digits ∧ r.sent = k.sent ∧ r.eon = k.eon ∧
      r.cause = k.cause ∧
      if k.state = .outSeizing ∧ elapsed s.timeBase k.seizeTime < k.minSeize then
        r.sup = k.sup ∧ r.timer = some { start := k.seizeTime, value := k.minSeize }
      else r.sup = .off ∧ r.timer = some { start := s.timeBase, value := s.par c .guardWait } := by
  unfold releaseForward
  simp only
  split
  · simp
  · simp [State.startTimer_circuit, State.par, State.drive]

/-- A clear-forward's own part changes its circuit alone. -/
theorem releaseForward_frame (c : Fin 96) (u : Fin 16) : OnlyPair c u s (releaseForward c s) := by
  unfold releaseForward
  simp only
  split
  · exact (OnlyPair.modCircuit s c u _).trans (OnlyPair.modCircuit _ c u _)
  · exact (OnlyPair.modCircuit s c u _).trans ((State.drive_frame _ c u _).trans (State.startTimer_frame _ c u _))

/-- A clear-forward never changes the groups or the lines. -/
theorem clearForward_frame (c : Fin 96) :
    (clearForward c s).groups = s.groups ∧ LinesKept s (clearForward c s) := by
  obtain ⟨g1, -, l1⟩ := detachFrom_frame s c
  obtain ⟨-, -, -, -, -, g2, -, l2⟩ := withdraw_spec (detachFrom c s) c
  obtain ⟨-, g3, -, l3⟩ := breakLink_spec (withdraw c (detachFrom c s)) c
  obtain ⟨-, -, g4, -, l4⟩ := releaseForward_frame (breakLink c (withdraw c (detachFrom c s))) c 0
  exact ⟨g4.trans (g3.trans (g2.trans g1)), l1.trans (l2.trans (l3.trans l4))⟩

/-! ## Offers (R29) -/

/-- An offer moves next_port in an ALTERNATE group, puts the circuit in IN_SEIZED with its owner, raises offered, and
requests a register exactly when there is an owner. -/
theorem offerCall_cases (c : Fin 96) (g : Fin 8) (h : (s.circuit c).group = some g) :
    ∃ s1 : State, GroupsKept [g] s s1 ∧
      s1.group g =
        { s.group g with
          nextPort := if (s.group g).distribution = .alternate then otherPort (s.group g).nextPort
            else (s.group g).nextPort } ∧
      (∀ x, s1.circuit x =
        if x = c then { s.circuit c with state := .inSeized, timer := none
                                         owner := s.offerOwner (s.group g).offerPort }
        else s.circuit x) ∧ PoolKept s s1 ∧ LinesKept s s1 ∧
      (∀ p, s1.port p =
        if routedTo (s.offerOwner (s.group g).offerPort) p then (s.port p).withEvent (.circuit c) .offered
        else s.port p) ∧
      offerCall c s = if (s.offerOwner (s.group g).offerPort).isSome then requestUnit c .register s1 else s1 := by
  have kept : ∀ d : Distribution, (s.group g).distribution = d → s.group g = { s.group g with distribution := d } :=
    fun d e => by subst e; rfl
  unfold offerCall
  simp only [h]
  cases hd : (s.group g).distribution with
  | alternate =>
    refine ⟨_, fun x hx => ?_, ?_, fun x => ?_, ?_, ?_, fun p => ?_, rfl⟩
    · have hx : x ≠ g := by simpa using hx
      simp [State.modGroup_group_ne, hx]
    · refine (congrArg (fun k : Group => { k with nextPort := otherPort k.nextPort }) (kept _ hd)).symm.trans ?_ |>.symm
      simp
    · simp [State.modCircuit_circuit, h]
    · simp [PoolKept]
    · simp [LinesKept]
    · simp [State.raiseCircuit_port]
  | fixedA | fixedB =>
    refine ⟨_, fun x hx => ?_, ?_, fun x => ?_, ?_, ?_, fun p => ?_, rfl⟩
    · simp
    · simpa using kept _ hd
    · simp [State.modCircuit_circuit, h]
    · simp [PoolKept]
    · simp [LinesKept]
    · simp [State.raiseCircuit_port]

end Sys2Proof.Machine
end

