-- ==== Sys2Proof/Laws/Orders.lean ====
section
/-! SUPPORT. How commands run: the commands that name a number, the working of a port around an order, and the abandonment
of a report read. -/

namespace Sys2Proof.Machine

variable (s : State)

/-! ## Commands that name a number -/

/-- With RESET not asserted a command acts. -/
theorem unlessReset_of (act : State → State) {s : State} (h : s.resetAsserted = false) :
    unlessReset act s = .next (act s) := by simp [unlessReset, h]

/-- While RESET is asserted a command leaves the state alone. -/
theorem unlessReset_asserted (act : State → State) {s : State} (h : s.resetAsserted = true) :
    unlessReset act s = .next s := by simp [unlessReset, h]

/-- A command on a circuit of the part acts when RESET is not asserted and it is due, and otherwise leaves the state
alone. -/
theorem onCircuit_val (c : Fin 96) (due : Fin 96 → State → Bool) (act : Fin 96 → State → State) :
    onCircuit c.val due act s = .next (if s.resetAsserted = false ∧ due c s = true then act c s else s) := by
  cases h : s.resetAsserted <;> simp [onCircuit, circuitOf, unlessReset, h]

/-- A command on a circuit above 95 faults. -/
theorem onCircuit_high {n : Nat} (h : 96 ≤ n) (due : Fin 96 → State → Bool) (act : Fin 96 → State → State) :
    onCircuit n due act s = .fault .noSuchNumber := by
  simp [onCircuit, circuitOf, Nat.not_lt.mpr h]

/-- A command on a unit of the part acts when RESET is not asserted and it is due, and otherwise leaves the state
alone. -/
theorem onUnit_val (u : Fin 16) (due : Fin 16 → State → Bool) (act : Fin 16 → State → State) :
    onUnit u.val due act s = .next (if s.resetAsserted = false ∧ due u s = true then act u s else s) := by
  cases h : s.resetAsserted <;> simp [onUnit, sixteenOf, unlessReset, h]

/-- A command on a unit above 15 faults. -/
theorem onUnit_high {n : Nat} (h : 16 ≤ n) (due : Fin 16 → State → Bool) (act : Fin 16 → State → State) :
    onUnit n due act s = .fault .noSuchNumber := by
  simp [onUnit, sixteenOf, Nat.not_lt.mpr h]

/-! ## Words -/

theorem circuitOf_some {n : Nat} {c : Fin 96} : circuitOf n = some c ↔ n = c.val := by
  unfold circuitOf
  split
  · simp [Fin.ext_iff]
  · next h => exact ⟨fun e => by simp at e, fun e => absurd (e ▸ c.isLt) h⟩

theorem circuitOf_none {n : Nat} : circuitOf n = none ↔ 95 < n := by
  unfold circuitOf
  split <;> simp <;> omega

theorem eightOf_some {n : Nat} {g : Fin 8} : eightOf n = some g ↔ n = g.val := by
  unfold eightOf
  split
  · simp [Fin.ext_iff]
  · next h => exact ⟨fun e => by simp at e, fun e => absurd (e ▸ g.isLt) h⟩

theorem eightOf_none {n : Nat} : eightOf n = none ↔ 7 < n := by
  unfold eightOf
  split <;> simp <;> omega

theorem sixteenOf_some {n : Nat} {u : Fin 16} : sixteenOf n = some u ↔ n = u.val := by
  unfold sixteenOf
  split
  · simp [Fin.ext_iff]
  · next h => exact ⟨fun e => by simp at e, fun e => absurd (e ▸ u.isLt) h⟩

theorem sixteenOf_none {n : Nat} : sixteenOf n = none ↔ 15 < n := by
  unfold sixteenOf
  split <;> simp <;> omega

/-! ## The abandonment of a report read (R159) -/

/-- With no report read nothing happens. -/
theorem abandonReport_none {p : Port} (h : (s.port p).report = none) : abandonReport p s = s := by
  simp [abandonReport, h]

/-- An abandonment is a change of the port alone. -/
theorem abandonReport_modPort (p : Port) : ∃ f, abandonReport p s = s.modPort p f := by
  unfold abandonReport
  split
  · exact ⟨id, by cases p <;> rfl⟩
  · split
    · exact ⟨_, rfl⟩
    · exact ⟨_, rfl⟩

/-- Of the port, only the report read, the pending set and place of its item can change; the report read is then
absent. -/
theorem abandonReport_port (p : Port) :
    let t := abandonReport p s
    (t.port p).report = none ∧ (t.port p).enabled = (s.port p).enabled ∧ (t.port p).wsel = (s.port p).wsel ∧
      (t.port p).rsel = (s.port p).rsel ∧ (t.port p).handshake = (s.port p).handshake ∧
      (t.port p).assembly = (s.port p).assembly ∧ (t.port p).result = (s.port p).result ∧
      (t.port p).resultPos = (s.port p).resultPos ∧ (t.port p).slots = (s.port p).slots := by
  unfold abandonReport
  split
  · next h => simp [h]
  · split <;> simp [PortRecord.restore, PortRecord.leave, PortRecord.setPend]

/-! ## A select asserted (R137, R138) -/

/-- A select asserted alone on an open port stands asserted and its access is answered at once. -/
theorem assertSelect_open (p : Port) (sel : Select) (act : State → State) {s : State} (h : Open p s) :
    assertSelect p sel false act s = act (s.modPort p fun r => r.setSelect sel true) := by
  obtain ⟨-, quiet, hw, hr⟩ := h
  cases sel <;> simp [assertSelect, PortRecord.selected, PortRecord.setSelect, otherSelect, quiet, hw, hr]

/-- A select asserted while the other is asserted is not answered: it stands asserted. -/
theorem assertSelect_waits (p : Port) (sel : Select) (act : State → State) {s : State}
    (h : (s.port p).selected sel = false) (ho : (s.port p).selected (otherSelect sel) = true) :
    assertSelect p sel false act s = s.modPort p fun r => r.setSelect sel true := by
  cases sel <;> simp_all [assertSelect, PortRecord.selected, PortRecord.setSelect, otherSelect]

/-- Two selects asserted at one instant stand asserted, and neither is answered. -/
theorem assertSelect_beside (p : Port) (sel : Select) (act : State → State) {s : State}
    (h : (s.port p).selected sel = false) :
    assertSelect p sel true act s = s.modPort p fun r => { r with wsel := true, rsel := true } := by
  cases sel <;>
    simp_all [assertSelect, PortRecord.selected, PortRecord.setSelect, otherSelect, State.modPort_modPort]

/-! ## An order taken whole (R140, R143) -/

/-- Every order row is the CH 0 write of that order, with the order's own body. -/
theorem exec_rowOf (kind : OrderKind) (w : OrderWrite) :
    exec (rowOf kind w) s = unlessReset (orderWrite kind (orderBody kind) w) s := by cases kind <;> rfl

/-- The last word of an order at an open port takes the order. -/
theorem exec_lastWord {kind : OrderKind} {w : OrderWrite} {ws : List Word} {s : State} (h : LastWord kind w ws s) :
    exec (rowOf kind w) s =
      .next (takeOrder kind (orderBody kind) w.port w.data w.mperm
        (s.modPort w.port fun r => { r with wsel := true })) := by
  obtain ⟨free, hb, ht, hc, hk⟩ := h
  have kindOf : (s.port w.port).completedKind w.data = some kind := by
    simp [PortRecord.completedKind, hc, ht, hk]
  rw [exec_rowOf, unlessReset_of _ free.1, orderWrite, if_pos kindOf, hb, assertSelect_open _ _ _ free]
  rfl

/-- The port in which a CH 0 write is taken has the level of PEN and the order in assembly that it had. -/
theorem writeStart_port (p : Port) :
    ((writeStart p s).port p).enabled = (s.port p).enabled ∧ ((writeStart p s).port p).assembly = (s.port p).assembly := by
  obtain ⟨-, he, -, -, -, ha, -⟩ := abandonReport_port (s.modPort p fun r => { r with wsel := true }) p
  simp_all [writeStart]

/-- The words an order takes depend on the assembly alone. -/
theorem PortRecord.taken_congr {r r' : PortRecord} (h : r.assembly = r'.assembly) (w : Word) :
    r.taken w = r'.taken w := by simp [PortRecord.taken, h]

/-- The words of an order and the result of its common tests as its last word is taken. -/
theorem writeStart_tests {kind : OrderKind} {w : OrderWrite} {ws : List Word} {s : State} (h : LastWord kind w ws s) :
    (((writeStart w.port s).port w.port).taken w.data).1 = ws ∧
      commonRefusal kind ws ((writeStart w.port s).port w.port).enabled w.mperm =
        commonRefusal kind ws (s.port w.port).enabled w.mperm := by
  obtain ⟨he, ha⟩ := writeStart_port s w.port
  exact ⟨by rw [PortRecord.taken_congr ha, h.2.2.1], by rw [he]⟩

/-- An order that passes the common tests acts in `orderStart`, and answers the block of its body. -/
theorem exec_orderReady {kind : OrderKind} {w : OrderWrite} {ws : List Word} {s : State}
    (h : OrderReady kind w ws s) :
    Answers (rowOf kind w) w (orderBody kind w.port ws (orderStart w s)).2 s
      (orderBody kind w.port ws (orderStart w s)).1 := by
  obtain ⟨hl, hlen, hen, hperm⟩ := h
  obtain ⟨words, tests⟩ := writeStart_tests hl
  have passes : commonRefusal kind ws (s.port w.port).enabled w.mperm = none := by
    simp only [commonRefusal, hlen]
    rcases hen with hen | hen <;> cases hk : kind.isMaintenance <;> simp_all
  rw [passes] at tests
  rw [Answers, exec_lastWord hl]
  unfold takeOrder orderStart
  unfold writeStart at words tests ⊢
  simp only [words, tests]

/-- An order that one of the common tests refuses answers that result. -/
theorem exec_commonRefusal {kind : OrderKind} {w : OrderWrite} {ws : List Word} {s : State} {r : Result}
    (hl : LastWord kind w ws s) (hr : commonRefusal kind ws (s.port w.port).enabled w.mperm = some r) :
    Refuses (rowOf kind w) w r s := by
  obtain ⟨words, tests⟩ := writeStart_tests hl
  rw [hr] at tests
  rw [Refuses, Answers, exec_lastWord hl]
  unfold takeOrder orderStart
  unfold writeStart at words tests ⊢
  simp only [words, tests, State.modPort_modPort]
  rfl

/-- What the start of an order leaves alone: everything but its port, and of the port its slots and its level of PEN. -/
theorem orderStart_frame (w : OrderWrite) :
    (orderStart w s).circuits = s.circuits ∧ (orderStart w s).groups = s.groups ∧ PoolKept s (orderStart w s) ∧
      LinesKept s (orderStart w s) ∧ (orderStart w s).port (otherPort w.port) = s.port (otherPort w.port) ∧
      (∀ id, (orderStart w s).slot id = s.slot id) ∧ ∀ p, ((orderStart w s).port p).enabled = (s.port p).enabled := by
  obtain ⟨f, hf⟩ := abandonReport_modPort (s.modPort w.port fun r => { r with wsel := true }) w.port
  obtain ⟨-, he, -, -, -, -, -, -, hs⟩ := abandonReport_port (s.modPort w.port fun r => { r with wsel := true }) w.port
  simp only [hf, State.modPort_port_self] at he hs
  unfold orderStart writeStart
  rw [hf]
  refine ⟨by simp, by simp, by simp [PoolKept], by simp [LinesKept], by simp, fun id => ?_, fun p => ?_⟩
  · simp only [State.slot, State.modPort_port]
    split
    · next h => simp [h, hs]
    · rfl
  · simp only [State.modPort_port]
    split
    · next h => simp [h, he]
    · rfl

/-- The time base, and every record but a port's, as the start of an order leaves it. -/
theorem orderStart_records (w : OrderWrite) :
    (orderStart w s).timeBase = s.timeBase ∧ (∀ c, (orderStart w s).circuit c = s.circuit c) ∧
      (∀ g, (orderStart w s).group g = s.group g) ∧ (∀ u, (orderStart w s).unit u = s.unit u) ∧
      (∀ c, (orderStart w s).filter c = s.filter c) := by
  obtain ⟨hc, hg, ⟨hu, -⟩, ⟨-, ht, hf, -⟩, -⟩ := orderStart_frame s w
  exact ⟨ht, fun c => by simp [State.circuit, hc], fun g => by simp [State.group, hg],
    fun u => by simp [State.unit, hu], fun c => by simp [State.filter, hf]⟩

end Sys2Proof.Machine
end

