-- ==== Sys2Proof/Laws/Reference.lean ====
section
/-! SUPPORT. The Pulse Timing Reference: what each of its operations can change, and the bounds that its arithmetic keeps
(R123 to R128, R133). -/

namespace Sys2Proof.Machine

variable (s : State)

/-! ## Bounds -/

/-- The threshold computed for t_bm lies from 40 to 200 (R128). -/
theorem computedBm_bounds (ref k : Nat) : 40 ≤ computedBm ref k ∧ computedBm ref k ≤ 200 := by
  unfold computedBm; omega

/-- The threshold computed for t_id lies from 220 to 1000 (R128). -/
theorem computedId_bounds (ref k : Nat) : 220 ≤ computedId ref k ∧ computedId ref k ≤ 1000 := by
  unfold computedId; omega

/-- A step toward a period from 50 to 200 keeps ref from 800 to 3200 (R124). -/
theorem Reference.follow_bounds (r : Reference) (p : Nat) (h : 800 ≤ r.ref ∧ r.ref ≤ 3200) (hp : 50 ≤ p ∧ p ≤ 200) :
    800 ≤ r.follow p ∧ r.follow p ≤ 3200 := by
  unfold Reference.follow
  rcases Int.le_total 0 ((16 * p : Int) - r.ref) with hd | hd
  · rw [Int.tdiv_eq_ediv_of_nonneg hd]; omega
  · have e : ((16 * p : Int) - r.ref).tdiv 8 = -(((r.ref : Int) - 16 * p) / 8) := by
      rw [← Int.neg_sub, Int.neg_tdiv, Int.tdiv_eq_ediv_of_nonneg (by omega)]
    rw [e]; omega

/-- The value stored for a written parameter lies in its range (R16). -/
theorem Param.clamp_admits (p : Param) (v : Nat) : p.admits (p.clamp v) := by
  unfold Param.admits Param.clamp
  cases p <;> simp [Param.range]
  split <;> omega

/-! ## Frames -/

/-- Of everything outside the ports, only one group's reference may differ. -/
def OnlyReference (g : Fin 8) (s t : State) : Prop :=
  GroupsKept [g] s t ∧ (∃ r, t.group g = { s.group g with reference := r }) ∧ t.circuits = s.circuits ∧ PoolKept s t ∧
    LinesKept s t ∧ PortStateKept s t

theorem OnlyReference.refl (g : Fin 8) : OnlyReference g s s :=
  ⟨fun _ _ => rfl, ⟨_, rfl⟩, rfl, PoolKept.refl s, LinesKept.refl s, PortStateKept.refl s⟩

/-- A reference written, whether or not an event on the group follows. -/
theorem OnlyReference.write (g : Fin 8) (f : Group → Reference) :
    OnlyReference g s (s.modGroup g fun k => { k with reference := f k }) :=
  ⟨fun x hx => State.modGroup_group_ne s g _ (by simpa using hx), ⟨_, State.modGroup_group_self s g _⟩, rfl,
    PoolKept.refl s, LinesKept.refl s, fun p => by simp⟩

theorem OnlyReference.raise {g : Fin 8} {s t : State} (h : OnlyReference g s t) (x : Fin 8) (e : Event) :
    OnlyReference g s (t.raiseGroup x e) := by
  obtain ⟨groups, ⟨r, own⟩, circuits, pool, lines, ports⟩ := h
  refine ⟨fun y hy => by simpa using groups y hy, ⟨r, by simpa using own⟩, by simpa using circuits,
    pool.trans (by simp [PoolKept]), lines.trans (by simp [LinesKept]), fun p => ?_⟩
  simp only [State.raiseGroup_port, PortRecord.withEvent]
  exact ports p

theorem OnlyReference.trans {g : Fin 8} {s t u : State} (h : OnlyReference g s t) (k : OnlyReference g t u) :
    OnlyReference g s u := by
  obtain ⟨groups, ⟨r, own⟩, circuits, pool, lines, ports⟩ := h
  obtain ⟨groups', ⟨q, own'⟩, circuits', pool', lines', ports'⟩ := k
  exact ⟨fun x hx => (groups' x hx).trans (groups x hx), ⟨q, by rw [own', own]⟩, circuits'.trans circuits,
    pool.trans pool', lines.trans lines', ports.trans ports'⟩

/-- Writing the thresholds changes one reference, and raises applied where they differ. -/
theorem State.setThresholds_frame (g : Fin 8) (r : Reference) : OnlyReference g s (s.setThresholds g r) := by
  unfold State.setThresholds
  simp only
  split
  · exact OnlyReference.write s g fun _ => r
  · exact (OnlyReference.write s g fun _ => r).raise g .applied

/-- An apply changes one reference alone (R128). -/
theorem applyReference_frame (g : Fin 8) : OnlyReference g s (applyReference g s) :=
  State.setThresholds_frame s g _

/-- A period changes one reference alone (R124). -/
theorem takePeriod_frame (g : Fin 8) (p : Nat) : OnlyReference g s (takePeriod g p s) := by
  unfold takePeriod
  simp only
  split
  · split
    · exact OnlyReference.write s g _
    · split
      · exact (OnlyReference.write s g _).raise g .unlocked
      · exact OnlyReference.write s g _
  · split
    · split
      · split
        · exact ((OnlyReference.write s g _).raise g .locked).trans (applyReference_frame _ g)
        · exact (OnlyReference.write s g _).raise g .locked
      · exact OnlyReference.write s g _
    · exact OnlyReference.write s g _

/-- The count of a digit changes one reference alone (R129). -/
theorem countDigit_frame (g : Fin 8) : OnlyReference g s (countDigit g s) := by
  unfold countDigit
  simp only
  split
  · exact (OnlyReference.write s g _).trans (applyReference_frame _ g)
  · exact OnlyReference.write s g _

/-- Storing ref changes one reference alone (R133). -/
theorem setReference_frame (g : Fin 8) (v : Nat) : OnlyReference g s (setReference g v s) := by
  unfold setReference
  simp only
  split
  · exact (OnlyReference.write s g _).raise g .unlocked
  · exact OnlyReference.write s g _

end Sys2Proof.Machine
end

