-- ==== Sys2Proof/Tests/Slice0.lean ====
section
/-! SUPPORT. Tests: the checks of WellFormed, worked figures of the spec, and for every statement with hypotheses a
concrete state and operands that meet them together. -/

namespace Sys2Proof.Tests

open Sys2Proof Sys2Proof.Machine

/-! ## A small state -/

/-- The unit request queue that one circuit's outstanding request makes. -/
def entries (k : Circuit) (cls : UnitClass) : List QueueEntry :=
  match k.unitReq with
  | some r => if r.cls = cls then [{ circuit := 3, time := r.time }] else []
  | none => []

/-- A unit out of service. -/
def oos : DigitUnit := { DigitUnit.reset with state := .outOfService }

/-- The part 15 s after reset with circuit 3 and its lead, unit 0 and group 0 as given; where the circuit's request waits,
every other unit is out of service. -/
def bench (k : Circuit) (f : FilterChannel) (u : DigitUnit) (g : Group) : State :=
  { State.reset with
    timeBase := 15000, circuits := State.reset.circuits.set 3 k, filters := State.reset.filters.set 3 f
    units := (Vector.replicate 16 (if k.unitReq.isSome then oos else DigitUnit.reset)).set 0 u
    groups := State.reset.groups.set 0 g
    regQueue := entries k .register, sndQueue := entries k .sender
    parked := if u.state = .sender .parked then [0] else [] }

/-- What makes a bench sound: group 0's idle list, the link of circuit 3 with unit 0, and its request fit its state. -/
def fits (k : Circuit) (u : DigitUnit) (g : Group) : Bool :=
  decide (g.idle = if k.state = .idle then [3] else []) && decide (k.state = .idle → k.group = some 0) &&
  (match u.circuit with | none => decide (k.unit = none) | some c => decide (c = 3 ∧ k.unit = some 0)) &&
  decide (u.state = .free ∨ u.state = .outOfService → u.circuit = none) &&
  decide (u.state.isSender = true → u.circuit ≠ none → k.state = .outSeizing ∨ k.state = .outSending) &&
  decide (u.state.isRegister = true → u.circuit ≠ none → k.state = .inReceiving) &&
  decide (u.state.isSender = true ∨ u.state.isRegister = true → u.circuit.isSome = true) &&
  decide (k.unitReq.isSome = true → u.state ≠ .free ∧ u.state ≠ .sender .parked) &&
  (match k.unitReq with
    | none => true
    | some r => decide (k.unit = none ∧ (if r.cls = .register then k.state = .inSeized
        else k.state = .outSeizing ∨ k.state = .outSending)))

theorem bench_circuit (k f u g) (c : Fin 96) :
    (bench k f u g).circuit c = if c = 3 then k else Circuit.reset := by
  by_cases h : c = 3
  · subst h; simp [bench, State.circuit]
  · have h' : (3 : Nat) ≠ c.val := fun e => h (Fin.ext e.symm)
    simp [bench, State.circuit, h, State.reset, h']

theorem bench_unit (k f u g) (v : Fin 16) :
    (bench k f u g).unit v = if v = 0 then u else if k.unitReq.isSome then oos else DigitUnit.reset := by
  by_cases h : v = 0
  · subst h; simp [bench, State.unit]
  · have h' : (0 : Nat) ≠ v.val := fun e => h (Fin.ext e.symm)
    simp [bench, State.unit, h, h']

theorem bench_group (k f u g) (x : Fin 8) : (bench k f u g).group x = if x = 0 then g else Group.reset := by
  by_cases h : x = 0
  · subst h; simp [bench, State.group]
  · have h' : (0 : Nat) ≠ x.val := fun e => h (Fin.ext e.symm)
    simp [bench, State.group, h, State.reset, h']

/-- A bench whose records fit is sound. -/
theorem bench_pool {k f u g} (h : fits k u g = true) : PoolSound (bench k f u g) := by
  simp only [fits, Bool.and_eq_true, decide_eq_true_eq] at h
  obtain ⟨⟨⟨⟨⟨⟨⟨⟨hi, hg⟩, hl⟩, hu⟩, hs⟩, hr⟩, hat⟩, hf⟩, hq⟩ := h
  have hlink : (u.circuit = none ∧ k.unit = none) ∨ (u.circuit = some 3 ∧ k.unit = some 0) := by
    cases hc : u.circuit <;> simp [hc] at hl <;> simp [hl]
  have hreg : (bench k f u g).regQueue = entries k .register := rfl
  have hsnd : (bench k f u g).sndQueue = entries k .sender := rfl
  have hpark : (bench k f u g).parked = if u.state = .sender .parked then [0] else [] := rfl
  have hother : (if k.unitReq.isSome then oos else DigitUnit.reset).circuit = none ∧
      (if k.unitReq.isSome then oos else DigitUnit.reset).state.isSender = false ∧
      (if k.unitReq.isSome then oos else DigitUnit.reset).state.isRegister = false := by
    split <;> exact ⟨rfl, rfl, rfl⟩
  have hparkedSender : ∀ st : UnitState, st = .sender .parked → st.isSender = true := by rintro _ rfl; rfl
  constructor
  case idleLists =>
    intro x c
    rw [bench_group, bench_circuit]
    by_cases hx : x = 0 <;> by_cases hc : c = 3 <;> by_cases hk : k.state = .idle <;>
      simp_all [Group.reset, Circuit.reset]
    exact fun e => hx (by simpa using e.symm)
  case idleOnce =>
    intro x
    rw [bench_group]
    by_cases hx : x = 0 <;> by_cases hk : k.state = .idle <;> simp_all [Group.reset]
  case linked =>
    intro v c
    rw [bench_unit, bench_circuit]
    by_cases hv : v = 0 <;> by_cases hc : c = 3 <;> rcases hlink with hlink | hlink <;>
      simp only [hv, hc, hlink, hother, if_true, if_false, Circuit.reset] <;> simp
    · exact fun e => hc e.symm
    · exact fun e => hv e.symm
  case unattached =>
    intro v
    rw [bench_unit]
    by_cases hv : v = 0
    · simpa [hv] using hu
    · simp only [hv, if_false, hother, implies_true]
  case senders =>
    intro v c
    rw [bench_unit, bench_circuit]
    by_cases hv : v = 0
    · simp only [hv, if_true]
      intro h1 h2
      have hc : c = 3 := by rcases hlink with hlink | hlink <;> simp_all
      simpa [hc] using hs h1 (by simp [h2])
    · simp [hv, hother]
  case registers =>
    intro v c
    rw [bench_unit, bench_circuit]
    by_cases hv : v = 0
    · simp only [hv, if_true]
      intro h1 h2
      have hc : c = 3 := by rcases hlink with hlink | hlink <;> simp_all
      simpa [hc] using hr h1 (by simp [h2])
    · simp [hv, hother]
  case registerEntries =>
    intro e he
    rw [hreg] at he
    rw [bench_circuit]
    cases hk : k.unitReq <;> simp_all [entries]
  case senderEntries =>
    intro e he
    rw [hsnd] at he
    rw [bench_circuit]
    cases hk : k.unitReq <;> simp_all [entries]
  case queuedOnce =>
    rw [hreg, hsnd]
    cases hk : k.unitReq with
    | none => simp [entries, hk]
    | some r => obtain ⟨cls, _, _⟩ := r; cases cls <;> simp [entries, hk]
  case requests =>
    intro c r
    rw [hreg, hsnd, bench_circuit]
    by_cases hc : c = 3
    · subst hc
      intro hr'
      obtain ⟨cls, _, _⟩ := r
      simp only [if_true] at hr'
      cases cls <;> simp [entries, hr']
    · simp [hc, Circuit.reset]
  case noneFree =>
    rw [hreg, hsnd, hpark]
    intro h
    have hk : k.unitReq.isSome = true := by
      cases hk : k.unitReq
      · simp [entries, hk] at h
      · rfl
    refine ⟨fun v => ?_, by simp [(hf hk).2]⟩
    rw [bench_unit]
    by_cases hv : v = 0
    · simpa [hv] using (hf hk).1
    · simp [hv, hk, oos]
  case parkedList =>
    intro v
    rw [hpark, bench_unit]
    by_cases hv : v = 0
    · by_cases hu : u.state = .sender .parked <;> simp [hv, hu]
    · have hn : ¬ (if k.unitReq.isSome then oos else DigitUnit.reset).state = .sender .parked := fun e => by
        have := hparkedSender _ e
        simp [hother] at this
      simp only [hv, if_false, hn, iff_false]
      by_cases hu : u.state = .sender .parked <;> simp [hu, hv]
  case parkedOnce =>
    rw [hpark]
    by_cases hu : u.state = .sender .parked <;> simp [hu]
  case attached =>
    intro v
    rw [bench_unit]
    by_cases hv : v = 0
    · simpa [hv] using hat
    · simp [hv, hother]

theorem pool_congr {s t : State} (hc : t.circuits = s.circuits) (hg : t.groups = s.groups) (hu : t.units = s.units)
    (hr : t.regQueue = s.regQueue) (hq : t.sndQueue = s.sndQueue) (hp : t.parked = s.parked) (h : PoolSound s) :
    PoolSound t := by
  constructor <;> (simp only [State.circuit, State.group, State.unit, hc, hg, hu, hr, hq, hp]; first
    | exact h.idleLists | exact h.idleOnce | exact h.linked | exact h.unattached | exact h.senders
    | exact h.registers | exact h.registerEntries | exact h.senderEntries | exact h.queuedOnce | exact h.requests | exact h.noneFree | exact h.parkedList
    | exact h.parkedOnce | exact h.attached)

/-- A state with port A as given. -/
def withPort (s : State) (r : PortRecord) : State := { s with portA := r }

/-- RESET is not asserted, and the pool is sound: what most statements ask of a state. -/
def Awake (s : State) : Prop := s.resetAsserted = false ∧ PoolSound s

theorem bench_awake {k f u g} (h : fits k u g = true) : Awake (bench k f u g) := ⟨rfl, bench_pool h⟩

theorem pool_port {s : State} {r : PortRecord} (h : PoolSound s) : PoolSound (withPort s r) :=
  pool_congr (s := s) rfl rfl rfl rfl rfl rfl h

theorem awake_port {s : State} {r : PortRecord} (h : Awake s) : Awake (withPort s r) := ⟨h.1, pool_port h.2⟩

/-- What makes circuit 3's state fit group 0, of which it is a member. -/
def suits (k : Circuit) (g : Group) : Bool :=
  decide (k.group = some 0) && decide (k.state ≠ .unequipped) && decide (g.direction ≠ .none) &&
  decide (g.queue ≠ [] → g.direction.outgoingCapable = true) &&
  decide (k.state.isOutgoing = true → g.direction.outgoingCapable = true) &&
  decide (k.state.isIncoming = true → g.direction.incomingCapable = true) &&
  decide (k.state = .idle ∨ k.state = .blocked ∨ k.state = .fault →
    k.owner = none ∧ k.unit = none ∧ k.unitReq = none ∧ k.slot = none) &&
  decide (k.state = .inPreseize → k.owner = none) &&
  decide (k.state = .blocked ∨ k.state = .idle → k.blockPending = false)

theorem bench_rest {k f u g} (h : suits k g = true) : RestSound (bench k f u g) := by
  simp only [suits, Bool.and_eq_true, decide_eq_true_eq] at h
  obtain ⟨⟨⟨⟨⟨⟨⟨⟨hg, hu⟩, hd⟩, hq⟩, ho⟩, hi⟩, hr⟩, hp⟩, hb⟩ := h
  refine ⟨fun c => ?_, fun x => ?_⟩
  · rw [bench_circuit]
    by_cases hc : c = 3
    · simp only [hc, if_true, hg, Option.some.injEq, exists_eq_left', bench_group]
      exact ⟨ho, hi, fun h => hr (h.resolve_left hu), fun h => absurd h hu, fun _ => hd, hp,
        fun h => hb (h.resolve_left hu)⟩
    · simp [hc, Circuit.reset, CircuitState.isOutgoing, CircuitState.isIncoming]
  · rw [bench_group]
    by_cases hx : x = 0
    · simpa [hx] using hq
    · simp [hx, Group.reset]

/-- A predicate of two values holds of every pair of a list. -/
def Each {α β : Type} (P : α → β → Prop) : List (α × β) → Prop
  | [] => True
  | (a, b) :: l => P a b ∧ Each P l

theorem each {α β : Type} {P : α → β → Prop} {l : List (α × β)} (h : Each P l) : ∀ a b, (a, b) ∈ l → P a b := by
  induction l with
  | nil => simp
  | cons x l ih =>
    intro a b m
    rcases List.mem_cons.1 m with e | m
    · cases e; exact h.1
    · exact ih h.2 a b m

theorem each3 {α β γ : Type} {P : α → β → γ → Prop} {l : List (α × β × γ)}
    (h : Each (fun a (x : β × γ) => P a x.1 x.2) l) : ∀ a b c, (a, b, c) ∈ l → P a b c :=
  fun a b c m => each h a (b, c) m

theorem each4 {α β γ δ : Type} {P : α → β → γ → δ → Prop} {l : List (α × β × γ × δ)}
    (h : Each (fun a (x : β × γ × δ) => P a x.1 x.2.1 x.2.2) l) : ∀ a b c d, (a, b, c, d) ∈ l → P a b c d :=
  fun a b c d m => each h a (b, c, d) m

theorem transition_due {c : Fin 96} {s : State} (h : candidateDue c s = true) : TransitionDue c s := by
  unfold candidateDue at h
  split at h
  · rename_i k hk; exact ⟨k, hk, by simpa using h⟩
  · cases h

theorem timer_reached {c : Fin 96} {s : State} (h : s.timerDue c = true) : TimerReached c s := by
  unfold State.timerDue timerDue at h
  split at h
  · rename_i k hk; exact ⟨k, hk, by simpa using h⟩
  · cases h

theorem come_now {now : Time} {x : Option Time} (h : instantDue now x = true) : Come now x := by
  unfold instantDue at h
  split at h
  · exact ⟨_, rfl, h⟩
  · cases h

/-- The part with all words of an order but the last taken on port A, which is enabled. -/
def desk (block : List Word) (s : State) : State :=
  { s with
    portA := { s.portA with
      enabled := true
      assembly := if block.length = 1 then .empty else .assembling block.dropLast block.length } }

/-- The access that brings the last word, MPERM being asserted. -/
def last (block : List Word) : OrderWrite := { port := .A, data := block.getLastD 0, mperm := true, beside := false }

/-- The last word of a block written on port A of a state is an order that passes the common tests. -/
abbrev Takes (kind : OrderKind) (block : List Word) (s : State) : Prop :=
  OrderReady kind (last block) block (desk block s)

theorem ready {kind : OrderKind} {block : List Word} {s : State}
    (h : (((desk block s).resetAsserted = false ∧ (desk block s).portA.handshake = .quiet ∧
        (desk block s).portA.wsel = false ∧ (desk block s).portA.rsel = false) ∧ (last block).beside = false ∧
        ((desk block s).portA.taken (last block).data).1 = block ∧
        (desk block s).portA.completes (last block).data = true ∧ orderKind block = some kind) ∧
      lengthAllowed kind block = true) : Takes kind block s :=
  ⟨h.1, h.2, .inl rfl, fun _ => rfl⟩

/-- Thresholds held: the defaults of R16. -/
def held : Held := { ackMin := 40, ackMax := 250, ansRec := 200, cbRec := 300, cfRec := 600, guardMin := 200 }

/-- A circuit of group 0 in a state. -/
def trunk (st : CircuitState) : Circuit := { Circuit.reset with state := st, group := some 0, held := some held }

/-- The same with its timer just reached. -/
def timed (st : CircuitState) : Circuit := { trunk st with timer := some { start := 14000, value := 1000 } }

/-- A lead recognized at a condition for some milliseconds. -/
def lead (cond : Cond) (ms : Nat) : FilterChannel :=
  { recCond := cond, recTime := 15000 - BitVec.ofNat 32 ms, cand := none }

/-- The same with a change of the lead that has lasted its 8 ms just now. -/
def moving (cond : Cond) (ms : Nat) : FilterChannel :=
  { lead cond ms with cand := some { start := 14992, persistence := 8 } }

/-- Group 0 with a direction. -/
def grp (d : Direction) : Group := { Group.reset with direction := d }

/-- A unit that is FREE. -/
def spare : DigitUnit := DigitUnit.reset

/-- A call kept in a slot. -/
def kept : SlotCall := { tag := 5, group := 0, wait := 60, glareCount := 1 }

/-- A group with slot A15 at the head of its queue, if there are digits that it waits with. -/
def placingGroup (digits : Option (List (Fin 10))) : Group :=
  { grp .bothway with queue := if digits.isSome then [{ port := .A, num := 15 }] else [] }

/-- Circuit 3 and its lead in a group whose queue slot A15 heads with the digits given, if any. -/
def placing (k : Circuit) (f : FilterChannel) (digits : Option (List (Fin 10))) : State :=
  withPort (bench k f spare (placingGroup digits))
    { PortRecord.reset with
      slots := match digits with
        | some ds => PortRecord.reset.slots.set 15 (.waiting kept ds true 15001)
        | none => PortRecord.reset.slots }

/-- A report of slot A15 being read, its last word next. -/
def reading (merge : Bool) (position : Nat) : ReportRead :=
  { item := .slot 15, words := [0x208F, 0, 0, 0x8000, 0x4083, 0x0500], position := position
    events := { bits := Event.seized.mask, discarded := 0 }, merge := merge }

theorem placing_awake {k f digits} (h : fits k spare (placingGroup digits) = true) : Awake (placing k f digits) :=
  awake_port (bench_awake h)

theorem placing_rest {k f digits} (h : suits k (placingGroup digits) = true) : RestSound (placing k f digits) :=
  bench_rest (f := f) (u := spare) h

/-- Every unit out of service. -/
def unserved (s : State) : State := { s with units := Vector.replicate 16 oos }

theorem unserved_pool {s : State} (h : PoolSound s) (hu : ∀ u, (s.unit u).circuit = none) (hp : s.parked = []) :
    PoolSound (unserved s) := by
  have hv : ∀ v, (unserved s).unit v = oos := fun v => by simp [unserved, State.unit]
  have hn : ∀ c u, (s.circuit c).unit ≠ some u := fun c u e => by
    have := (h.linked u c).2 e
    simp [hu u] at this
  exact
    { idleLists := h.idleLists, idleOnce := h.idleOnce, registerEntries := h.registerEntries
      senderEntries := h.senderEntries, queuedOnce := h.queuedOnce, requests := h.requests, parkedOnce := h.parkedOnce
      linked := fun u c => by rw [hv]; exact ⟨fun e => by simp [oos, DigitUnit.reset] at e, fun e => absurd e (hn c u)⟩
      unattached := fun u _ => by rw [hv]; rfl
      senders := fun u c e => by rw [hv] at e; cases e
      registers := fun u c e => by rw [hv] at e; cases e
      noneFree := fun _ => ⟨fun u => by rw [hv]; decide, hp⟩
      parkedList := fun u => by rw [hv, show (unserved s).parked = [] from hp]; simp [oos]
      attached := fun u e => by rw [hv] at e; rcases e with e | e <;> cases e }

/-- Unit 0 attached to circuit 3, its interval just ended. -/
def busy (st : UnitState) : DigitUnit := { DigitUnit.reset with state := st, circuit := some 3, subEnd := some 15000 }

/-! ## The queue, leads and matrix -/

theorem witness_StepRunsTheFrontCommand :
    ({ State.reset with pending := [.penRise .A] } : State).pending = .penRise .A :: [] := rfl

/-- The part held in reset. -/
def held0 : State := { State.reset with resetAsserted := true }

theorem witness_EmptyQueueLetsTimePass :
    (State.reset.pending = [] ∧ dueCommands State.reset = [] ∧ State.reset.resetAsserted = false) ∧
    (held0.pending = [] ∧ dueCommands held0 = [] ∧ held0.resetAsserted = true) ∧
    (let s := bench (trunk .idle) (moving .off 500) spare (grp .outgoing)
     s.pending = [] ∧ dueCommands s = [.recognizedTransition 3]) ∧
    (let s := bench { trunk .outSending with unit := some 0 } (moving .off 500) (busy (.sender .inMake)) (grp .outgoing)
     s.pending = [] ∧ dueCommands s = [.recognizedTransition 3, .senderMakeEnd 0]) := by decide

theorem witness_CommandsCompleteExactlyWhenWellFormed :
    WellFormed (.guardEnd 95) = true ∧ WellFormed (.guardEnd 96) = false ∧ WellFormed (.penFall .B) = true ∧
    isTimed (.guardEnd 95) = true ∧ Instr.guardEnd 95 ∉ dueCommands State.reset := by decide

theorem witness_ResetGivesTheTablesValues :
    held0.resetAsserted = true ∧ State.reset.resetAsserted = false ∧ WellFormed (.penRise .B) = true ∧
      ∀ edge a b, Instr.penRise .B ≠ .deviceReset edge a b :=
  ⟨rfl, rfl, rfl, nofun⟩

theorem witness_SendLeadFollowsItsSource :
    (let s : State := { bench { trunk .blocked with sup := .on } (lead .off 9) spare (grp .outgoing) with
        forces := State.reset.forces.set 7 { enable := true, circuit := 3, value := .on } }
     (s.circuit 3).state = .blocked ∧ ∃ f, (s.force f).enable = true ∧ (s.force f).circuit = 3) ∧
    (∀ sub : SenderSub,
      let s := bench { trunk .outSending with unit := some 0 } (lead .off 9) (busy (.sender sub)) (grp .outgoing)
      ¬ ((s.circuit 3).state = .blocked ∧ ∃ f, (s.force f).enable = true ∧ (s.force f).circuit = 3) ∧
        (s.circuit 3).unit = some 0 ∧ (s.unit 0).state = .sender sub) :=
  ⟨⟨by decide, 7, by decide⟩, fun sub => by cases sub <;> decide⟩

theorem witness_RawLeadChangesAreCandidates :
    (let s := bench (trunk .idle) (lead .off 500) spare (grp .incoming)
     s.resetAsserted = false ∧ (s.filter 3).cand = none ∧ Cond.on ≠ (s.filter 3).recCond) ∧
    (let k : Candidate := { start := 14993, persistence := 8 }
     let s := bench (trunk .idle) { lead .off 500 with cand := some k } spare (grp .incoming)
     s.resetAsserted = false ∧ (s.filter 3).cand = some k ∧ elapsed s.timeBase k.start < k.persistence) ∧
    (let s := bench (trunk .idle) (moving .off 500) spare (grp .incoming)
     s.resetAsserted = false ∧ TransitionDue 3 s ∧ ∃ u, exec (.recognizedTransition 3) s = .next u) :=
  ⟨by decide, by decide, rfl, transition_due (by decide), _, rfl⟩

theorem eight_passed : 8 ≤ elapsed 15000 14992 := by decide

theorem second_passed : 1000 ≤ elapsed 15000 14000 := by decide

/-- A watch channel on circuit 3. -/
def watching (edge : Edge) (action : Action) : WatchChannel :=
  { enable := true, circuit := 3, edge := edge, reportTo := .both, action := action, target := 7, matchCount := 65535 }

/-- A TO_ON of circuit 3 due, with watch channel 0 on it. -/
def watched (edge : Edge) (action : Action) : State :=
  { bench (trunk .outReleasing) (moving .off 500) spare (grp .outgoing) with
    watches := State.reset.watches.set 0 (watching edge action) }

theorem watched_due (edge : Edge) (action : Action) :
    (watched edge action).resetAsserted = false ∧ TransitionDue 3 (watched edge action) :=
  ⟨rfl, { start := 14992, persistence := 8 }, rfl, eight_passed⟩

theorem witness_RecognizedTransitionIsStampedAndWatched :
    (((watched .any .none).resetAsserted = false ∧ TransitionDue 3 (watched .any .none)) ∧
      WatchMatches ((watched .any .none).watch 0) 3 (oppositeCond ((watched .any .none).filter 3).recCond)) ∧
    (((watched .toOff .none).resetAsserted = false ∧ TransitionDue 3 (watched .toOff .none)) ∧
      ¬ WatchMatches ((watched .toOff .none).watch 0) 3 (oppositeCond ((watched .toOff .none).filter 3).recCond)) :=
  ⟨⟨watched_due _ _, by unfold WatchMatches; decide⟩, watched_due _ _, by unfold WatchMatches; decide⟩

/-- A watch channel that matches and names one port, both or neither. -/
theorem witness_RecognizedTransitionIsStampedAndWatched_ports : ∀ dest : ReportTo,
    let s : State := { watched .toOn .none with
      watches := State.reset.watches.set 0 { watching .toOn .none with reportTo := dest } }
    s.resetAsserted = false ∧ TransitionDue 3 s ∧ WatchMatches (s.watch 0) 3 (oppositeCond (s.filter 3).recCond) ∧
      (s.watch 0).reportTo = dest ∧ (ReportTo.none.names .A = false ∧ ReportTo.A.names .B = false) :=
  fun dest => ⟨rfl, (watched_due .toOn .none).2, by unfold WatchMatches; cases dest <;> decide, rfl, by decide⟩

theorem witness_ForceActionsAreResolved : ∀ a : Action,
    ((watched .toOn a).resetAsserted = false ∧ TransitionDue 3 (watched .toOn a)) ∧
      WatchMatches ((watched .toOn a).watch 0) 3 (oppositeCond ((watched .toOn a).filter 3).recCond) ∧
      ((watched .toOn a).watch 0).target = 7 ∧ ((watched .toOn a).watch 0).action = a ∧
      ∀ w : Fin 8, w ≠ 0 → ((watched .toOn a).watch w).enable = false :=
  fun a => ⟨watched_due _ _, by unfold WatchMatches; cases a <;> decide, by cases a <;> decide, by cases a <;> decide,
    by cases a <;> decide⟩

theorem witness_IdleCircuitBeginsAPreseizure :
    (let s := bench (trunk .idle) (moving .off 500) spare { grp .bothway with idle := [3] }
     Awake s ∧ TransitionDue 3 s ∧ (s.filter 3).recCond = .off ∧ (s.circuit 3).state = .idle ∧
       (s.circuit 3).group = some 0 ∧ (s.group 0).direction.incomingCapable = true) ∧
    (∀ block digits place, (block, digits, place) ∈
        [(false, none, CircuitState.idle), (true, none, .blocked), (false, some [], .outSeizing),
         (false, some [4, 0, 7], .outSeizing)] →
      let s := placing { trunk .inPreseize with timer := some { start := 14851, value := 150 }, blockPending := block }
        (moving .on 149) digits
      let now := s.setFilter 3 { recCond := .off, recTime := s.timeBase, cand := none }
      Awake s ∧ RestSound s ∧ TransitionDue 3 s ∧ (s.circuit 3).group = some 0 ∧ (s.filter 3).recCond = .on ∧
        (s.circuit 3).state = .inPreseize ∧ ¬ TimerReached 3 s ∧ now.placeOf 0 3 = place) := by
  refine ⟨⟨bench_awake (by decide), transition_due (by decide), by decide⟩, each3 ⟨?_, ?_, ?_, ?_, trivial⟩⟩ <;>
    refine ⟨placing_awake (by decide), placing_rest (by decide), transition_due (by decide), by decide,
      by decide, by decide, ?_, by decide⟩ <;>
    · rintro ⟨k, hk, h⟩
      cases hk
      exact absurd h (by decide)

/-- A register on circuit 3 in IN_RECEIVING, its last break begun at an instant, a change of its lead being due. -/
def receiving (cond : Cond) (sub : RegisterSub) (end_ since : Option Time) : State :=
  bench { trunk .inReceiving with unit := some 0, owner := some .A } (moving cond 599)
    { busy (.register sub) with subEnd := end_, count := 11, brkStart := since } (grp .incoming)

/-- A TO_OFF and a TO_ON in each state of a register, a TO_ON before and at the end of t_bm, and a TO_OFF in MAKE that closes
a period of 200 ms and one of 201. -/
theorem witness_RegistersTimeBreaksAndMakes :
    (∀ cond sub e since, let s := receiving cond sub e since
      Awake s ∧ TransitionDue 3 s ∧ (s.circuit 3).unit = some 0 ∧ (s.circuit 3).group = some 0 ∧
        s.recFor 3 < (s.heldOf 3).cfRec ∧ (s.filter 3).recCond = cond ∧ (s.unit 0).state = .register sub ∧
        (s.unit 0).longBrk = false ∧ (s.group 0).par .track = 1 ∧ (s.unit 0).brkStart = since) ∧
    (∀ sub, ¬ Come 15000 ((receiving .on sub (some 15001) none).unit 0).subEnd) ∧
    Come 15000 ((receiving .off .inBreak (some 15000) none).unit 0).subEnd ∧
    elapsed 15000 14800 = 200 ∧ elapsed 15000 14799 = 201 := by
  refine ⟨fun cond sub e since => ⟨bench_awake (by cases sub <;> rfl), ⟨{ start := 14992, persistence := 8 }, rfl,
    eight_passed⟩, rfl, rfl, show elapsed 15000 (15000 - BitVec.ofNat 32 599) < 600 by decide, rfl, rfl, rfl, rfl, rfl⟩,
    ?_, ⟨_, rfl, by decide⟩, by decide, by decide⟩
  rintro sub ⟨t, h, ht⟩
  cases h
  exact absurd ht (by decide)

theorem witness_GuardsReturnTheCircuit : ∀ st block digits place, (st, block, digits, place) ∈
      [(CircuitState.outReleasing, false, none, CircuitState.idle), (.outReleasing, true, none, .blocked),
       (.fault, false, none, .idle), (.fault, false, some [4, 0, 7], .outSeizing)] →
    let s := placing { trunk st with blockPending := block } (moving .on 200) digits
    let now := s.setFilter 3 { recCond := .off, recTime := s.timeBase, cand := none }
    Awake s ∧ RestSound s ∧ TransitionDue 3 s ∧ (s.filter 3).recCond = .on ∧ (s.circuit 3).group = some 0 ∧
      (s.circuit 3).presentOn = false ∧ (s.heldOf 3).guardMin ≤ s.recFor 3 ∧ (s.circuit 3).state = st ∧
      now.placeOf 0 3 = place := by
  refine each4 ⟨?_, ?_, ?_, ?_, trivial⟩ <;>
    exact ⟨placing_awake (by decide), placing_rest (by decide), transition_due (by decide), by decide⟩

/-- The end of an ON that is no guard, one present at the entry or a millisecond short, and a TO_ON. -/
theorem witness_GuardsReturnTheCircuit_ignored : ∀ st, st = .outReleasing ∨ st = .fault →
    (∀ present ms, (present, ms) ∈ [(true, 200), (false, 199)] →
      let s := bench { trunk st with presentOn := present } (moving .on ms) spare (grp .outgoing)
      Awake s ∧ RestSound s ∧ TransitionDue 3 s ∧ (s.filter 3).recCond = .on ∧ (s.circuit 3).group = some 0 ∧
        (s.circuit 3).state = st ∧ ¬ ((s.circuit 3).presentOn = false ∧ (s.heldOf 3).guardMin ≤ s.recFor 3)) ∧
    ∀ since, since = 15000 ∨ since = 14999 →
      let s := bench { trunk st with relTime := some since } (moving .off 500) spare (grp .outgoing)
      Awake s ∧ RestSound s ∧ TransitionDue 3 s ∧ (s.filter 3).recCond = .off ∧ (s.circuit 3).group = some 0 ∧
        (s.circuit 3).state = st ∧ ((s.circuit 3).relTime = some s.timeBase ↔ since = 15000) := by
  rintro _ (rfl | rfl) <;> refine ⟨each ⟨?_, ?_, trivial⟩, ?_⟩ <;>
    first
    | exact ⟨bench_awake (by decide), bench_rest (by decide), transition_due (by decide), by decide⟩
    | (rintro _ (rfl | rfl) <;>
        exact ⟨bench_awake (by decide), bench_rest (by decide), transition_due (by decide), by decide⟩)

/-! ## Outgoing calls and glare -/

theorem witness_LeaveToSendProceeds :
    (∀ ms, ms = 40 ∨ ms = 249 →
      let s := bench { trunk .outSeizing with owner := some .A } (moving .on ms) spare (grp .outgoing)
      Awake s ∧ TransitionDue 3 s ∧ (s.circuit 3).state = .outSeizing ∧ (s.circuit 3).group = some 0 ∧
        (s.circuit 3).glarePhase ≠ .holding ∧ (s.group 0).startMode = .ackStart ∧ (s.filter 3).recCond = .on ∧
        (s.circuit 3).presentOn = false ∧ (s.heldOf 3).ackMin ≤ s.recFor 3 ∧ s.recFor 3 < (s.heldOf 3).ackMax) ∧
    (let s := bench (timed .outSeizing) (lead .on 200) spare { grp .outgoing with startMode := .timedStart }
     Awake s ∧ TimerReached 3 s ∧ (s.circuit 3).state = .outSeizing ∧ (s.circuit 3).group = some 0 ∧
        (s.circuit 3).glarePhase ≠ .holding ∧ (s.group 0).startMode = .timedStart) := by
  refine ⟨?_, bench_awake (by decide), timer_reached (by decide), by decide⟩
  rintro _ (rfl | rfl) <;> exact ⟨bench_awake (by decide), transition_due (by decide), by decide⟩

/-- An ON that is no leave to send: one present at the seizure, a width a millisecond short, and one of a TIMED_START group;
and a TO_ON stamped at the seizure and a millisecond after it. -/
theorem witness_LeaveToSendProceeds_ignored :
    (∀ present ms mode, (present, ms, mode) ∈
        [(true, 249, StartMode.ackStart), (false, 39, .ackStart), (false, 249, .timedStart)] →
      let s := bench { trunk .outSeizing with presentOn := present, seizeTime := 14751, seizeAckMax := 250 }
        (moving .on ms) spare { grp .outgoing with startMode := mode }
      Awake s ∧ TransitionDue 3 s ∧ (s.circuit 3).state = .outSeizing ∧ (s.circuit 3).group = some 0 ∧
        (s.circuit 3).glarePhase ≠ .holding ∧ (s.filter 3).recCond = .on ∧
        ¬ ((s.group 0).startMode = .ackStart ∧ (s.circuit 3).presentOn = false ∧
          (s.heldOf 3).ackMin ≤ s.recFor 3 ∧ s.recFor 3 < (s.heldOf 3).ackMax) ∧
        (if (s.circuit 3).presentOn then elapsed s.timeBase (s.circuit 3).seizeTime < (s.circuit 3).seizeAckMax
          else s.recFor 3 < (s.heldOf 3).ackMax)) ∧
    ∀ since, since = 15000 ∨ since = 14999 →
      let s := bench { trunk .outSeizing with seizeTime := since } (moving .off 500) spare (grp .outgoing)
      Awake s ∧ TransitionDue 3 s ∧ (s.circuit 3).state = .outSeizing ∧ (s.circuit 3).group = some 0 ∧
        (s.circuit 3).glarePhase ≠ .holding ∧ (s.filter 3).recCond = .off ∧
        ((s.circuit 3).seizeTime = s.timeBase ↔ since = 15000) := by
  refine ⟨each3 ⟨?_, ?_, ?_, trivial⟩, ?_⟩ <;>
    first
    | exact ⟨bench_awake (by decide), transition_due (by decide), by decide⟩
    | (rintro _ (rfl | rfl) <;> exact ⟨bench_awake (by decide), transition_due (by decide), by decide⟩)

/-- A wait for a sender of 1 s that has just ended. -/
def sndReq : UnitReq := { cls := .sender, time := 14000, wait := 1000 }

/-- A proceed at the expiry of pre_pause: with nothing to send and eon set or clear, with a digit and a sender, a request that
waits, or neither; and with an ON of ans_rec. -/
theorem witness_LeaveToSendProceeds_entryTest : ∀ digits eon unit req,
    (digits, eon, unit, req) ∈
      [(([] : List (Fin 10)), true, (none : Option (Fin 16)), (none : Option UnitReq)), ([], false, none, none),
       ([4], false, some 0, none), ([4], false, none, some sndReq), ([4], true, none, none)] →
    ∀ ms, ms = 199 ∨ ms = 200 →
    let s := bench
      { timed .outSeizing with
        owner := some .A, digits := digits, eon := eon, unit := unit, unitReq := req, prePause := 1000, seizeTime := 14000 }
      (lead .on ms) (if unit.isSome then { busy (.sender .waitStart) with subEnd := none }
        else if req.isSome then oos else spare)
      { grp .outgoing with startMode := .timedStart }
    Awake s ∧ TimerReached 3 s ∧ (s.circuit 3).state = .outSeizing ∧ (s.circuit 3).group = some 0 ∧
      (s.circuit 3).glarePhase ≠ .holding ∧ (s.group 0).startMode = .timedStart ∧
      ((s.filter 3).recCond = .on ∧ (s.heldOf 3).ansRec ≤ s.recFor 3 ↔ ms = 200) ∧
      ((s.circuit 3).digits.length ≤ (s.circuit 3).sent ↔ digits = []) ∧ (s.circuit 3).eon = eon ∧
      (s.circuit 3).unit = unit ∧ (s.circuit 3).unitReq = req ∧
      (unit = some 0 → (s.unit 0).state = .sender .waitStart ∧ (s.unit 0).subEnd = none ∧
        1000 ≤ elapsed s.timeBase (s.circuit 3).seizeTime) := by
  refine each4 ⟨?_, ?_, ?_, ?_, ?_, trivial⟩ <;> rintro _ (rfl | rfl) <;>
    exact ⟨bench_awake (by decide), timer_reached (by decide), by decide⟩

theorem witness_AnswerIsRecognized : ∀ st, st = .outSending ∨ st = .outWaitAnswer →
    let s := bench { trunk st with digits := [4, 0, 7], sent := 1 } (lead .on 200) spare (grp .outgoing)
    Awake s ∧ (s.circuit 3).state = st ∧ (s.filter 3).recCond = .on ∧
      (s.heldOf 3).ansRec ≤ s.recFor 3 := by
  rintro _ (rfl | rfl) <;> exact ⟨bench_awake (by decide), by decide⟩

theorem witness_RecognitionsChangeOneCircuit :
    (let s := bench (trunk .outAnswered) (lead .off 300) spare (grp .outgoing)
     s.resetAsserted = false ∧ (s.circuit 3).state = .outAnswered ∧ (s.filter 3).recCond = .off ∧
       (s.heldOf 3).cbRec ≤ s.recFor 3) ∧
    (let s := bench (trunk .outClearedBack) (lead .on 200) spare (grp .outgoing)
     s.resetAsserted = false ∧ (s.circuit 3).state = .outClearedBack ∧ (s.filter 3).recCond = .on ∧
       (s.heldOf 3).ansRec ≤ s.recFor 3) ∧
    (let s := bench (timed .blocked) (lead .on 1000) spare (grp .incoming)
     s.resetAsserted = false ∧ (s.circuit 3).state = .blocked ∧ TimerReached 3 s) ∧
    (let s := bench (trunk .blocked) (moving .off 500) spare (grp .incoming)
     Awake s ∧ (s.circuit 3).state = .blocked ∧ TransitionDue 3 s ∧ ¬ TimerReached 3 s) ∧
    (let s := bench (timed .blocked) (moving .on 1000) spare (grp .incoming)
     Awake s ∧ (s.circuit 3).state = .blocked ∧ TransitionDue 3 s ∧ TimerReached 3 s) :=
  ⟨by decide, by decide, ⟨rfl, by decide, timer_reached (by decide)⟩,
    ⟨bench_awake (by decide), by decide, transition_due (by decide), fun ⟨_, h, _⟩ => nomatch h⟩,
    bench_awake (by decide), by decide, transition_due (by decide), timer_reached (by decide)⟩

theorem witness_ExpiriesGiveTheCallUp :
    (let s := bench (timed .outSeizing) (lead .off 500) spare (grp .outgoing)
     Awake s ∧ (s.circuit 3).group = some 0 ∧ (s.circuit 3).state = .outSeizing ∧
       (s.group 0).startMode = .ackStart ∧ TimerReached 3 s) ∧
    (∀ st, st = .outSending ∨ st = .outClearedBack →
      let s := bench (timed st) (lead .off 500) spare (grp .outgoing)
      Awake s ∧ (s.circuit 3).group = some 0 ∧ (s.circuit 3).state = st ∧ TimerReached 3 s) ∧
    (∀ st, st = .outSeizing ∨ st = .outSending →
      let s := bench { trunk st with unitReq := some sndReq } (lead .off 500) oos (grp .outgoing)
      Awake s ∧ (s.circuit 3).group = some 0 ∧ (s.circuit 3).state = st ∧
        (s.circuit 3).unitReq = some sndReq ∧ sndReq.wait ≤ elapsed s.timeBase sndReq.time) ∧
    (∀ ph, ph = .farCleared ∨ ph = .none →
      let s := bench { trunk .outSeizing with glarePhase := ph } (lead .on 250) spare (grp .outgoing)
      Awake s ∧ (s.circuit 3).group = some 0 ∧ (s.circuit 3).state = .outSeizing ∧ (s.filter 3).recCond = .on ∧
        (s.circuit 3).glarePhase = ph ∧ (s.circuit 3).presentOn = false ∧ (s.heldOf 3).ackMax ≤ s.recFor 3 ∧
        (s.group 0).direction ≠ .bothway) := by
  refine ⟨⟨bench_awake (by decide), by decide, by decide, by decide, timer_reached (by decide)⟩, ?_, ?_, ?_⟩
  · rintro _ (rfl | rfl) <;> exact ⟨bench_awake (by decide), by decide, by decide, timer_reached (by decide)⟩
  · rintro _ (rfl | rfl) <;> exact ⟨bench_awake (by decide), by decide⟩
  · rintro _ (rfl | rfl) <;> exact ⟨bench_awake (by decide), by decide⟩

theorem witness_ReleaseIntervalsEnd : ∀ st sup, (st = .outReleasing ∨ (st = .inGuard ∧ sup = .off)) →
    let s := bench { timed st with sup := sup } (lead .off 500) spare (grp .bothway)
    s.resetAsserted = false ∧ TimerReached 3 s ∧ (s.circuit 3).state = st ∧ (s.circuit 3).sup = sup := by
  rintro st sup h
  exact ⟨rfl, ⟨{ start := 14000, value := 1000 }, rfl, second_passed⟩, rfl, rfl⟩

theorem witness_GlarePriorityFollowsRuleAndParity : 998 % 2 = 0 ∧ 999 % 2 = 1 := by decide

/-- A call whose circuit has just met a far ON of ack_max, by the group's glare rule, with its slot. -/
def glare (rule : GlareRule) (count wait : Nat) : State :=
  withPort
    (bench { trunk .outSeizing with owner := some .A, slot := some { port := .A, num := 15 } } (lead .on 250) spare
      { grp .bothway with glareRule := rule })
    { PortRecord.reset with
      slots := PortRecord.reset.slots.set 15 (.seizing { tag := 0, group := 0, wait := wait, glareCount := count } 3) }

theorem witness_GlareHoldsOrYields :
    (∀ rule count wait, let s := glare rule count wait
      Awake s ∧ (s.circuit 3).group = some 0 ∧ (s.group 0).direction = .bothway ∧
        (s.circuit 3).state = .outSeizing ∧ (s.filter 3).recCond = .on ∧ (s.circuit 3).glarePhase = .none ∧
        (s.circuit 3).presentOn = false ∧ (s.heldOf 3).ackMax ≤ s.recFor 3 ∧
        (s.circuit 3).slot = some { port := .A, num := 15 } ∧ (s.group 0).idle = [] ∧
        s.slot { port := .A, num := 15 } = .seizing { tag := 0, group := 0, wait := wait, glareCount := count } 3) ∧
    hasPriority ((glare .priorityAll 0 0).group 0).glareRule ((glare .priorityAll 0 0).circuit 3).trunkNo = true ∧
    ∀ count wait, (count, wait) ∈ [(1, 0), (0, 1), (0, 0)] →
      let s := glare .priorityNone count wait
      hasPriority (s.group 0).glareRule (s.circuit 3).trunkNo = false :=
  ⟨fun rule _ _ => ⟨awake_port (bench_awake (by cases rule <;> rfl)), rfl, rfl, rfl, rfl, rfl, rfl,
    show 250 ≤ elapsed 15000 (15000 - BitVec.ofNat 32 250) by decide, rfl, rfl, rfl⟩, by decide, fun _ _ _ => rfl⟩

/-- The far end gives way to a circuit that holds its seizure, in a group of either start mode. -/
theorem witness_GlareHoldsOrYields_farCleared : ∀ start : StartMode,
    let s := bench { trunk .outSeizing with owner := some .A, glarePhase := .holding } (moving .on 900) spare
      { grp .bothway with startMode := start }
    Awake s ∧ (s.circuit 3).group = some 0 ∧ (s.circuit 3).state = .outSeizing ∧ (s.filter 3).recCond = .on ∧
      (s.circuit 3).glarePhase = .holding ∧ TransitionDue 3 s ∧ (s.group 0).startMode = start :=
  fun start => ⟨bench_awake (by cases start <;> rfl), rfl, rfl, rfl, rfl,
    ⟨{ start := 14992, persistence := 8 }, rfl, eight_passed⟩, rfl⟩

/-- The same with circuit 95 of the group idle, to which the displaced call goes. -/
def glareWithIdle : State :=
  let s := glare .priorityNone 0 0
  { s with
    circuits := s.circuits.set 95 (trunk .idle)
    groups := s.groups.set 0 { grp .bothway with glareRule := .priorityNone, idle := [95] } }

theorem glareWithIdle_pool : PoolSound glareWithIdle := by constructor <;> decide

theorem witness_GlareHoldsOrYields_rehunted :
    Awake glareWithIdle ∧ (glareWithIdle.circuit 3).state = .outSeizing ∧
      (glareWithIdle.circuit 3).slot = some { port := .A, num := 15 } ∧
      huntChoice (glareWithIdle.group 0).huntMode (glareWithIdle.group 0).idle = some 95 ∧
      glareWithIdle.slot { port := .A, num := 15 } = .seizing { tag := 0, group := 0, wait := 0, glareCount := 0 } 3 :=
  ⟨⟨rfl, glareWithIdle_pool⟩, by decide⟩

/-- A call that yields with its lead ON, whose slot has seized and rehunted pending and its report half read, and one with no
slot. -/
theorem witness_GlareHoldsOrYields_takenBack :
    (let s := withPort (glare .priorityNone 0 0)
        { (glare .priorityNone 0 0).portA with
          pend := PortRecord.reset.pend.set (Item.slot 15).index
            { bits := Event.seized.mask ||| Event.rehunted.mask, discarded := 0 }
          report := some (reading true 2) }
     Awake s ∧ (s.slotPend { port := .A, num := 15 }).has .seized = true ∧
       (s.slotPend { port := .A, num := 15 }).has .rehunted = true ∧ (s.port .A).report = some (reading true 2) ∧
       (reading true 2).item = .slot 15 ∧ (reading true 2).events.has .seized = true) ∧
    (let s := bench { trunk .outSeizing with owner := some .A, sup := .on } (lead .on 250) spare
        { grp .bothway with glareRule := .priorityNone }
     Awake s ∧ (s.circuit 3).group = some 0 ∧ (s.circuit 3).state = .outSeizing ∧ (s.filter 3).recCond = .on ∧
       (s.circuit 3).glarePhase = .none ∧ (s.heldOf 3).ackMax ≤ s.recFor 3 ∧ (s.circuit 3).slot = none ∧
       (s.circuit 3).sup = .on ∧ 0 < (s.group 0).par .sep) :=
  ⟨⟨awake_port (awake_port (bench_awake (by decide))), by decide⟩, bench_awake (by decide), by decide⟩

/-! ## Incoming calls -/

/-- A seizure in a group of either start mode, with the ports enabled or not, and with a unit FREE or none. -/
theorem witness_SeizureIsOffered : ∀ mode enabled free, (mode, enabled, free) ∈
      [(StartMode.ackStart, true, true), (.timedStart, true, true), (.ackStart, true, false), (.ackStart, false, true)] →
    let s0 := withPort (bench (timed .inPreseize) (lead .on 150) spare { grp .incoming with startMode := mode })
      { PortRecord.reset with enabled := enabled }
    let s := if free then s0 else unserved s0
    Awake s ∧ (s.circuit 3).state = .inPreseize ∧ TimerReached 3 s ∧ (s.circuit 3).group = some 0 ∧
      (s.circuit 3).glarePhase ≠ .yielded ∧ (s.group 0).startMode = mode ∧ (s.port .A).enabled = enabled ∧
      (s.port .B).enabled = false ∧ (s.freeUnit.isSome = true ∨ s.parked ≠ [] ↔ free = true) := by
  refine each3 ⟨?_, ?_, ?_, ?_, trivial⟩
  case refine_3 =>
    exact ⟨⟨rfl, unserved_pool (pool_port (bench_pool (by decide))) (by decide) (by decide)⟩, by decide,
      timer_reached (by decide), by decide⟩
  all_goals exact ⟨awake_port (bench_awake (by decide)), by decide, timer_reached (by decide), by decide⟩

/-- A seizure due, port A being enabled, with unit 15 parked on circuit 95 and every other unit out of service. -/
def parkedElsewhere : State :=
  let s := unserved (withPort (bench (timed .inPreseize) (lead .on 150) spare (grp .bothway))
    { PortRecord.reset with enabled := true })
  { s with
    circuits := s.circuits.set 95 { trunk .outSending with unit := some 15 }
    units := s.units.set 15 { DigitUnit.reset with state := .sender .parked, circuit := some 95 }, parked := [15] }

theorem parkedElsewhere_pool : PoolSound parkedElsewhere := by constructor <;> decide

/-- The same with no unit FREE and the sender of another circuit parked. -/
theorem witness_SeizureIsOffered_reclaims :
    Awake parkedElsewhere ∧ (parkedElsewhere.circuit 3).state = .inPreseize ∧ TimerReached 3 parkedElsewhere ∧
      (parkedElsewhere.circuit 3).group = some 0 ∧ parkedElsewhere.freeUnit = none ∧ parkedElsewhere.parked = [15] ∧
      (parkedElsewhere.unit 15).circuit = some 95 :=
  ⟨⟨rfl, parkedElsewhere_pool⟩, by decide, timer_reached (by decide), by decide⟩

/-- A wait for a register of 1 s that has just ended. -/
def regReq : UnitReq := { cls := .register, time := 14000, wait := 1000 }

theorem witness_RegisterAndDigitWaitsEnd :
    (let s := bench { trunk .inSeized with unitReq := some regReq } (lead .on 1000) oos (grp .incoming)
     s.resetAsserted = false ∧ (s.circuit 3).state = .inSeized ∧ (s.circuit 3).unitReq = some regReq ∧
       regReq.cls = .register ∧ regReq.wait ≤ elapsed s.timeBase regReq.time) ∧
    (let s := bench { timed .inReceiving with unit := some 0 } (lead .on 900) (busy (.register .waitDigit))
       (grp .incoming)
     Awake s ∧ (s.circuit 3).state = .inReceiving ∧ TimerReached 3 s) ∧
    (let s := bench { trunk .inSeized with unitReq := some regReq } (moving .on 900) oos
       { grp .incoming with startMode := .timedStart }
     Awake s ∧ (s.circuit 3).state = .inSeized ∧ (s.circuit 3).group = some 0 ∧ (s.group 0).startMode = .timedStart ∧
       (s.filter 3).recCond = .on ∧ TransitionDue 3 s) :=
  ⟨by decide, ⟨bench_awake (by decide), by decide, timer_reached (by decide)⟩,
    bench_awake (by decide), by decide, by decide, by decide, by decide, transition_due (by decide)⟩

theorem witness_PulseAndDeferredAnswerAreShown :
    (∀ st, st = .inReceiving ∨ st = .inHeld ∨ st = .inAnswered ∨ st = .inClearedBack →
      let s := bench { trunk st with ackPulse := .scheduled 15000 } (lead .on 900) spare (grp .incoming)
      let s' := bench { trunk st with ackPulse := .running, ackEnd := some 15000 } (lead .on 900) spare (grp .incoming)
      (s.resetAsserted = false ∧ (s.circuit 3).state = st ∧ (s.circuit 3).ackPulse = .scheduled 15000 ∧
        reached s.timeBase 15000 = true) ∧
      (s'.resetAsserted = false ∧ (s'.circuit 3).state = st ∧ (s'.circuit 3).ackPulse = .running ∧ Come s'.timeBase (s'.circuit 3).ackEnd)) ∧
    (let s := bench { trunk .inAnswered with ansDue := some 15000 } (lead .on 900) spare (grp .incoming)
     s.resetAsserted = false ∧ (s.circuit 3).state = .inAnswered ∧ Come s.timeBase (s.circuit 3).ansDue) := by
  refine ⟨?_, rfl, by decide, come_now (by decide)⟩
  intro st _
  exact ⟨⟨rfl, rfl, rfl, show reached 15000 15000 = true by decide⟩, rfl, rfl, rfl,
    come_now (show instantDue 15000 (some 15000) = true by decide)⟩

theorem witness_ClearForwardBeginsTheGuard :
    (∀ st, st = .inSeized ∨ st = .inReceiving ∨ st = .inHeld ∨ st = .inAnswered ∨ st = .inClearedBack →
      let s := bench { trunk st with sup := .on } (lead .off 600) spare (grp .incoming)
      Awake s ∧ (s.circuit 3).state = st ∧ (s.filter 3).recCond = .off ∧ (s.heldOf 3).cfRec ≤ s.recFor 3 ∧
        (s.circuit 3).sup = .on) ∧
    (∀ value, value = 101 ∨ value = 100 →
      let gap : Timer := { start := 14900, value := value }
      let s := bench { trunk .inClearedBack with lastOff := some gap } (lead .off 600) spare (grp .incoming)
      Awake s ∧ (s.circuit 3).state = .inClearedBack ∧ (s.filter 3).recCond = .off ∧
        (s.heldOf 3).cfRec ≤ s.recFor 3 ∧ (s.circuit 3).sup = .off ∧ (s.circuit 3).lastOff = some gap ∧
        (if value = 101 then elapsed s.timeBase gap.start < gap.value
          else gap.value ≤ elapsed s.timeBase gap.start)) := by
  constructor
  · rintro _ (rfl | rfl | rfl | rfl | rfl) <;> exact ⟨bench_awake (by decide), by decide⟩
  · rintro _ (rfl | rfl) <;> exact ⟨bench_awake (by decide), by decide⟩

theorem witness_GuardEndMakesTheCircuitIdle : ∀ block cond digits place, (block, cond, digits, place) ∈
      [(false, Cond.off, none, CircuitState.idle), (true, .on, none, .blocked), (false, .on, none, .inPreseize),
       (false, .off, some [], .outSeizing), (false, .on, some [4, 0, 7], .outSeizing)] →
    let s := placing { timed .inGuard with sup := .on, blockPending := block } (lead cond 900) digits
    Awake s ∧ (s.circuit 3).state = .inGuard ∧ (s.circuit 3).sup = .on ∧ TimerReached 3 s ∧
      (s.circuit 3).group = some 0 ∧ s.placeOf 0 3 = place := by
  refine each4 ⟨?_, ?_, ?_, ?_, ?_, trivial⟩ <;>
    exact ⟨placing_awake (by decide), by decide, by decide, timer_reached (by decide), by decide⟩

/-- The waiting slot takes the circuit while no unit is FREE or parked, so that its request for a sender waits. -/
theorem witness_GuardEndMakesTheCircuitIdle_unserved :
    let s := unserved (placing { timed .inGuard with sup := .on } (lead .off 900) (some [4]))
    PoolSound s ∧ TimerReached 3 s ∧ s.placeOf 0 3 = .outSeizing ∧ s.freeUnit = none ∧ s.parked = [] :=
  ⟨unserved_pool (placing_awake (by decide)).2 (by decide) (by decide), timer_reached (by decide), by decide⟩

/-! ## Slots, units and the reference -/

/-- A bench on which slot A15 holds something and waits in group 0's queue if it is to. -/
def slotted (k : Slot) (queue : List SlotId) (c : Circuit) : State :=
  withPort (bench c (lead .off 900) spare { grp .outgoing with queue := queue })
    { PortRecord.reset with enabled := true, slots := PortRecord.reset.slots.set 15 k }

theorem witness_WaitingSlotExpires :
    let s := slotted (.waiting kept [4, 0, 7] true 15000) [{ port := .A, num := 15 }] (trunk .outAnswered)
    s.resetAsserted = false ∧ s.slot { port := .A, num := 15 } = .waiting kept [4, 0, 7] true 15000 ∧
      reached s.timeBase 15000 = true := by
  decide

theorem witness_ParkLimitFreesTheSender :
    let s := bench { trunk .outSending with unit := some 0 } (lead .off 900) (busy (.sender .parked)) (grp .outgoing)
    Awake s ∧ (s.unit 0).state = .sender .parked ∧ Come s.timeBase (s.unit 0).subEnd ∧
      (s.unit 0).circuit = some 3 ∧ s.regQueue = [] ∧ s.sndQueue = [] :=
  ⟨bench_awake (by decide), by decide, come_now (by decide), by decide⟩

/-- A sender or register on circuit 3 whose interval has just ended. -/
def ending (st : CircuitState) (sub : UnitState) (count pulses : Nat) (digits : List (Fin 10)) (sent : Nat)
    (eon : Bool) : State :=
  bench { trunk st with unit := some 0, digits := digits, sent := sent, eon := eon } (lead .on 30)
    { busy sub with count := count, pulses := pulses } (grp .bothway)

theorem witness_UnitIntervalsEnd : ∀ sub count, (sub, count) ∈
      [(.sender .waitStart, 0), (.sender .pause, 7), (.sender .inBreak, 9), (.sender .inMake, 9),
       (.register .inBreak, 0)] →
    let s := ending .outSending sub count 10 [7, 0] 1 false
    s.resetAsserted = false ∧ (s.unit 0).circuit = some 3 ∧ Come s.timeBase (s.unit 0).subEnd ∧
      (s.unit 0).state = sub ∧ (s.circuit 3).digits[(s.circuit 3).sent]? = some 0 ∧
      (sub = .sender .inBreak → (s.unit 0).count < (s.unit 0).pulses) ∧ (s.unit 0).longBrk = false := by
  intro sub count h
  refine ⟨rfl, rfl, come_now (show instantDue 15000 (some 15000) = true by decide), rfl, rfl, ?_, rfl⟩
  intro hs
  show count < 10
  rcases List.mem_cons.1 h with h | h <;> simp_all

theorem witness_DigitEndIsCounted : ∀ sent eon, (sent, eon) ∈ [(0, false), (1, true), (1, false)] →
    let s := ending .outSending (.sender .inBreak) 10 10 [0, 0] sent eon
    Awake s ∧ (s.unit 0).circuit = some 3 ∧ Come s.timeBase (s.unit 0).subEnd ∧
      (s.unit 0).state = .sender .inBreak ∧ (s.unit 0).pulses ≤ (s.unit 0).count ∧
      (s.circuit 3).digits.length = 2 ∧ (s.circuit 3).sent = sent ∧ (s.circuit 3).eon = eon ∧
      (s.unit 0).pendingOos = false ∧ s.regQueue = [] ∧ s.sndQueue = [] :=
  fun _ _ _ => ⟨bench_awake rfl, rfl, come_now (show instantDue 15000 (some 15000) = true by decide), rfl,
    Nat.le_refl 10, rfl, rfl, rfl, rfl, rfl, rfl⟩

theorem witness_MakeCompletesTheDigit : ∀ n have_, (n, have_) ∈ [(1, 23), (10, 24), (11, 0)] →
    let s := ending .inReceiving (.register .inMake) n 0 (List.replicate have_ 9) 0 false
    Awake s ∧ (s.unit 0).circuit = some 3 ∧ (s.circuit 3).group = some 0 ∧
      Come s.timeBase (s.unit 0).subEnd ∧ (s.unit 0).state = .register .inMake ∧ (s.unit 0).count = n ∧
      (s.circuit 3).digits.length = have_ :=
  fun _ _ _ => ⟨bench_awake rfl, rfl, rfl, come_now (show instantDue 15000 (some 15000) = true by decide), rfl, rfl,
    List.length_replicate⟩

/-- A digit that the reference applies, with override off and on, and one that is short of apply_every. -/
theorem witness_MakeCompletesTheDigit_applies : ∀ count override, (count, override) ∈ [(15, 0), (15, 1), (14, 0)] →
    let g : Group := { grp .incoming with
      params := Params.default.set Param.override.index override
      reference := { Reference.reset with ref := 800, locked := true, inRun := 4, sinceApply := count } }
    let s := bench { trunk .inReceiving with unit := some 0 } (lead .on 300)
      { busy (.register .inMake) with count := 10 } g
    Awake s ∧ Come s.timeBase (s.unit 0).subEnd ∧ (s.unit 0).circuit = some 3 ∧ (s.circuit 3).group = some 0 ∧
      (s.unit 0).state = .register .inMake ∧ (s.group 0).par .gate = 0 ∧ (s.group 0).par .override = override ∧
      ((s.group 0).par .applyEvery ≤ min 64 ((s.group 0).reference.sinceApply + 1) ↔ count = 15) ∧
      (s.group 0).reference.tBm ≠ (thresholdsOf (s.group 0)).1 := by
  refine each ⟨?_, ?_, ?_, trivial⟩ <;> exact ⟨bench_awake (by decide), come_now (by decide), by decide⟩

/-- Every unit out of service but unit 0, which is as given. -/
def noneFree (k : DigitUnit) : State :=
  { State.reset with
    units := (Vector.replicate 16 { DigitUnit.reset with state := .outOfService }).set 0 k
    parked := if k.state = .sender .parked then [0] else [] }

theorem witness_RequestsAreServedInOrder :
    ((State.reset.unit 0).state = .free ∧ ∀ v, v < 0 → (State.reset.unit v).state ≠ .free) ∧
    (let s := noneFree (busy (.sender .parked)); (∀ v, (s.unit v).state ≠ .free) ∧ s.parked = 0 :: []) ∧
    (let s := noneFree (busy (.register .waitDigit)); (∀ v, (s.unit v).state ≠ .free) ∧ s.parked = []) := by decide

/-- A group whose reference is at 1600 with a lock and its runs. -/
def refGroup (locked : Bool) (inRun outRun : Nat) : State :=
  bench (trunk .idle) (lead .off 9) spare
    { grp .incoming with
      reference := { Reference.reset with locked := locked, inRun := inRun, outRun := outRun } }

/-- The band of 1600 is 200: a period of 112 ms is in it (192 away) and one of 113 ms is not (208 away). -/
theorem witness_PeriodsMoveRefAndLock :
    ((16 * 112 : Int) - 1600).natAbs ≤ 1600 / 8 ∧ ¬ ((16 * 113 : Int) - 1600).natAbs ≤ 1600 / 8 ∧
    (∀ inRun, inRun = 2 ∨ inRun = 3 → ((refGroup false inRun 0).group 0).reference.ref = 1600 ∧
      ((refGroup false inRun 0).group 0).reference.inRun = inRun) ∧
    (∀ outRun, outRun = 1 ∨ outRun = 2 → ((refGroup true 4 outRun).group 0).reference.locked = true ∧
      ((refGroup true 4 outRun).group 0).reference.outRun = outRun) :=
  ⟨by decide, by decide, fun _ _ => ⟨rfl, rfl⟩, fun _ _ => ⟨rfl, rfl⟩⟩


/-! ## Orders -/

theorem witness_OrdersMeetTheCommonTests :
    (LastWord .clear { port := .A, data := 3, mperm := false, beside := false } [0x0302, 0, 3] (desk [0x0302, 0, 3] State.reset) ∧
      lengthAllowed .clear [0x0302, 0, 3] = false) ∧
    (let s : State := { State.reset with portB := { PortRecord.reset with assembly := .assembling [0x0301] 2 } }
     LastWord .clear { port := .B, data := 3, mperm := false, beside := false } [0x0301, 3] s ∧
      lengthAllowed .clear [0x0301, 3] = true ∧ (s.port .B).enabled = false ∧ OrderKind.isRead .clear = false) ∧
    (let s := desk [0x2900] State.reset
     LastWord .restartCalls { port := .A, data := 0x2900, mperm := false, beside := false } [0x2900] s ∧
      lengthAllowed .restartCalls [0x2900] = true ∧ (s.port .A).enabled = true ∧
      OrderKind.isMaintenance .restartCalls = true) := by
  unfold LastWord Open; decide

/-- A bench in which circuit 3 is owned by port A. -/
def mine (st : CircuitState) : State :=
  bench { trunk st with owner := some .A } (lead .off 900) spare (grp .bothway)

/-- SEIZE on group 0 with tag 5, wait 10, eon set and digits 4 0 7, and its variants. -/
theorem witness_CallOrdersAreRefusedInOrder_seize :
    (Takes .seize [0x0102, 0x0580, 0x2A00] (mine .outAnswered) ∧
      7 < field 0x0580 7 4) ∧
    (Takes .seize [0x0102, 0x0570, 0x2A00] (mine .outAnswered) ∧
      field 0x0570 7 4 = 7 ∧ ((mine .outAnswered).group 7).direction = .none) ∧
    (Takes .seize [0x0102, 0x0500, 0xF600] (mine .outAnswered) ∧
      field 0x0500 7 4 = 0 ∧ ((mine .outAnswered).group 0).direction = .bothway ∧ 60 < field 0xF600 15 10) ∧
    (Takes .seize [0x0103, 0x0500, 0xF203, 0x40A0] (mine .outAnswered) ∧
      field 0xF203 15 10 = 60 ∧ 2 < field 0xF203 4 0 ∧ 9 < nibbleAt [0x40A0] 2) ∧
    (Takes .seize [0x0109, 0x0500, 0x0019, 0, 0, 0, 0, 0, 0, 0] (mine .outAnswered) ∧
      24 < field 0x0019 4 0 ∧ ∀ i, i < field 0x0019 4 0 → nibbleAt [0, 0, 0, 0, 0, 0, 0] i ≤ 9) ∧
    (let full := withPort (mine .outAnswered)
       { PortRecord.reset with slots := Vector.replicate 16 (.outcome kept .expired) }
     Takes .seize [0x0102, 0x0500, 0x0000] full ∧
      ∀ n : Fin 16, (desk [0x0102, 0x0500, 0x0000] full).slot { port := .A, num := n } ≠ .free) := by
  and_intros <;> first | exact ready (by decide) | decide

/-- ADD DIGITS on circuit 3 (and on 96). -/
theorem witness_CallOrdersAreRefusedInOrder_addDigits :
    (Takes .addDigits [0x0201, 0xC000] State.reset ∧
      95 < field 0xC000 15 9) ∧
    (Takes .addDigits [0x0202, 0x0601, 0xA000] State.reset ∧
      field 0x0601 15 9 = 3 ∧ 0 < field 0x0601 4 0 ∧ 9 < nibbleAt [0xA000] 0) ∧
    (Takes .addDigits [0x0201, 0x0600] State.reset ∧
      (State.reset.circuit 3).owner ≠ some .A) ∧
    (Takes .addDigits [0x0201, 0x0600] (mine .outAnswered) ∧
      ((mine .outAnswered).circuit 3).owner = some .A ∧ ((mine .outAnswered).circuit 3).state = .outAnswered) ∧
    (let s := bench { trunk .outSeizing with owner := some .A, digits := List.replicate 24 9 } (lead .off 900) spare
       (grp .bothway)
     Takes .addDigits [0x0202, 0x0601, 0x9000] s ∧
      (s.circuit 3).owner = some .A ∧ (s.circuit 3).state = .outSeizing ∧ (s.circuit 3).eon = false ∧
      24 < (s.circuit 3).digits.length + field 0x0601 4 0) := by
  and_intros <;> first | exact ready (by decide) | decide

/-- CLEAR, RELEASE REGISTER, ANSWER and CLEAR BACK with their first words. -/
abbrev ownerOrders : List (OrderKind × Word) :=
  [(.clear, 0x0301), (.releaseRegister, 0x0701), (.answer, 0x0501), (.clearBack, 0x0601)]

/-- CLEAR, and in its place RELEASE REGISTER, ANSWER and CLEAR BACK, on circuit 3 (and on 96). -/
theorem witness_CallOrdersAreRefusedInOrder_owner : ∀ kind header,
    (kind, header) ∈ ownerOrders →
    (Takes kind [header, 96] State.reset ∧ 95 < field 96 6 0) ∧
    (Takes kind [header, 3] State.reset ∧ field 3 6 0 = 3 ∧
      (State.reset.circuit 3).owner ≠ some .A) ∧
    (Takes kind [header, 3] (mine .inSeized) ∧
      ((mine .inSeized).circuit 3).owner = some .A ∧ ((mine .inSeized).circuit 3).state ∉ statesOf kind) := by
  refine each ⟨?_, ?_, ?_, ?_, trivial⟩ <;>
    exact ⟨⟨ready (by decide), by decide⟩, ⟨ready (by decide), by decide⟩, ready (by decide), by decide⟩

theorem desk_pool {block s} (h : PoolSound s) : PoolSound (desk block s) :=
  pool_congr (s := s) rfl rfl rfl rfl rfl rfl h

/-- SEIZE with an idle circuit, with none and a wait, and with none and no wait; the slot is A15. -/
theorem witness_SeizeTakesQueuesOrCongests : ∀ idle w3,
    (idle, w3) ∈ [(true, 0x0203#16), (false, 0x0603), (false, 0x0203)] →
    let block : List Word := [0x0103, 0x0500, w3, 0x4070]
    let s := withPort
      (bench (trunk (if idle then .idle else .blocked)) (lead .off 900) spare
        { grp .outgoing with idle := if idle then [3] else [] })
      { PortRecord.reset with slots := (Vector.replicate 16 (.outcome kept .expired)).set 15 .free }
    PoolSound (desk block s) ∧ Takes .seize block s ∧
      field (wordAt block 1) 7 4 = 0 ∧ (s.group 0).direction = .outgoing ∧ field (wordAt block 2) 15 10 ≤ 60 ∧
      ([4, 0, 7] : List (Fin 10)).length = field (wordAt block 2) 4 0 ∧
      (∀ (i : Nat) (h : i < 3), (([4, 0, 7] : List (Fin 10))[i]).val = nibbleAt (block.drop 3) i) ∧
      s.slot { port := .A, num := 15 } = .free ∧ (∀ m, m < 15 → s.slot { port := .A, num := m } ≠ .free) ∧
      ((s.group 0).idle ≠ [] ↔ idle = true) ∧ (0 < field (wordAt block 2) 15 10 ↔ w3 = 0x0603) := by
  refine each ⟨?_, ?_, ?_, trivial⟩ <;>
    exact ⟨desk_pool (pool_port (bench_pool (by decide))), ready (by decide), by decide⟩

/-- The bench on which a SEIZE of group 0 finds circuit 3 idle. -/
def hunted : State := bench (trunk .idle) (lead .off 900) spare { grp .outgoing with idle := [3] }

/-- SEIZE of an idle circuit with no digit, and with one while no unit is FREE or parked. -/
theorem witness_SeizeTakesQueuesOrCongests_sender :
    (PoolSound (desk [0x0102, 0x0500, 0] hunted) ∧ Takes .seize [0x0102, 0x0500, 0] hunted ∧
      field 0 4 0 = ([] : List (Fin 10)).length ∧ (hunted.group 0).idle = [3]) ∧
    (let s := unserved hunted
     PoolSound (desk [0x0103, 0x0500, 1, 0x4000] s) ∧ Takes .seize [0x0103, 0x0500, 1, 0x4000] s ∧
       field 1 4 0 = ([4] : List (Fin 10)).length ∧ (s.group 0).idle = [3] ∧ s.freeUnit = none ∧ s.parked = []) :=
  ⟨⟨desk_pool (bench_pool (by decide)), ready (by decide), by decide⟩,
    desk_pool (unserved_pool (bench_pool (by decide)) (by decide) (by decide)), ready (by decide), by decide⟩

/-- ADD DIGITS with digit 7 and eon, in OUT_SEIZING and with all sent but the new digit in OUT_SENDING; and with no
digits and eon set or clear, which leaves nothing to send. -/
theorem witness_AddDigitsExtendsTheString : ∀ st block n, (st, block, n) ∈
      [(CircuitState.outSeizing, [0x0202#16, 0x0701, 0x7000], 1), (.outSending, [0x0202, 0x0601, 0x7000], 1),
       (.outSending, [0x0201, 0x0700], 0), (.outSending, [0x0201, 0x0600], 0)] →
    let s := bench { trunk st with owner := some .A, digits := List.replicate 23 9, sent := 23 } (lead .off 900) spare
      (grp .outgoing)
    PoolSound (desk block s) ∧ Takes .addDigits block s ∧
      field (wordAt block 1) 15 9 = 3 ∧ (List.replicate n (7 : Fin 10)).length = field (wordAt block 1) 4 0 ∧
      (∀ i, i < n → 7 = nibbleAt (block.drop 2) i) ∧
      (s.circuit 3).owner = some .A ∧ (s.circuit 3).state = st ∧ (s.circuit 3).eon = false ∧
      (s.circuit 3).digits.length + n ≤ 24 ∧ (s.circuit 3).unit = none ∧ (s.circuit 3).unitReq = none := by
  refine each3 ⟨?_, ?_, ?_, ?_, trivial⟩ <;>
    exact ⟨desk_pool (bench_pool (by decide)), ready (by decide), by decide⟩

/-- ADD DIGITS with digit 7 for a circuit whose sender is parked, waits undecided, pulses, pauses or waits decided, with
its start instant just come (id_send of 700 after 14300) and one millisecond off. -/
theorem witness_AddDigitsExtendsTheString_sender : ∀ st from_, (st, from_) ∈
      [((SenderSub.parked, some (20000 : Time)), (14300 : Time)), ((.parked, some 20000), 14301),
       ((.waitStart, none), 14300), ((.waitStart, none), 14301), ((.waitStart, some 16000), 14301),
       ((.inBreak, some 16000), 14301), ((.inMake, some 16000), 14301), ((.pause, some 16000), 14301)] →
    let s := bench
      { trunk .outSending with owner := some .A, digits := [4], sent := 1, unit := some 0, idSend := 700, lastBrkEnd := from_ }
      (lead .off 900) { busy (.sender st.1) with subEnd := st.2 } (grp .outgoing)
    PoolSound (desk [0x0202, 0x0601, 0x7000] s) ∧ Takes .addDigits [0x0202, 0x0601, 0x7000] s ∧
      (s.circuit 3).state = .outSending ∧ (s.circuit 3).unit = some 0 ∧ (s.circuit 3).eon = false ∧
      ((s.circuit 3).digits ++ [7])[(s.circuit 3).sent]? = some 7 ∧ ¬ (s.circuit 3).digits.length + 1 ≤ (s.circuit 3).sent ∧
      (s.unit 0).state = .sender st.1 ∧ (s.unit 0).subEnd = st.2 ∧
      (700 ≤ elapsed s.timeBase from_ ↔ from_ = 14300) := by
  refine each ⟨?_, ?_, ?_, ?_, ?_, ?_, ?_, ?_, trivial⟩ <;>
    exact ⟨desk_pool (bench_pool (by decide)), ready (by decide), by decide⟩

/-- The orders of the owner on circuit 3, in each state in which they act. -/
theorem witness_ownerOrdersAct : ∀ kind header st,
    (kind, header) ∈ ownerOrders →
    st ∈ statesOf kind →
    PoolSound (desk [header, 3] (mine st)) ∧ field (wordAt [header, 3] 1) 6 0 = 3 ∧
      ((mine st).circuit 3).owner = some .A ∧
      Takes kind [header, 3] (mine st) ∧
      ((mine st).circuit 3).state = st := by
  intro kind header st hk hs
  revert st
  revert kind header
  refine each ⟨?_, ?_, ?_, ?_, trivial⟩ <;>
    (intro st hs; simp only [statesOf, List.mem_cons, List.not_mem_nil, or_false] at hs
     rcases hs with rfl | rfl | rfl | rfl | rfl <;>
       exact ⟨desk_pool (bench_pool (by decide)), by decide, by decide, ready (by decide), by decide⟩)

theorem witness_ClearAndReleaseRegisterAct :
    (PoolSound (desk [0x0301, 3] (mine .outSeizing)) ∧
      Takes .clear [0x0301, 3] (mine .outSeizing)) ∧
    Takes .releaseRegister [0x0701, 3] (mine .inReceiving) :=
  ⟨⟨desk_pool (bench_pool (by decide)), ready (by decide)⟩, ready (by decide)⟩

/-- ANSWER with no pulse, with the pulse running, and with one that ended 99 ms ago under a sep of 100. -/
theorem witness_AnswerAndClearBackAct : ∀ pulse end_,
    (pulse, end_) ∈ [(AckPulse.none, none), (.running, some 15000#32), (.ended, some 14901), (.ended, some 14900)] →
    let s := desk [0x0501, 3]
      (bench { trunk .inHeld with owner := some .A, ackPulse := pulse, ackEnd := end_, ackEndSep := 100 }
        (lead .on 900) spare (grp .incoming))
    PoolSound s ∧ OrderReady .answer (last [0x0501, 3]) [0x0501, 3] s ∧ (s.circuit 3).owner = some .A ∧
      (s.circuit 3).state = .inHeld ∧ (s.circuit 3).ackPulse = pulse ∧ (s.circuit 3).ackEnd = end_ := by
  refine each ⟨?_, ?_, ?_, ?_, trivial⟩ <;>
    exact ⟨desk_pool (bench_pool (by decide)), ready (by decide), by decide⟩

/-- CANCEL of slot A15 by its state; of slot 16; and of a slot of port B. -/
theorem witness_CancelFreesAWaitingSlot :
    (∀ k queue, (k, queue) ∈ [(Slot.waiting kept [4] true 15001, [{ port := .A, num := 15 }]), (.seizing kept 3, []),
        (.outcome kept .expired, []), (.free, [])] →
      let s := slotted k queue (trunk .outSeizing)
      Takes .cancel [0x0401, 15] s ∧ field 15 5 0 = 15 ∧
        bitSet 15 7 = false ∧ (desk [0x0401, 15] s).slot { port := .A, num := 15 } = k) ∧
    (Takes .cancel [0x0401, 16] State.reset ∧ 15 < field 16 5 0) ∧
    (Takes .cancel [0x0401, 0x8F] State.reset ∧
      field 0x8F 5 0 = 15 ∧ bitSet 0x8F 7 = true) := by
  refine ⟨?_, ⟨ready (by decide), by decide⟩, ready (by decide), by decide⟩
  refine each ⟨?_, ?_, ?_, ?_, trivial⟩ <;> exact ⟨ready (by decide), by decide⟩

/-! ## Maintenance orders -/

/-- The pair of a CONFIGURE GROUP with one pair, and the two of one with two. -/
theorem pair_of_four (a b x y : Word) (j sel v : Nat) :
    PairAt [a, b, x, y] j sel v ↔ j = 0 ∧ field x 7 0 = sel ∧ y.toNat = v := by
  unfold PairAt
  constructor
  · rintro ⟨h, h'⟩
    obtain rfl : j = 0 := by simp at h; omega
    exact ⟨rfl, h'⟩
  · rintro ⟨rfl, h⟩
    exact ⟨by simp, h⟩

theorem pair_of_six (a b x y z w : Word) (j sel v : Nat) :
    PairAt [a, b, x, y, z, w] j sel v ↔
      (j = 0 ∧ field x 7 0 = sel ∧ y.toNat = v) ∨ (j = 1 ∧ field z 7 0 = sel ∧ w.toNat = v) := by
  unfold PairAt
  constructor
  · rintro ⟨h, h'⟩
    have hj : j = 0 ∨ j = 1 := by simp at h; omega
    rcases hj with rfl | rfl
    · exact .inl ⟨rfl, h'⟩
    · exact .inr ⟨rfl, h'⟩
  · rintro (⟨rfl, h⟩ | ⟨rfl, h⟩) <;> exact ⟨by simp, h⟩

/-- One pair is good if it is allowed. -/
theorem pairs_good (a b x y : Word) (h : PairAllowed (field x 7 0) y.toNat) : ¬ PairsBad [a, b, x, y] := by
  simp only [PairsBad, pair_of_four]
  rintro (⟨_, _, _, ⟨-, rfl, rfl⟩, hn⟩ | ⟨i, j, _, _, _, hij, ⟨rfl, -⟩, rfl, -⟩)
  · exact hn h
  · exact hij rfl

/-- CONFIGURE GROUP on group 8; with direction code 4, and with one selector twice; and with pairs that pass test 2. -/
theorem witness_ConfigureGroupStoresItsFields :
    (Takes .configureGroup [0x2001, 8] State.reset ∧ 7 < field 8 3 0) ∧
    (Takes .configureGroup [0x2003, 0, 1, 4] State.reset ∧ PairAt [0x2003, 0, 1, 4] 0 1 4 ∧ ¬ PairAllowed 1 4) ∧
    (Takes .configureGroup [0x2005, 0, 8, 5, 8, 6] State.reset ∧ PairAt [0x2005, 0, 8, 5, 8, 6] 0 8 5 ∧
      PairAt [0x2005, 0, 8, 5, 8, 6] 1 8 6) ∧
    (∀ x y : Word, (x, y) ∈ [(1#16, 3#16), (3, 2), (1, 0), (16, 50), (40, 120)] →
      field 0 3 0 = 0 ∧ ¬ PairsBad [0x2003, 0, x, y]) := by
  simp only [pair_of_four, pair_of_six, PairAllowed]
  refine ⟨?_, ?_, ?_, each ⟨?_, ?_, ?_, ?_, ?_, trivial⟩⟩
  all_goals first
    | exact ⟨ready (by decide), by decide⟩
    | exact ⟨by decide, pairs_good _ _ _ _ (by unfold PairAllowed; decide)⟩

/-- What CONFIGURE GROUP does with them: a structural field with a call, and one of an unmade group's member; direction
from OUTGOING to BOTHWAY with an IDLE member whose lead is ON; override turned on, and cb_limit 5 stored as 10. -/
theorem witness_ConfigureGroupStoresItsFields_carried :
    Carries [0x2003, 0, 3, 2] { GroupChange.empty with huntMode := some .longestIdle } ∧
    Carries [0x2003, 0, 1, 0] { GroupChange.empty with direction := some .none } ∧
    Carries [0x2003, 0, 1, 3] { GroupChange.empty with direction := some .bothway } ∧
    Carries [0x2005, 0, 38, 1, 21, 5] { GroupChange.empty with params := [(.override, 1), (.cbLimit, 5)] } := by
  simp only [Carries, CarriesField, Coded, pair_of_four, pair_of_six, GroupChange.empty]
  refine ⟨?_, ?_, ?_, ?_⟩ <;> and_intros <;> intro x <;> cases x <;>
    simp [field, Param.index, eq_comm]

/-- The states in which they do it. -/
theorem witness_ConfigureGroupStoresItsFields_states :
    (Takes .configureGroup [0x2003, 0, 3, 2] (mine .outAnswered) ∧
      ((mine .outAnswered).group 0).huntMode = .lowFirst ∧ ((mine .outAnswered).circuit 3).group = some 0 ∧
      ((mine .outAnswered).circuit 3).state = .outAnswered) ∧
    (Takes .configureGroup [0x2003, 0, 1, 0] (mine .blocked) ∧ ((mine .blocked).circuit 3).group = some 0) ∧
    (let s := bench (trunk .idle) (lead .on 900) spare { grp .outgoing with idle := [3] }
     PoolSound (desk [0x2003, 0, 1, 3] s) ∧ Takes .configureGroup [0x2003, 0, 1, 3] s ∧
       (s.group 0).direction = .outgoing ∧ (s.circuit 3).group = some 0 ∧ (s.circuit 3).state = .idle ∧
       (s.filter 3).recCond = .on) ∧
    (let s := bench { trunk .outSending with unit := some 0 } (lead .off 900) (busy (.sender .parked)) (grp .outgoing)
     PoolSound (desk [0x2003, 0, 16, 50] s) ∧ Takes .configureGroup [0x2003, 0, 16, 50] s ∧
       (s.group 0).par .brkSend = 60 ∧ 0 ∈ s.parked ∧ (s.unit 0).circuit = some 3 ∧ (s.circuit 3).group = some 0) ∧
    (let s := bench (trunk .blocked) (lead .off 900) spare
       { grp .outgoing with params := (Params.default.set 30 1) }
     PoolSound (desk [0x2003, 0, 40, 120] s) ∧ Takes .configureGroup [0x2003, 0, 40, 120] s ∧
       (s.group 0).par .override = 1 ∧ (s.group 0).par .ovrBm = 100) ∧
    (Takes .configureGroup [0x2005, 0, 38, 1, 21, 5] (mine .outAnswered) ∧
      ((mine .outAnswered).group 0).par .override = 0 ∧ Param.cbLimit.clamp 5 = 10) := by
  and_intros <;> first | exact desk_pool (bench_pool (by decide)) | exact ready (by decide) | decide

/-- ASSIGN CIRCUIT of circuit 3: trunk number 1000; none, UNEQUIPPED and in a call; group 8; an unmade group; group 0. -/
theorem witness_AssignCircuitPlacesTheCircuit :
    (Takes .assignCircuit [0x2102, 3, 1000] State.reset ∧
      999 < field 1000 9 0) ∧
    (Takes .assignCircuit [0x2102, 0x8003, 999] State.reset ∧
      bitSet 0x8003 15 = true ∧ field 0x8003 6 0 = 3 ∧ field 999 9 0 = 999 ∧
      (State.reset.circuit 3).state = .unequipped ∧ ((mine .outAnswered).circuit 3).state = .outAnswered) ∧
    (Takes .assignCircuit [0x2102, 0x0803, 999] State.reset ∧
      bitSet 0x0803 15 = false ∧ 7 < field 0x0803 11 8) ∧
    (Takes .assignCircuit [0x2102, 0x0703, 999] State.reset ∧
      field 0x0703 11 8 = 7 ∧ (State.reset.group 7).direction = .none) ∧
    (Takes .assignCircuit [0x2102, 0x0003, 999] (mine .blocked) ∧
      field 0x0003 11 8 = 0 ∧ ((mine .blocked).group 0).direction ≠ .none ∧
      ((mine .blocked).circuit 3).state = .blocked) := by
  and_intros <;> first | exact ready (by decide) | decide

/-- A bench with circuit 3 in a state, on the idle list if IDLE. -/
def resting (st : CircuitState) : State :=
  bench (trunk st) (lead .on 900) spare { grp .bothway with idle := if st = .idle then [3] else [] }

theorem witness_BlockActsByState :
    (∀ st, st = .unequipped ∨ st = .blocked ∨ st = .idle ∨ st = .inGuard →
      PoolSound (desk [0x2201, 3] (resting st)) ∧
      Takes .block [0x2201, 3] (resting st) ∧ field 3 6 0 = 3 ∧
        ((resting st).circuit 3).state = st ∧ ((resting st).circuit 3).group = some 0) ∧
    (Takes .block [0x2201, 96] State.reset ∧ 95 < field 96 6 0) := by
  refine ⟨?_, ready (by decide), by decide⟩
  rintro _ (rfl | rfl | rfl | rfl) <;> exact ⟨desk_pool (bench_pool (by decide)), ready (by decide), by decide⟩

theorem witness_UnblockAndResetReturnTheCircuit : ∀ kind header st, (kind, header, st) ∈
      [(OrderKind.unblock, 0x2301#16, CircuitState.blocked), (.unblock, 0x2301, .fault), (.resetCircuit, 0x2401, .fault),
       (.resetCircuit, 0x2401, .blocked)] →
    PoolSound (desk [header, 3] (resting st)) ∧ RestSound (desk [header, 3] (resting st)) ∧
      Takes kind [header, 3] (resting st) ∧
      ((resting st).circuit 3).group = some 0 ∧ ((resting st).circuit 3).state = st := by
  refine each3 ⟨?_, ?_, ?_, ?_, trivial⟩ <;>
    exact ⟨desk_pool (bench_pool (by decide)),
      bench_rest (f := lead .on 900) (u := spare) (g := grp .bothway) (by decide), ready (by decide), by decide⟩

/-- Where UNBLOCK and RESET CIRCUIT place a circuit. -/
theorem witness_UnblockAndResetReturnTheCircuit_places : ∀ st block digits place, (st, block, digits, place) ∈
      [(CircuitState.blocked, false, none, CircuitState.inPreseize), (.fault, true, none, .blocked),
       (.blocked, false, some [4, 0, 7], .outSeizing)] →
    let s := placing { trunk st with blockPending := block } (lead .on 900) digits
    let header : Word := if st = .fault then 0x2401 else 0x2301
    PoolSound (desk [header, 3] s) ∧ RestSound (desk [header, 3] s) ∧
      Takes (if st = .fault then .resetCircuit else .unblock) [header, 3] s ∧ (s.circuit 3).group = some 0 ∧
      (s.circuit 3).state = st ∧ s.placeOf 0 3 = place := by
  refine each4 ⟨?_, ?_, ?_, trivial⟩ <;>
    exact ⟨desk_pool (placing_awake (by decide)).2, placing_rest (f := lead .on 900) (by decide), ready (by decide),
      by decide⟩

/-- UNIT SERVICE off and on for unit 0 in each kind of state; unit 16; and a queue that waits. -/
theorem witness_UnitServiceActsByState :
    (∀ st c, (st, c) ∈ [(UnitState.outOfService, none), (.free, none), (.sender .parked, some (3 : Fin 96)),
        (.sender .inBreak, some 3)] →
      let s := bench { trunk .outSending with unit := c.map fun _ => 0 } (lead .off 9)
        { DigitUnit.reset with state := st, circuit := c } (grp .outgoing)
      PoolSound (desk [0x2501, 0] s) ∧ (s.unit 0).state = st ∧
        Takes .unitServiceOff [0x2501, 0] s ∧
        Takes .unitServiceOn [0x2501, 0x0100] s ∧
        s.regQueue = [] ∧ s.sndQueue = []) ∧
    (Takes .unitServiceOff [0x2501, 16] State.reset ∧ 15 < field 16 4 0) ∧
    (∀ st r, (st, r) ∈ [(CircuitState.inSeized, regReq), (.outSending, sndReq)] →
      let s := bench { trunk st with unitReq := some r } (lead .off 9)
        { DigitUnit.reset with state := .outOfService } (grp .bothway)
      PoolSound (desk [0x2501, 0x0100] s) ∧
        Takes .unitServiceOn [0x2501, 0x0100] s ∧
        (s.unit 0).state = .outOfService ∧
        (if r.cls = .register then s.regQueue else s.sndQueue) = { circuit := 3, time := 14000 } :: [] ∧
        (r.cls = .sender → s.regQueue = [])) := by
  refine ⟨?_, ⟨ready (by decide), by decide⟩, ?_⟩
  · refine each ⟨?_, ?_, ?_, ?_, trivial⟩ <;>
      exact ⟨desk_pool (bench_pool (by decide)), by decide, ready (by decide), ready (by decide), by decide⟩
  · refine each ⟨?_, ?_, trivial⟩ <;> exact ⟨desk_pool (bench_pool (by decide)), ready (by decide), by decide⟩

theorem witness_ReferenceApplySetsTheThresholds : ∀ w2 : Word, w2 = 8 ∨ w2 = 0x0207 ∨ w2 = 7 →
    Takes .referenceControlApply [0x2602, w2, 0] State.reset ∧
      (w2 = 8 → 7 < field w2 3 0) ∧ (w2 = 0x0207 → field w2 3 0 = 7 ∧ field w2 11 8 ≠ 0) ∧
      (w2 = 7 → field w2 3 0 = 7 ∧ field w2 11 8 = 0) := by
  rintro _ (rfl | rfl | rfl) <;> exact ⟨ready (by decide), by decide⟩

theorem witness_ReferenceSetStoresRef :
    (∀ v : Word, v = 799 ∨ v = 800 ∨ v = 3200 ∨ v = 3201 →
      Takes .referenceControlSet [0x2602, 0x0107, v] State.reset ∧ field 0x0107 3 0 = 7) ∧
    (Takes .referenceControlSet [0x2602, 0x0108, 0] State.reset ∧ 7 < field 0x0108 3 0) := by
  refine ⟨?_, ready (by decide), by decide⟩
  rintro _ (rfl | rfl | rfl | rfl) <;> exact ⟨ready (by decide), by decide⟩

theorem witness_WatchSetStoresItsFields : ∀ w2 w3, (w2, w3) ∈
      [(0x8803#16, 0#16), (0x8060, 0), (0x8703, 8), (0x8703, 0x3000), (0x875F, 0x2337)] →
    Takes .watchSet [0x2702, w2, w3] State.reset ∧
      ((w2, w3) = (0x8803#16, 0#16) → 7 < field w2 11 8) ∧ ((w2, w3) = (0x8060#16, 0#16) → 95 < field w2 6 0) ∧
      ((w2, w3) = (0x8703#16, 8#16) → 7 < field w3 3 0) ∧ ((w2, w3) = (0x8703#16, 0x3000#16) → field w3 13 12 = 3) ∧
      ((w2, w3) = (0x875F#16, 0x2337#16) → field w2 11 8 = 7 ∧ field w2 6 0 = 95 ∧ field w3 3 0 = 7 ∧
        field w3 13 12 = 2 ∧ field w3 9 8 = 3 ∧ field w3 5 4 = 3) := by
  refine each ⟨?_, ?_, ?_, ?_, ?_, trivial⟩ <;>
    exact ⟨ready (by decide), by decide⟩

theorem witness_ForceSetStoresItsFields : ∀ w2 : Word, w2 = 0x8803 ∨ w2 = 0x8060 ∨ w2 = 0xC75F →
    Takes .forceSet [0x2801, w2] State.reset ∧
      (w2 = 0x8803 → 7 < field w2 11 8) ∧ (w2 = 0x8060 → 95 < field w2 6 0) ∧
      (w2 = 0xC75F → field w2 11 8 = 7 ∧ field w2 6 0 = 95) := by
  rintro _ (rfl | rfl | rfl) <;> exact ⟨ready (by decide), by decide⟩

theorem witness_RestartClearsEveryCall :
    PoolSound (desk [0x2900] (mine .outSeizing)) ∧
      Takes .restartCalls [0x2900] (mine .outSeizing) :=
  ⟨desk_pool (bench_pool (by decide)), ready (by decide)⟩


/-- RESTART CALLS while the other port answers a read, with an order half written and a report half read. -/
theorem witness_RestartClearsEveryCall_otherPort :
    let s : State := { mine .outSeizing with
      portB := { PortRecord.reset with
        enabled := true, rsel := true, handshake := .replyingRead 0x100 true, assembly := .assembling [0x0102] 3
        report := some (reading true 2) } }
    PoolSound (desk [0x2900] s) ∧ Takes .restartCalls [0x2900] s ∧
      (s.port .B).report = some (reading true 2) ∧ (reading true 2).merge = true :=
  ⟨pool_congr (s := mine .outSeizing) rfl rfl rfl rfl rfl rfl (bench_pool (by decide)), ready (by decide), by decide⟩

/-! ## The other accesses of a port -/

/-- A port A that is QUIET, with what the function changes. -/
def portA (f : PortRecord → PortRecord) : State := withPort State.reset (f { PortRecord.reset with enabled := true })

theorem portA_open (f : PortRecord → PortRecord)
    (h : ((f { PortRecord.reset with enabled := true }).handshake = .quiet) ∧
      (f { PortRecord.reset with enabled := true }).wsel = false ∧
      (f { PortRecord.reset with enabled := true }).rsel = false) : Open .A (portA f) :=
  ⟨rfl, h⟩

theorem witness_WritesAreAssembledOrDiscarded :
    (let s := portA id; Open .A s ∧ (s.port .A).assembly = .empty ∧ 1 < field 0x0301 3 0 + 1) ∧
    (let s := portA fun r => { r with assembly := .assembling [0x0102] 3 }
     Open .A s ∧ (s.port .A).assembly = .assembling [0x0102] 3 ∧ [0x0102#16].length + 1 < 3) ∧
    (let s := portA id
     Open .A s ∧ (s.port .A).completes 0x3000 = true ∧ orderKind ((s.port .A).taken 0x3000).1 = none) := by
  and_intros <;> first | exact portA_open _ (by decide) | decide

theorem witness_ResultReadsPresentTheBlock :
    (∀ pos word, (pos, word) ∈ [(1, 0x0401#16), (2, 0x008F)] →
      let s := portA fun r => { r with result := [0x0401, 0x008F], resultPos := pos }
      Open .A s ∧ (s.port .A).assembly = .empty ∧ 1 ≤ (s.port .A).resultPos ∧
        (s.port .A).result[(s.port .A).resultPos - 1]? = some word) ∧
    (let s := portA fun r => { r with assembly := .assembling [0x0102] 3, result := [] }
     Open .A s ∧ (s.port .A).assembly = .assembling [0x0102] 3) := by
  refine ⟨each ⟨?_, ?_, trivial⟩, portA_open _ (by decide), by decide⟩ <;>
    exact ⟨portA_open _ (by decide), by decide⟩

theorem witness_ReportReadsPresentTheSnapshot :
    (let s := portA fun r => { r with assembly := .assembling [0x0102] 3, attention := [.watch 7] }
     Open .A s ∧ (s.port .A).assembly = .assembling [0x0102] 3) ∧
    (let s := portA id
     Open .A s ∧ (s.port .A).assembly = .empty ∧ (s.port .A).report = none ∧ (s.port .A).attention = []) ∧
    (∀ position word, (position, word) ∈ [(2, 0#16), (6, 0x0500)] →
      let s := portA fun r => { r with report := some (reading true position) }
      Open .A s ∧ (s.port .A).assembly = .empty ∧ (s.port .A).report = some (reading true position) ∧
        1 ≤ (reading true position).position ∧
        (reading true position).words[(reading true position).position - 1]? = some word) := by
  refine ⟨?_, ?_, each ⟨?_, ?_, trivial⟩⟩ <;> exact ⟨portA_open _ (by decide), by decide⟩

/-- Selects of port A and its handshake, for each clause. -/
theorem witness_SelectsAreAnsweredInTurn :
    (let s := portA fun r => { r with handshake := .replyingRead 0x100 true, rsel := true }
     s.resetAsserted = false ∧ (s.port .A).wsel = false ∧ (s.port .A).rsel = true ∧
       (s.port .A).handshake = .replyingRead 0x100 true) ∧
    (let s := portA fun r => { r with handshake := .replyingWrite, wsel := true }
     s.resetAsserted = false ∧ (s.port .A).wsel = true ∧ (s.port .A).rsel = false ∧
       (s.port .A).handshake = .replyingWrite) ∧
    (let s := portA id
     s.resetAsserted = false ∧ (s.port .A).wsel = false ∧ (s.port .A).rsel = false) ∧
    (∀ h, h = .quiet ∨ h = .replyingWrite ∨ h = .replyingRead 0x100 true →
      let s := portA fun r => { r with handshake := h, wsel := true, rsel := true }
      s.resetAsserted = false ∧ (s.port .A).wsel = true ∧ (s.port .A).rsel = true ∧ (s.port .A).handshake = h) ∧
    ((portA id).port .A).completedKind 0x0301 = none ∧
    ((portA id).port .A).completedKind 0x2900 = some .restartCalls := by
  refine ⟨by decide, by decide, by decide, ?_, by decide⟩
  rintro _ (rfl | rfl | rfl) <;> decide

theorem witness_AbandonedReadGivesBack :
    (let s := portA fun r => { r with report := some (reading true 2) }
     (s.port .A).report = some (reading true 2) ∧ s.slot { port := .A, num := 15 } = .free) ∧
    (let s := portA fun r => { r with report := some (reading false 2) }
     (s.port .A).report = some (reading false 2) ∧ (reading false 2).merge = false) ∧
    (let s := portA fun r => { r with
        report := some (reading true 2), slots := r.slots.set 15 (.seizing kept 3) }
     (s.port .A).report = some (reading true 2) ∧ (reading true 2).merge = true ∧
       s.slot { port := .A, num := 15 } ≠ .free) := by decide

/-- Circuit 3 owned by port A, with an answer pending for it, its slot A15, and the ports enabled as given. -/
def owned (a b : Bool) : State :=
  { mine .outAnswered with
    portA := { PortRecord.reset with
      enabled := a, attention := [.circuit 3]
      pend := PortRecord.reset.pend.set 3 { bits := Event.answered.mask, discarded := 2 }
      slots := PortRecord.reset.slots.set 15 (.waiting kept [4] true 15001) }
    portB := { PortRecord.reset with enabled := b } }

theorem witness_PenChangesMoveOwnership : ∀ a b,
    (owned a b).resetAsserted = false ∧ AttentionSound (owned a b) ∧ ((owned a b).port .A).enabled = a ∧ ((owned a b).port .B).enabled = b ∧
      ((owned a b).circuit 3).owner = some .A ∧
      (owned a b).slot { port := .A, num := 15 } = .waiting kept [4] true 15001 :=
  fun a b => ⟨rfl, fun p => by cases p <;> simp [owned, State.port, PortRecord.reset], rfl, rfl, rfl, rfl⟩

/-- A transfer of two circuits, 95 on the old port's list and 3 not, with answered pending on both ports for 95; on the rise of
A, a report read of 95 that B was making is abandoned first. -/
theorem witness_PenChangesMoveOwnership_order :
    let mineB : Circuit := { trunk .outAnswered with owner := some .B }
    let s : State := { bench mineB (lead .off 900) spare (grp .outgoing) with
      circuits := (State.reset.circuits.set 3 mineB).set 95 mineB
      portA := { PortRecord.reset with
        pend := PortRecord.reset.pend.set 95 { bits := Event.answered.mask, discarded := 7 } }
      portB := { PortRecord.reset with
        attention := [.circuit 95]
        pend := PortRecord.reset.pend.set 95 { bits := Event.answered.mask, discarded := 2 } } }
    let r : State := { s with portB := { s.portB with report := some { reading true 2 with item := .circuit 95 } } }
    s.resetAsserted = false ∧ AttentionSound s ∧ AttentionSound r ∧ (s.port .A).enabled = false ∧
      (s.port .B).enabled = false ∧ s.handedItems .B = [.circuit 95, .circuit 3] ∧ readsOwnCircuit .B s = false ∧
      readsOwnCircuit .B r = true ∧ ((s.port .B).pend[95]).has .answered = true ∧
      ((s.port .A).pend[95]).has .answered = true := by
  refine ⟨rfl, ?_, ?_, by decide⟩ <;> intro p <;> cases p <;> decide

/-! ## Invariants -/

/-- A circuit in IN_SEIZED with a request for a register, owned by port B. -/
def asking : Circuit := { trunk .inSeized with owner := some .B, unitReq := some regReq }

/-- A bench with that circuit, and the command that answers its wait's end waiting. -/
def running : State :=
  { bench asking (lead .on 1000) oos (grp .incoming) with pending := [.registerCongestion 3] }

theorem running_circuit (c : Fin 96) : running.circuit c = if c = 3 then asking else Circuit.reset :=
  bench_circuit asking (lead .on 1000) oos (grp .incoming) c

theorem running_group (x : Fin 8) : running.group x = if x = 0 then grp .incoming else Group.reset :=
  bench_group asking (lead .on 1000) oos (grp .incoming) x

theorem default_admits : ∀ p : Param, p.admits (Params.default[p.index]) := by
  intro p; cases p <;> (unfold Param.admits; decide)

theorem running_references : ReferencesSound running := by
  intro x
  rw [running_group]
  by_cases hx : x = 0 <;> simp only [hx, if_true, if_false] <;>
    exact ⟨fun p => default_admits p, by simp [Group.reset, grp, Reference.reset, Reference.Sound]⟩

theorem running_attention : AttentionSound running := by
  intro p; cases p <;> exact List.nodup_nil

theorem running_pool : PoolSound running :=
  pool_congr (s := bench asking (lead .on 1000) oos (grp .incoming)) rfl rfl rfl rfl rfl rfl (bench_pool (by decide))

theorem running_slot (id : SlotId) : running.slot id = .free := by
  obtain ⟨p, n⟩ := id
  cases p <;> simp [running, bench, State.slot, State.port, State.reset, PortRecord.reset]

theorem running_slots : SlotsSound running := by
  have hg : ∀ x, (running.group x).queue = [] := fun x => by
    rw [running_group]; by_cases hx : x = 0 <;> simp [hx, grp, Group.reset]
  have hc : ∀ c, (running.circuit c).slot = none := fun c => by
    rw [running_circuit]; by_cases hx : c = 3 <;> simp [hx, asking, trunk, Circuit.reset]
  constructor
  case waiting => intro x id; simp [hg, running_slot]
  case waitingOnce => intro x; simp [hg]
  case noneIdle => intro x; simp [hg]
  case linked => intro c id; simp [hc, running_slot]
  case seizing => intro c id; simp [hc]
  case disabledFree => intro p n _; exact running_slot _

theorem running_rest : RestSound running :=
  bench_rest (k := asking) (f := lead .on 1000) (u := oos) (g := grp .incoming) (by decide)

theorem running_fields : FieldsSound running := by
  refine ⟨fun c => ?_, fun id => ?_, fun w => ?_⟩
  · rw [running_circuit]; by_cases hx : c = 3 <;> simp [hx, asking, trunk, Circuit.reset]
  · rw [running_slot]; trivial
  · simp [running, bench, State.watch, State.reset, WatchChannel.reset]

theorem running_unit (v : Fin 16) : running.unit v = oos := by
  rw [show running.unit v = (bench asking (lead .on 1000) oos (grp .incoming)).unit v from rfl, bench_unit]
  by_cases hv : v = 0 <;> simp [hv, asking, trunk]

theorem running_digits : DigitsSound running := by
  refine ⟨fun c => ?_, fun v => ?_⟩
  · rw [running_circuit]; by_cases hx : c = 3 <;> simp [hx, asking, trunk, Circuit.reset]
  · rw [running_unit]; simp [oos, DigitUnit.reset]

theorem no_events (it : Item) : EventSet.empty.Fits it := ⟨fun i h => by simp [EventSet.empty] at h, by decide⟩

theorem running_events : EventsSound running := by
  intro p
  cases p <;> exact ⟨fun it => by
    simpa [running, bench, State.reset, State.port, PortRecord.reset] using no_events it, fun _ h => nomatch h⟩

/-- The premises of the invariants' statements, met together by one state whose step changes it. -/
theorem witness_invariants :
    ReferencesSound running ∧ AttentionSound running ∧ PoolSound running ∧ SlotsSound running ∧ RestSound running ∧
      FieldsSound running ∧ DigitsSound running ∧ EventsSound running ∧
      ∃ t, step running = .next t ∧ (t.circuit 3).unitReq = none :=
  ⟨running_references, running_attention, running_pool, running_slots, running_rest, running_fields, running_digits,
    running_events, _, rfl, by decide⟩

/-! ## Snapshots -/

theorem desk_slot (block : List Word) (s : State) (id : SlotId) : (desk block s).slot id = s.slot id := by
  obtain ⟨p, n⟩ := id
  cases p <;> rfl

theorem desk_slots {block s} (h : SlotsSound s) : SlotsSound (desk block s) := by
  constructor <;> (try simp only [desk_slot])
  case waiting => exact h.waiting
  case waitingOnce => exact h.waitingOnce
  case noneIdle => exact h.noneIdle
  case linked => exact h.linked
  case seizing => exact h.seizing
  case disabledFree =>
    intro p n hp
    cases p
    · cases hp
    · exact h.disabledFree .B n hp

theorem desk_fields {block s} (h : FieldsSound s) : FieldsSound (desk block s) :=
  ⟨h.1, fun id => by rw [desk_slot]; exact h.2.1 id, h.2.2⟩

/-- What the READ orders ask of a state, met by the state of the invariants with an order written on port A. -/
theorem witness_ReadOrdersAnswerSnapshots : ∀ kind block, (kind, block) ∈
      [(OrderKind.readCircuit, [0x1001#16, 95]), (.readCircuit, [0x1001, 96]), (.readGroup, [0x1101, 7]),
       (.readGroup, [0x1101, 8]), (.readUnit, [0x1201, 15]), (.readUnit, [0x1201, 16])] →
    let s := desk block running
    PoolSound s ∧ SlotsSound s ∧ ReferencesSound s ∧ FieldsSound s ∧ DigitsSound s ∧ Takes kind block running := by
  refine each ⟨?_, ?_, ?_, ?_, ?_, ?_, trivial⟩ <;>
    exact ⟨desk_pool running_pool, desk_slots running_slots, running_references, desk_fields running_fields,
      running_digits, ready (by decide)⟩

/-- The state of the invariants with an item at the head of port A's attention list. -/
def reporting (it : Item) : State := withPort running { PortRecord.reset with attention := [it] }

theorem witness_ReportReadsPresentTheSnapshot_words : ∀ it,
    let s := reporting it
    Open .A s ∧ (s.port .A).assembly = .empty ∧ (s.port .A).report = none ∧ (s.port .A).attention = it :: [] ∧
      ReferencesSound s ∧ FieldsSound s ∧ DigitsSound s ∧ EventsSound s := by
  intro it
  refine ⟨⟨rfl, rfl, rfl, rfl⟩, rfl, rfl, rfl, running_references, ⟨running_fields.1, ?_, running_fields.2.2⟩,
    running_digits, ?_⟩
  · rintro ⟨p, n⟩
    cases p
    · simp [reporting, withPort, State.slot, State.port, PortRecord.reset, Slot.Sound]
    · exact running_fields.2.1 { port := .B, num := n }
  · intro p
    cases p
    · exact ⟨fun x => by simpa [reporting, withPort, State.port, PortRecord.reset] using no_events x, fun _ h => nomatch h⟩
    · exact running_events .B

/-! ## WellFormed refuses what the part has not -/

theorem test_no_circuit_96 :
    WellFormed (.rawLeadChange 96 .on) = false ∧ WellFormed (.rawLeadChange 95 .on) = true := by
  decide

theorem test_no_unit_16 : WellFormed (.digitComplete 16) = false ∧ WellFormed (.digitComplete 15) = true := by decide

theorem test_no_slot_16 : WellFormed (.slotExpiry .B 16) = false ∧ WellFormed (.slotExpiry .B 15) = true := by decide

/-- No row of the table has bits, so no word spells a command. -/
theorem test_no_word_is_a_command : decodeTableWord 16 0x0103 = none := by decide

/-! ## Worked figures of the spec -/

/-- One field of the state that a command answers. -/
def after {α : Type} (i : Instr) (s : State) (f : State → α) : Option α :=
  match exec i s with
  | .next t => some (f t)
  | .fault _ | .refused _ => none

/-- The result block after an order written on port A of a state. -/
def resultOf (i : OrderWrite → Instr) (block : List Word) (s : State) : Option (List Word) :=
  after (i (last block)) (desk block s) fun t => (t.port .A).result

/-- Chapter 12, the worked example: SEIZE on group 3 answers SEIZED with circuit 14 and slot A0. -/
theorem test_seize_words :
    let s : State := { State.reset with
      circuits := State.reset.circuits.set 14 { trunk .idle with group := some 3 }
      groups := State.reset.groups.set 3 { grp .outgoing with idle := [14] } }
    resultOf .seize [0x0103, 0x0530, 0x2A03, 0x4070] s = some [0x0302, 0x000E, 0x0000] := by decide

/-- Section 2.3, the three hunt modes on the idle list 12, 9, 14, 10. -/
theorem test_hunt_modes :
    huntChoice .lowFirst [12, 9, 14, 10] = some 9 ∧ huntChoice .highFirst [12, 9, 14, 10] = some 14 ∧
      huntChoice .longestIdle [12, 9, 14, 10] = some 12 := by decide

/-- Section 2.5: an ALTERNATE group with next_port A while only port B is enabled offers to B, and next_port
moves on. -/
theorem test_offer_to_the_other_port :
    let s : State := { bench (timed .inPreseize) (lead .on 150) spare (grp .incoming) with
      portB := { PortRecord.reset with enabled := true } }
    after (.seizureRecognized 3) s (fun t => ((t.circuit 3).owner, (t.group 0).nextPort, (t.circuit 3).state)) =
      some (some .B, .B, .inReceiving) := by decide

/-- Section 3.2, the worked figures: an ON of 30 ms is ignored, one of 40 is proceed, one that reaches 250 a line
fault. -/
theorem test_when_seizing_ends :
    let s (ms : Nat) := bench { trunk .outSeizing with owner := some .A } (moving .on ms) spare (grp .outgoing)
    after (.recognizedTransition 3) (s 30) (fun t => (t.circuit 3).state) = some .outSeizing ∧
      after (.recognizedTransition 3) (s 40) (fun t => (t.circuit 3).state) = some .outSending ∧
      after (.ackMaxReached 3) (s 250) (fun t => ((t.circuit 3).state, (t.circuit 3).cause)) =
        some (.outReleasing, .lineFault) := by decide

/-- Section 3.5, CLEAR 80 ms after the seizure under a min_seize of 200: the lead is held ON to 200. -/
theorem test_clear_during_seizing :
    let s := bench { trunk .outSeizing with owner := some .A, sup := .on, seizeTime := 14920, minSeize := 200 }
      (lead .off 900) spare (grp .bothway)
    after (.clear (last [0x0301, 3])) (desk [0x0301, 3] s)
      (fun t => ((t.circuit 3).state, (t.circuit 3).sup, (t.circuit 3).timer)) =
      some (.outReleasing, .on, some { start := 14920, value := 200 }) := by decide

/-- Section 4.4: a break of 64 ms that ends before t_bm is a pulse, and the make ends t_id = 300 later. -/
theorem test_break_is_a_pulse :
    let s := bench { trunk .inReceiving with unit := some 0, owner := some .A } (moving .off 64)
      { busy (.register .inBreak) with brkStart := some 14936, subEnd := some 15036 } (grp .incoming)
    after (.recognizedTransition 3) s (fun t => ((t.unit 0).count, (t.unit 0).state, (t.unit 0).subEnd)) =
      some (1, .register .inMake, some 15300) := by decide

/-- Section 4.5: an ANSWER 60 ms into an acknowledgement of 100 is deferred to its end plus sep of 100. -/
theorem test_answer_is_deferred :
    let s := bench { trunk .inReceiving with
        owner := some .A, unit := some 0, sup := .on, ackPulse := .running, ackEnd := some 15040 }
      (lead .on 900) (busy (.register .waitDigit)) (grp .incoming)
    after (.answer (last [0x0501, 3])) (desk [0x0501, 3] s)
      (fun t => ((t.circuit 3).state, (t.circuit 3).ansDue, (t.circuit 3).answered)) =
      some (.inAnswered, some 15140, false) := by decide

/-- Section 7.2 (R125): from ref 1600, the periods 100 and 150 in either order. -/
theorem test_period_order :
    ((takePeriod 0 150 (takePeriod 0 100 State.reset)).group 0).reference.ref = 1700 ∧
      ((takePeriod 0 100 (takePeriod 0 150 State.reset)).group 0).reference.ref = 1688 := by decide

/-- The worked sequence of chapter 7: 108, 109, 107 and 108 lock the reference at 1652 and apply 309 and 103. -/
theorem test_reference_locks :
    ((takePeriod 0 108 (takePeriod 0 107 (takePeriod 0 109 (takePeriod 0 108 State.reset)))).group 0).reference =
      { ref := 1652, locked := true, inRun := 4, outRun := 0, sinceApply := 0, tBm := 103, tId := 309 } := by decide

/-- Its end: the third stray of 140 in a row unlocks, and the thresholds hold. -/
theorem test_reference_unlocks :
    let s := bench (trunk .idle) (lead .off 9) spare { grp .incoming with
      reference := { ref := 1785, locked := true, inRun := 4, outRun := 2, sinceApply := 0, tBm := 103, tId := 309 } }
    ((takePeriod 0 140 s).group 0).reference =
      { ref := 1841, locked := false, inRun := 0, outRun := 0, sinceApply := 0, tBm := 103, tId := 309 } := by decide

/-- Section 10.2: the guard that comes late returns circuit 33 of the example, its cause kept, and tells both ports. -/
theorem test_late_guard :
    let s := bench { trunk .fault with cause := .guardFailed, relTime := some 9700 } (moving .on 500) spare
      (grp .outgoing)
    after (.recognizedTransition 3) s (fun t => ((t.circuit 3).state, (t.circuit 3).cause, t.attn .A, t.attn .B)) =
      some (.idle, .guardFailed, true, true) := by decide

/-- Section 11.2, mirror: a TO_ON with action SET gives force channel 0 the value ON, which the lead of the BLOCKED
circuit shows. -/
theorem test_mirror :
    let s : State := { bench (trunk .blocked) (moving .off 900) spare (grp .incoming) with
      forces := State.reset.forces.set 0 { enable := true, circuit := 3, value := .off }
      watches := State.reset.watches.set 0
        { enable := true, circuit := 3, edge := .toOn, reportTo := .none, action := .set, target := 0
          matchCount := 0 } }
    after (.recognizedTransition 3) s (fun t => (t.sendLead 3, (t.watch 0).matchCount, t.attn .A)) =
      some (.on, 1, false) := by decide

/-- Section 9.1 (R186): the first word of a report of circuit 3 is its header, and an empty list gives
NO_REPORT with LAST. -/
theorem test_report_words :
    after (.reportRead { port := .A, beside := false }) (withPort State.reset { PortRecord.reset with attention := [.circuit 3] })
        (fun t => (t.dataOut .A, t.attn .A)) = some (some (0x0003, false), false) ∧
      after (.reportRead { port := .B, beside := false }) State.reset (fun t => t.dataOut .B) = some (some (0xE000, true)) := by decide

/-- R138: of two selects asserted together, the one still held when the other is deasserted is answered; here WSEL, on the
channel that CH then names. -/
theorem test_the_select_still_held_is_answered :
    let s := portA fun r => { r with assembly := .assembling [0x0102] 3, wsel := true, rsel := true }
    after (.selectDeassert .A { select := .read, ch := .ch1, data := 0, mperm := false }) s
      (fun t => (t.reply .A, (t.port .A).rsel, (t.port .A).result)) = some (true, false, [0x2400]) := by decide

/-- R136: while RESET is asserted REPLY, LAST and ATTN are deasserted and DATA is not driven, and an access is not
answered. -/
theorem test_no_answer_while_reset_is_asserted :
    after (.deviceReset .assertion true true) (owned true true) (fun t => (t.reply .A, t.attn .A, t.dataOut .A)) =
        some (false, false, none) ∧
      after (.resultRead { port := .A, beside := false }) held0 (fun t => (t.reply .A, (t.port .A).rsel)) =
        some (false, false) := by decide

/-- R184 and R185: READ CIRCUIT answers 30 words for a circuit with no digits, READ GROUP 42 and READ UNIT 17. -/
theorem test_snapshot_lengths :
    (resultOf .readCircuit [0x1001, 0] State.reset).map (fun r => (r.head?, r.length)) = some (some 0x011E, 31) ∧
      (resultOf .readGroup [0x1101, 0] State.reset).map (fun r => (r.head?, r.length)) = some (some 0x012A, 43) ∧
      (resultOf .readUnit [0x1201, 0] State.reset).map (fun r => (r.head?, r.length)) = some (some 0x0111, 18) := by
  decide

/-- R16: a parameter outside its range is stored as the nearer end, and cb_limit from 1 to 9 as 10. -/
theorem test_clamps :
    Param.clamp .ansRec 49 = 50 ∧ Param.clamp .ansRec 1001 = 1000 ∧ Param.clamp .cbLimit 9 = 10 ∧
      Param.clamp .cbLimit 0 = 0 := by decide

/-- R48: the last break of the last digit with eon set gives OUT_WAIT_ANSWER. -/
theorem test_last_digit_sent :
    after (.senderBreakEnd 0) (ending .outSending (.sender .inBreak) 7 7 [4, 0, 7] 2 true)
      (fun t => ((t.circuit 3).state, (t.circuit 3).sent, (t.unit 0).state)) =
      some (.outWaitAnswer, 3, .free) := by decide

end Sys2Proof.Tests
end

/-! PROOFS. The Lead Driver (R7, R9): what each source of a send lead is, said once, and the order among them. -/

namespace Sys2Proof.Machine

section Sources

variable {s : State} {c : Fin 96}

/-! ## The force channels (R7 step 1) -/

/-- The forcing channel is the lowest enabled one that names the circuit. -/
theorem State.forcing_eq_some {f : Fin 8} :
    s.forcing c = some f ↔ ((s.force f).enable = true ∧ (s.force f).circuit = c) ∧
      ∀ f', f' < f → ¬ ((s.force f').enable = true ∧ (s.force f').circuit = c) := by
  simp only [State.forcing, allEight, ← Fin.find?_eq_find?_finRange, Fin.find?_eq_some_iff, decide_eq_true_eq,
    decide_eq_false_iff_not]

theorem State.forcing_eq_none :
    s.forcing c = none ↔ ¬ ∃ f, (s.force f).enable = true ∧ (s.force f).circuit = c := by
  simp [State.forcing, allEight, List.find?_eq_none]

/-! ## The sender (R7 step 2) -/

theorem State.senderDrive_eq_some {cond : Cond} :
    s.senderDrive c = some cond ↔
      ∃ u sub, (s.circuit c).unit = some u ∧ (s.unit u).state = .sender sub ∧ sub.drives = some cond := by
  unfold State.senderDrive
  cases (s.circuit c).unit with
  | none => simp
  | some u => cases hu : (s.unit u).state <;> simp [hu]

/-- Only BREAK, MAKE and PAUSE give the lead a condition. -/
theorem SenderSub.drives_eq_some {sub : SenderSub} {cond : Cond} (h : sub.drives = some cond) :
    sub = .inBreak ∨ sub = .inMake ∨ sub = .pause := by
  cases sub with
  | inBreak | inMake | pause => simp
  | waitStart | parked => cases h

/-! ## The send lead by its source -/

/-- A BLOCKED circuit shows the value of the channel that forces it. -/
theorem State.sendLead_of_forcing {f : Fin 8} (hb : (s.circuit c).state = .blocked) (hf : s.forcing c = some f) :
    s.sendLead c = (s.force f).value := by
  simp only [State.sendLead, hb, hf, if_true]

/-- Without a force channel the sender drives the lead, and where it does not the supervision condition does. -/
theorem State.sendLead_of_not_forced
    (h : ¬ ((s.circuit c).state = .blocked ∧ ∃ f, (s.force f).enable = true ∧ (s.force f).circuit = c)) :
    s.sendLead c = (s.senderDrive c).getD (s.circuit c).sup := by
  have unforced : (if (s.circuit c).state = .blocked then s.forcing c else none) = none := by
    split
    case isTrue hb => exact State.forcing_eq_none.mpr fun he => h ⟨hb, he⟩
    case isFalse => rfl
  unfold State.sendLead
  rw [unforced]
  cases s.senderDrive c <;> rfl

/-- Without a force channel, a sender whose substate gives a condition gives it to the lead. -/
theorem State.sendLead_of_sender {u : Fin 16} {sub : SenderSub} {cond : Cond}
    (h : ¬ ((s.circuit c).state = .blocked ∧ ∃ f, (s.force f).enable = true ∧ (s.force f).circuit = c))
    (hu : (s.circuit c).unit = some u) (hsub : (s.unit u).state = .sender sub) (hd : sub.drives = some cond) :
    s.sendLead c = cond := by
  rw [State.sendLead_of_not_forced h, State.senderDrive_eq_some.mpr ⟨u, sub, hu, hsub, hd⟩]
  rfl

end Sources

/-- Settles O5: the lowest channel of `State.forcing`, then the sender's drive by its substate, then supervision. -/
theorem sendLeadFollowsItsSource : Obligations.SendLeadFollowsItsSource := by
  unfold Obligations.SendLeadFollowsItsSource
  intro c s forced pulsing
  refine ⟨?_, ?_, ?_, ?_⟩
  · rintro ⟨hb, named⟩
    obtain ⟨f, hf⟩ := Option.ne_none_iff_exists'.mp fun hnone => State.forcing_eq_none.mp hnone named
    obtain ⟨⟨henable, hcircuit⟩, lowest⟩ := State.forcing_eq_some.mp hf
    exact ⟨f, henable, hcircuit, lowest, State.sendLead_of_forcing hb hf⟩
  · rintro hn ⟨u, hu, hsub⟩
    exact State.sendLead_of_sender hn hu hsub rfl
  · rintro hn (⟨u, hu, hsub⟩ | ⟨u, hu, hsub⟩)
    · exact State.sendLead_of_sender hn hu hsub rfl
    · exact State.sendLead_of_sender hn hu hsub rfl
  · intro hn hbreak hmake hpause
    have undriven : s.senderDrive c = none := by
      refine Option.eq_none_iff_forall_ne_some.mpr fun cond hd => ?_
      obtain ⟨u, sub, hu, hsub, hdrives⟩ := State.senderDrive_eq_some.mp hd
      rcases SenderSub.drives_eq_some hdrives with rfl | rfl | rfl
      · exact hbreak ⟨u, hu, hsub⟩
      · exact hmake ⟨u, hu, hsub⟩
      · exact hpause ⟨u, hu, hsub⟩
    rw [State.sendLead_of_not_forced hn, undriven]
    rfl

end Sys2Proof.Machine

/-! PROOFS. CANCEL (R38): what the order answers by the slot its second word names, and the state in which a waiting slot is
left. -/

namespace Sys2Proof.Machine

section Cancel

variable {p : Port} {ws : List Word} {s : State}

/-- A waiting slot is cancelled: it leaves its queue, is FREE, and its events are discarded. -/
def cancelSlot (id : SlotId) (g : Fin 8) (s : State) : State :=
  discardSlotEvents id (freeSlotOf id (leaveQueue g id s))

/-! ## What the order answers -/

theorem orderCancel_high (h : 15 < field (wordAt ws 1) 5 0) : orderCancel p ws s = refuse .badValue s := by
  simp [orderCancel, sixteenOf_none.mpr h]

theorem orderCancel_other {n : Fin 16} (h : field (wordAt ws 1) 5 0 = n.val)
    (hp : (if bitSet (wordAt ws 1) 7 then Port.B else Port.A) ≠ p) : orderCancel p ws s = refuse .notOwner s := by
  simp [orderCancel, sixteenOf_some.mpr h, hp]

/-- A slot of the port itself is cancelled or refused by its state. -/
theorem orderCancel_own {n : Fin 16} (h : field (wordAt ws 1) 5 0 = n.val)
    (hp : (if bitSet (wordAt ws 1) 7 then Port.B else Port.A) = p) :
    (∀ call digits eon expiry, s.slot { port := p, num := n } = .waiting call digits eon expiry →
        orderCancel p ws s = accept (cancelSlot { port := p, num := n } call.group s)) ∧
      (∀ call c, s.slot { port := p, num := n } = .seizing call c → orderCancel p ws s = refuse .tooLate s) ∧
      (∀ call out, s.slot { port := p, num := n } = .outcome call out → orderCancel p ws s = refuse .tooLate s) ∧
      (s.slot { port := p, num := n } = .free → orderCancel p ws s = refuse .wrongState s) := by
  unfold orderCancel
  simp only [sixteenOf_some.mpr h, hp, ne_eq, not_true_eq_false, if_false]
  refine ⟨?_, ?_, ?_, fun h => by rw [h]⟩
  · intro call digits eon expiry h; rw [h]; rfl
  · intro call c h; rw [h]
  · intro call out h; rw [h]

/-! ## The state that a cancelled slot leaves -/

/-- A cancelled slot changes its group's queue and its port alone. -/
theorem cancelSlot_frame (id : SlotId) (g : Fin 8) :
    (∀ x, (cancelSlot id g s).group x =
        if x = g then { s.group g with queue := (s.group g).queue.filter fun y => y ≠ id } else s.group x) ∧
      (cancelSlot id g s).port (otherPort id.port) = s.port (otherPort id.port) ∧
      (cancelSlot id g s).circuits = s.circuits ∧ PoolKept s (cancelSlot id g s) ∧ LinesKept s (cancelSlot id g s) := by
  refine ⟨fun x => ?_, ?_, ?_, ?_, ?_⟩
  · simp [cancelSlot, discardSlotEvents, freeSlotOf, leaveQueue_group]
  · simp [cancelSlot, discardSlotEvents, freeSlotOf, State.setSlot, leaveQueue]
  · simp [cancelSlot, discardSlotEvents, freeSlotOf, leaveQueue]
  · simp [cancelSlot, discardSlotEvents, freeSlotOf, leaveQueue, PoolKept]
  · simp [cancelSlot, discardSlotEvents, freeSlotOf, leaveQueue, LinesKept]

/-- Of its port, a cancelled slot is FREE, its pending set is empty and it is off the list; the other slots stay. -/
theorem cancelSlot_port (id : SlotId) (g : Fin 8) :
    (cancelSlot id g s).slot id = .free ∧
      ((cancelSlot id g s).port id.port).pend[(Item.slot id.num).index] = EventSet.empty ∧
      ((cancelSlot id g s).port id.port).attention =
        (s.port id.port).attention.filter (fun it => it ≠ .slot id.num) ∧
      ∀ m, m ≠ id.num →
        (cancelSlot id g s).slot { port := id.port, num := m } = s.slot { port := id.port, num := m } := by
  refine ⟨?_, ?_, ?_, fun m hm => ?_⟩
  · simp [cancelSlot, discardSlotEvents, freeSlotOf, State.setSlot, State.slot, PortRecord.leave, PortRecord.setPend]
  · simp [cancelSlot, discardSlotEvents, PortRecord.leave, PortRecord.setPend]
  · simp [cancelSlot, discardSlotEvents, freeSlotOf, State.setSlot, leaveQueue, PortRecord.leave, PortRecord.setPend]
  · have hm : id.num.val ≠ m.val := fun e => hm (Fin.ext e.symm)
    simp [cancelSlot, discardSlotEvents, freeSlotOf, State.setSlot, leaveQueue, State.slot, PortRecord.leave,
      PortRecord.setPend, hm]

end Cancel

/-- A refusal by the body of a ready order is the refusal of the order. -/
theorem refuses_of_body {kind : OrderKind} {w : OrderWrite} {ws : List Word} {s : State} {r : Result}
    (h : OrderReady kind w ws s)
    (hb : orderBody kind w.port ws (orderStart w s) = refuse r (orderStart w s)) : Refuses (rowOf kind w) w r s := by
  have taken := exec_orderReady h
  rw [hb] at taken
  exact taken

/-- An order that its body answers with OK leaves the state of the body. -/
theorem answers_of_body {kind : OrderKind} {w : OrderWrite} {ws : List Word} {s t : State}
    (h : OrderReady kind w ws s) (hb : orderBody kind w.port ws (orderStart w s) = accept t) :
    Answers (rowOf kind w) w (oneWord .ok) s t := by
  have taken := exec_orderReady h
  rw [hb] at taken
  exact taken

/-- Settles O37: the answer by the named slot's state, in the state the order starts from, whose slots are those before. -/
theorem cancelFreesAWaitingSlot : Obligations.CancelFreesAWaitingSlot := by
  unfold Obligations.CancelFreesAWaitingSlot
  intro w ws s ready named
  obtain ⟨circuits, groups, pool, lines, otherKept, slots, -⟩ := orderStart_frame s w
  obtain ⟨-, -, group, -, -⟩ := orderStart_records s w
  refine ⟨fun high => refuses_of_body ready (orderCancel_high high), fun n hn => ?_⟩
  refine ⟨fun hp => refuses_of_body ready (orderCancel_other hn hp), fun hp => ?_⟩
  obtain ⟨ofWaiting, ofSeizing, ofOutcome, ofFree⟩ := orderCancel_own (s := orderStart w s) hn hp
  simp only [slots] at ofWaiting ofSeizing ofOutcome ofFree
  refine ⟨fun call digits eon expiry hs => ?_, fun call c hs => refuses_of_body ready (ofSeizing call c hs),
    fun call out hs => refuses_of_body ready (ofOutcome call out hs), fun hs => refuses_of_body ready (ofFree hs)⟩
  have frame := cancelSlot_frame (s := orderStart w s) { port := w.port, num := n } call.group
  have own := cancelSlot_port (s := orderStart w s) { port := w.port, num := n } call.group
  refine ⟨_, answers_of_body ready (ofWaiting call digits eon expiry hs), ?_⟩
  generalize cancelSlot { port := w.port, num := n } call.group (orderStart w s) = t at frame own ⊢
  obtain ⟨groups', other', circuits', pool', lines'⟩ := frame
  obtain ⟨free, pend, attention, others⟩ := own
  refine ⟨free, by rw [groups', if_pos rfl, group], pend, attention, fun m hm => (others m hm).trans (slots _),
    other'.trans otherKept, fun g hg => ?_, circuits'.trans circuits, pool.trans pool', lines.trans lines'⟩
  rw [groups', if_neg (by simpa using hg), group]

end Sys2Proof.Machine

/-! PROOFS. The invariant that one walk over the machine carries for the three claims on the records (R17, R18, R46):
what the pool's operations need of the circuits, and of the claims those that are asked for. -/

namespace Sys2Proof.Machine

/-! ## The claims -/

/-- Which of the claims are asked for, and the circuits whose count of digits sent is claimed. The walk over the machine
is made once for all of them; each is then asked for with the invariants that its obligation grants. -/
structure Claims where
  rest : Prop
  digits : Prop
  fields : Prop
  counted : Fin 96 → Prop

/-- The claims that rest on the agreement of units and circuits. -/
def Claims.pool (q : Claims) : Prop := q.rest ∨ q.digits

/-- The claims without the count of one circuit, while its digits are being replaced. -/
def Claims.but (q : Claims) (c : Fin 96) : Claims := { q with counted := fun x => q.counted x ∧ x ≠ c }

/-- The states of a call that a sender serves (R102). -/
def CircuitState.sends (st : CircuitState) : Prop := st = .outSeizing ∨ st = .outSending

/-- The state of a unit suits the state of the circuit that it serves (R102). -/
def CrewFits (us : UnitState) (cs : CircuitState) : Prop :=
  (us.isSender = true ∧ cs.sends) ∨ (us.isRegister = true ∧ cs = .inReceiving)

/-- A circuit in this state can have a request of a class outstanding (R69, R104). -/
def AsksFor : UnitClass → CircuitState → Prop
  | .register, st => st = .inSeized
  | .sender, st => st.sends

/-- What the operations of the pool and of the hunt need, and keep at every instant within a step: the part of `PoolSound`
that speaks of circuits with a unit, a request or a place on an idle list. -/
structure Staffed (s : State) : Prop where
  idle : ∀ g c, c ∈ (s.group g).idle → (s.circuit c).state = .idle ∧ (s.circuit c).group = some g
  linked : ∀ u c, (s.unit u).circuit = some c ↔ (s.circuit c).unit = some u
  crew : ∀ u c, (s.unit u).circuit = some c → CrewFits (s.unit u).state (s.circuit c).state
  requests : ∀ c, (s.circuit c).unitReq ≠ none →
    (∃ cls, AsksFor cls (s.circuit c).state) ∧ (s.circuit c).unit = none
  registerEntries : ∀ e ∈ s.regQueue, AsksFor .register (s.circuit e.circuit).state ∧
    (s.circuit e.circuit).unit = none ∧ (s.circuit e.circuit).unitReq ≠ none
  senderEntries : ∀ e ∈ s.sndQueue, AsksFor .sender (s.circuit e.circuit).state ∧
    (s.circuit e.circuit).unit = none ∧ (s.circuit e.circuit).unitReq ≠ none
  queuedOnce : ((s.regQueue ++ s.sndQueue).map (·.circuit)).Nodup

/-- A record fits the direction of its group, apart from the unit and the request (R18, R31, R66, R165). -/
structure Circuit.Fits (k : Circuit) (d : Direction) : Prop where
  outgoing : k.state.isOutgoing = true → d.outgoingCapable = true
  incoming : k.state.isIncoming = true → d.incomingCapable = true
  unowned : k.state = .unequipped ∨ k.state = .idle ∨ k.state = .blocked ∨ k.state = .fault ∨ k.state = .inPreseize →
    k.owner = none
  unlinked : k.state.clearsForward = false → k.slot = none
  ungrouped : k.state = .unequipped → k.group = none
  grouped : k.state ≠ .unequipped → d ≠ .none
  unblocked : k.state = .unequipped ∨ k.state = .blocked ∨ k.state = .idle → k.blockPending = false

/-- Every circuit fits its group, and slots wait only for a group that carries outgoing calls (R18, R35). -/
structure Fitting (s : State) : Prop where
  circuits : ∀ c, (s.circuit c).Fits (s.direction c)
  queues : ∀ g, (s.group g).queue ≠ [] → (s.group g).direction.outgoingCapable = true

/-- The substates in which a sender is within a digit or between two (R117, R118). -/
def UnitState.midDigit (st : UnitState) : Prop := st = .sender .inBreak ∨ st = .sender .inMake ∨ st = .sender .pause

/-- The counts of a unit lie within R103 and R118. -/
structure DigitUnit.Counts (k : DigitUnit) : Prop where
  count : k.count ≤ 11
  pulses : k.pulses ≤ 10
  inBreak : k.state = .sender .inBreak → k.count ≤ k.pulses
  inMake : k.state = .sender .inMake → k.count < k.pulses

/-- The counts of the digits sent of some circuits, and of every unit (R46, R103, R117, R118). -/
structure CountsSound (counted : Fin 96 → Prop) (s : State) : Prop where
  sent : ∀ c, counted c → (s.circuit c).sent ≤ (s.circuit c).digits.length
  units : ∀ u, (s.unit u).Counts
  midDigit : ∀ u c, (s.unit u).circuit = some c → (s.unit u).state.midDigit →
    (s.circuit c).sent < (s.circuit c).digits.length

/-- What the walk over the machine carries: the claims asked for, and what they rest on. -/
structure Kept (q : Claims) (s : State) : Prop where
  staffed : q.pool → Staffed s
  fitting : q.rest → Fitting s
  counts : q.digits → CountsSound q.counted s
  fields : q.fields → FieldsSound s

section Basics

variable {q : Claims} {s t : State} {c : Fin 96} {u : Fin 16}

theorem Kept.staffedRest (h : Kept q s) (hr : q.rest) : Staffed s := h.staffed (.inl hr)
theorem Kept.staffedDigits (h : Kept q s) (hd : q.digits) : Staffed s := h.staffed (.inr hd)

/-- A circuit's direction is that of its group. -/
theorem State.direction_congr (hc : (t.circuit c).group = (s.circuit c).group)
    (hg : ∀ g, (t.group g).direction = (s.group g).direction) : t.direction c = s.direction c := by
  unfold State.direction
  rw [hc]
  cases (s.circuit c).group with
  | none => rfl
  | some g => exact hg g

theorem State.direction_of_group {g : Fin 8} (h : (s.circuit c).group = some g) :
    s.direction c = (s.group g).direction := by simp [State.direction, h]

theorem PortsKept.slot (h : PortsKept s t) (id : SlotId) : t.slot id = s.slot id := by
  simp only [State.slot, h.port]

/-! ## The claims at the obligations' invariants -/

theorem PoolSound.staffed (h : PoolSound s) : Staffed s where
  idle g c := (h.idleLists g c).mp
  linked := h.linked
  crew u c hc := by
    cases hu : (s.unit u).state with
    | free => simp [h.unattached u (.inl hu)] at hc
    | outOfService => simp [h.unattached u (.inr hu)] at hc
    | sender sub => exact .inl ⟨rfl, h.senders u c (by simp [hu, UnitState.isSender]) hc⟩
    | register sub => exact .inr ⟨rfl, h.registers u c (by simp [hu, UnitState.isRegister]) hc⟩
  requests c hr := by
    obtain ⟨r, hr⟩ := Option.ne_none_iff_exists'.mp hr
    have entry := h.requests c r hr
    split at entry
    · obtain ⟨hst, hu, -⟩ := h.registerEntries _ entry
      exact ⟨⟨.register, hst⟩, hu⟩
    · obtain ⟨hst, hu, -⟩ := h.senderEntries _ entry
      exact ⟨⟨.sender, hst⟩, hu⟩
  registerEntries := h.registerEntries
  senderEntries := h.senderEntries
  queuedOnce := h.queuedOnce

/-- A group of a circuit is read off its direction. -/
theorem State.exists_group_of_direction {P : Direction → Prop} (hn : ¬ P .none) :
    (∃ g, (s.circuit c).group = some g ∧ P (s.group g).direction) ↔ P (s.direction c) := by
  cases h : (s.circuit c).group with
  | none => simp [State.direction, h, hn]
  | some g => simp [State.direction, h]

theorem RestSound.fitting (h : RestSound s) (hs : SlotsSound s) : Fitting s where
  circuits c := by
    obtain ⟨out, inc, rest, ungrouped, grouped, preseize, unblocked⟩ := h.1 c
    rw [State.exists_group_of_direction (P := fun d => d.outgoingCapable = true) (by decide)] at out
    rw [State.exists_group_of_direction (P := fun d => d.incomingCapable = true) (by decide)] at inc
    rw [State.exists_group_of_direction (P := fun d => d ≠ .none) (by simp)] at grouped
    refine ⟨out, inc, fun hst => ?_, fun hst => ?_, ungrouped, grouped, unblocked⟩
    · rcases hst with hst | hst | hst | hst | hst
      · exact (rest (.inl hst)).1
      · exact (rest (.inr (.inl hst))).1
      · exact (rest (.inr (.inr (.inl hst)))).1
      · exact (rest (.inr (.inr (.inr hst)))).1
      · exact preseize hst
    · refine Option.eq_none_iff_forall_ne_some.mpr fun id hid => ?_
      simp [(hs.seizing c id hid).1, CircuitState.clearsForward] at hst
  queues := h.2

/-- A circuit in a state that no unit serves and that asks for none has neither unit nor request. -/
theorem Staffed.loose (h : Staffed s) (send : ¬ (s.circuit c).state.sends)
    (seized : (s.circuit c).state ≠ .inSeized) (recv : (s.circuit c).state ≠ .inReceiving) :
    (s.circuit c).unit = none ∧ (s.circuit c).unitReq = none := by
  constructor
  · refine Option.eq_none_iff_forall_ne_some.mpr fun u hu => ?_
    rcases h.crew u c ((h.linked u c).mpr hu) with ⟨-, hc⟩ | ⟨-, hc⟩
    · exact send hc
    · exact recv hc
  · by_contra hr
    obtain ⟨⟨cls, hcls⟩, -⟩ := h.requests c hr
    cases cls with
    | register => exact seized hcls
    | sender => exact send hcls

theorem Fitting.restSound (h : Fitting s) (hs : Staffed s) : RestSound s := by
  refine ⟨fun c => ?_, h.queues⟩
  have k := h.circuits c
  dsimp only
  rw [State.exists_group_of_direction (P := fun d => d.outgoingCapable = true) (by decide),
    State.exists_group_of_direction (P := fun d => d.incomingCapable = true) (by decide),
    State.exists_group_of_direction (P := fun d => d ≠ .none) (by simp)]
  refine ⟨k.outgoing, k.incoming, fun hst => ?_, k.ungrouped, k.grouped,
    fun hst => k.unowned (.inr (.inr (.inr (.inr hst)))), k.unblocked⟩
  have loose : (s.circuit c).unit = none ∧ (s.circuit c).unitReq = none := by
    apply hs.loose <;> rcases hst with hst | hst | hst | hst <;> simp [hst, CircuitState.sends]
  refine ⟨k.unowned (by tauto), loose.1, loose.2, k.unlinked ?_⟩
  rcases hst with hst | hst | hst | hst <;> simp [hst, CircuitState.clearsForward]

theorem DigitsSound.counts (h : DigitsSound s) (counted : Fin 96 → Prop) : CountsSound counted s where
  sent c _ := h.1 c
  units u := by
    obtain ⟨hc, hp, hb, hm, -⟩ := h.2 u
    exact ⟨hc, hp, hb, hm⟩
  midDigit u c hu hst := by
    obtain ⟨-, -, -, -, hd⟩ := h.2 u
    exact hd c hu hst

theorem CountsSound.digitsSound (h : CountsSound (fun _ => True) s) : DigitsSound s :=
  ⟨fun c => h.sent c trivial, fun u =>
    ⟨(h.units u).count, (h.units u).pulses, (h.units u).inBreak, (h.units u).inMake, h.midDigit u⟩⟩

/-- To claim less. -/
theorem Kept.but (h : Kept q s) (c : Fin 96) : Kept (q.but c) s where
  staffed := h.staffed
  fitting := h.fitting
  counts hd := { h.counts hd with sent := fun x hx => (h.counts hd).sent x hx.1 }
  fields := h.fields

/-! ## What no claim sees -/

/-- The part of a record that the pool's operations leave alone. -/
structure Circuit.Called (k r : Circuit) : Prop where
  group : r.group = k.group
  trunkNo : r.trunkNo = k.trunkNo
  owner : r.owner = k.owner
  blockPending : r.blockPending = k.blockPending
  digits : r.digits = k.digits
  sent : r.sent = k.sent
  slot : r.slot = k.slot

/-- Two records alike in all that the claims speak of. -/
structure Circuit.Alike (k r : Circuit) : Prop where
  state : r.state = k.state
  unit : r.unit = k.unit
  unitReq : r.unitReq = k.unitReq
  called : k.Called r

theorem Circuit.Alike.refl (k : Circuit) : k.Alike k := ⟨rfl, rfl, rfl, rfl, rfl, rfl, rfl, rfl, rfl, rfl⟩

/-- Two groups alike in all that the claims speak of. -/
structure Group.Alike (k r : Group) : Prop where
  direction : r.direction = k.direction
  idle : r.idle = k.idle
  queue : r.queue = k.queue

/-- Two units alike in all that the claims speak of. -/
structure DigitUnit.Alike (k r : DigitUnit) : Prop where
  state : r.state = k.state
  circuit : r.circuit = k.circuit
  count : r.count = k.count
  pulses : r.pulses = k.pulses

/-- Two states alike in all that the claims speak of. -/
structure Alike (s t : State) : Prop where
  circuit : ∀ c, (s.circuit c).Alike (t.circuit c)
  group : ∀ g, (s.group g).Alike (t.group g)
  unit : ∀ u, (s.unit u).Alike (t.unit u)
  regQueue : t.regQueue = s.regQueue
  sndQueue : t.sndQueue = s.sndQueue
  slot : ∀ id, t.slot id = s.slot id
  matchCount : ∀ w, (t.watch w).matchCount = (s.watch w).matchCount

theorem Alike.refl (s : State) : Alike s s :=
  ⟨fun _ => Circuit.Alike.refl _, fun _ => ⟨rfl, rfl, rfl⟩, fun _ => ⟨rfl, rfl, rfl, rfl⟩, rfl, rfl, fun _ => rfl,
    fun _ => rfl⟩

theorem Circuit.Called.trans {k r x : Circuit} (h : k.Called r) (h' : r.Called x) : k.Called x :=
  ⟨h'.group.trans h.group, h'.trunkNo.trans h.trunkNo, h'.owner.trans h.owner, h'.blockPending.trans h.blockPending,
    h'.digits.trans h.digits, h'.sent.trans h.sent, h'.slot.trans h.slot⟩

theorem Alike.trans {v : State} (h : Alike s t) (h' : Alike t v) : Alike s v where
  circuit c := ⟨(h'.circuit c).state.trans (h.circuit c).state, (h'.circuit c).unit.trans (h.circuit c).unit,
    (h'.circuit c).unitReq.trans (h.circuit c).unitReq, (h.circuit c).called.trans (h'.circuit c).called⟩
  group g := ⟨(h'.group g).direction.trans (h.group g).direction, (h'.group g).idle.trans (h.group g).idle,
    (h'.group g).queue.trans (h.group g).queue⟩
  unit u := ⟨(h'.unit u).state.trans (h.unit u).state, (h'.unit u).circuit.trans (h.unit u).circuit,
    (h'.unit u).count.trans (h.unit u).count, (h'.unit u).pulses.trans (h.unit u).pulses⟩
  regQueue := h'.regQueue.trans h.regQueue
  sndQueue := h'.sndQueue.trans h.sndQueue
  slot id := (h'.slot id).trans (h.slot id)
  matchCount w := (h'.matchCount w).trans (h.matchCount w)

theorem Alike.direction (h : Alike s t) (c : Fin 96) : t.direction c = s.direction c :=
  State.direction_congr (h.circuit c).called.group fun g => (h.group g).direction

theorem Circuit.Fits.congr {k r : Circuit} {d : Direction} (h : k.Fits d) (state : r.state = k.state)
    (called : k.Called r) : r.Fits d := by
  constructor <;> simp only [state, called.owner, called.slot, called.group, called.blockPending]
  exacts [h.outgoing, h.incoming, h.unowned, h.unlinked, h.ungrouped, h.grouped, h.unblocked]

theorem DigitUnit.Counts.alike {k r : DigitUnit} (h : k.Counts) (a : k.Alike r) : r.Counts := by
  constructor <;> simp only [a.state, a.count, a.pulses]
  exacts [h.count, h.pulses, h.inBreak, h.inMake]

theorem Staffed.alike (h : Staffed s) (a : Alike s t) : Staffed t := by
  constructor <;>
    simp only [(a.circuit _).state, (a.circuit _).called.group, (a.circuit _).unit, (a.circuit _).unitReq,
      (a.group _).idle, (a.unit _).state, (a.unit _).circuit, a.regQueue, a.sndQueue]
  exacts [h.idle, h.linked, h.crew, h.requests, h.registerEntries, h.senderEntries, h.queuedOnce]

theorem Kept.alike (h : Kept q s) (a : Alike s t) : Kept q t where
  staffed hp := (h.staffed hp).alike a
  fitting hr :=
    { circuits := fun c => by
        rw [a.direction]
        exact ((h.fitting hr).circuits c).congr (a.circuit c).state (a.circuit c).called
      queues := fun g => by
        rw [(a.group g).queue, (a.group g).direction]
        exact (h.fitting hr).queues g }
  counts hd :=
    { sent := fun c => by rw [(a.circuit c).called.sent, (a.circuit c).called.digits]; exact (h.counts hd).sent c
      units := fun u => ((h.counts hd).units u).alike (a.unit u)
      midDigit := fun u c => by
        rw [(a.circuit c).called.sent, (a.circuit c).called.digits, (a.unit u).state, (a.unit u).circuit]
        exact (h.counts hd).midDigit u c }
  fields hf := by
    obtain ⟨circuits, slots, watches⟩ := h.fields hf
    exact ⟨fun c => by rw [(a.circuit c).called.digits, (a.circuit c).called.trunkNo]; exact circuits c,
      fun id => by rw [a.slot]; exact slots id, fun w => by rw [a.matchCount]; exact watches w⟩

end Basics

end Sys2Proof.Machine

namespace Sys2Proof.Machine

section Writes

variable {q : Claims} {s t : State} {c : Fin 96} {u : Fin 16}

/-! ## One circuit written -/

/-- A circuit with neither unit nor request and on no idle list: nothing of the pool and the hunt rests on its record. -/
structure Apart (c : Fin 96) (s : State) : Prop where
  unit : (s.circuit c).unit = none
  unitReq : (s.circuit c).unitReq = none
  idle : ∀ g, c ∉ (s.group g).idle

theorem Staffed.apart (h : Staffed s) (send : ¬ (s.circuit c).state.sends) (seized : (s.circuit c).state ≠ .inSeized)
    (recv : (s.circuit c).state ≠ .inReceiving) (idle : (s.circuit c).state ≠ .idle) : Apart c s where
  unit := (h.loose send seized recv).1
  unitReq := (h.loose send seized recv).2
  idle g hg := idle (h.idle g c hg).1

/-- A circuit without a request stands in no queue. -/
theorem Staffed.not_queued (h : Staffed s) (hr : (s.circuit c).unitReq = none) :
    ∀ e ∈ s.regQueue ++ s.sndQueue, e.circuit ≠ c := by
  rintro e he rfl
  rcases List.mem_append.mp he with he | he
  · exact (h.registerEntries e he).2.2 hr
  · exact (h.senderEntries e he).2.2 hr

/-- No unit is attached to a circuit without a unit. -/
theorem Staffed.not_attached (h : Staffed s) (hc : (s.circuit c).unit = none) (u : Fin 16) :
    (s.unit u).circuit ≠ some c := fun hu => by simp [(h.linked u c).mp hu] at hc

theorem Staffed.modCircuit_apart {f : Circuit → Circuit} (h : Staffed s) (apart : Apart c s)
    (unit : (f (s.circuit c)).unit = (s.circuit c).unit) (unitReq : (f (s.circuit c)).unitReq = (s.circuit c).unitReq) :
    Staffed (s.modCircuit c f) := by
  have circ : ∀ x, x ≠ c → (s.modCircuit c f).circuit x = s.circuit x := fun x hx => State.modCircuit_circuit_ne s c f hx
  have queued := h.not_queued apart.unitReq
  refine ⟨fun g x hx => ?_, fun v x => ?_, fun v x hv => ?_, fun x hx => ?_, fun e he => ?_, fun e he => ?_,
    h.queuedOnce⟩
  · rw [circ x (by rintro rfl; exact apart.idle g hx)]
    exact h.idle g x hx
  · by_cases hx : x = c
    · subst hx; simpa [unit] using h.linked v x
    · simpa [circ x hx] using h.linked v x
  · rw [circ x (by rintro rfl; exact h.not_attached apart.unit v hv)]
    exact h.crew v x hv
  · have hx' : x ≠ c := by rintro rfl; simp [unitReq, apart.unitReq] at hx
    rw [circ x hx'] at hx ⊢
    exact h.requests x hx
  · rw [circ _ (queued e (List.mem_append_left _ he))]
    exact h.registerEntries e he
  · rw [circ _ (queued e (List.mem_append_right _ he))]
    exact h.senderEntries e he

/-- The direction of every other circuit stays; that of the circuit written, where its group stays. -/
theorem State.modCircuit_direction_ne (f : Circuit → Circuit) {x : Fin 96} (hx : x ≠ c) :
    (s.modCircuit c f).direction x = s.direction x :=
  State.direction_congr (by rw [State.modCircuit_circuit_ne s c f hx]) fun _ => rfl

theorem State.modCircuit_direction {f : Circuit → Circuit} (hg : (f (s.circuit c)).group = (s.circuit c).group) :
    (s.modCircuit c f).direction c = s.direction c :=
  State.direction_congr (by rw [State.modCircuit_circuit_self, hg]) fun _ => rfl

theorem Fitting.modCircuit {f : Circuit → Circuit} (h : Fitting s)
    (fits : (f (s.circuit c)).Fits ((s.modCircuit c f).direction c)) : Fitting (s.modCircuit c f) where
  circuits x := by
    by_cases hx : x = c
    · subst hx; simpa using fits
    · rw [State.modCircuit_circuit_ne s c f hx, State.modCircuit_direction_ne f hx]
      exact h.circuits x
  queues := h.queues

theorem FieldsSound.modCircuit {f : Circuit → Circuit} (h : FieldsSound s)
    (own : (f (s.circuit c)).digits.length ≤ 24 ∧ (f (s.circuit c)).trunkNo ≤ 999) : FieldsSound (s.modCircuit c f) := by
  obtain ⟨circuits, slots, watches⟩ := h
  refine ⟨fun x => ?_, by simpa using slots, watches⟩
  by_cases hx : x = c
  · subst hx; simpa using own
  · rw [State.modCircuit_circuit_ne s c f hx]
    exact circuits x

theorem CountsSound.modCircuit {counted : Fin 96 → Prop} {f : Circuit → Circuit}
    (h : CountsSound (fun x => counted x ∧ x ≠ c) s)
    (sent : counted c → (f (s.circuit c)).sent ≤ (f (s.circuit c)).digits.length)
    (midDigit : ∀ u, (s.unit u).circuit = some c → (s.unit u).state.midDigit →
      (f (s.circuit c)).sent < (f (s.circuit c)).digits.length) : CountsSound counted (s.modCircuit c f) where
  sent x hx := by
    by_cases hxc : x = c
    · subst hxc; simpa using sent hx
    · rw [State.modCircuit_circuit_ne s c f hxc]
      exact h.sent x ⟨hx, hxc⟩
  units := h.units
  midDigit u x hu hst := by
    by_cases hxc : x = c
    · subst hxc; simpa using midDigit u hu hst
    · rw [State.modCircuit_circuit_ne s c f hxc]
      exact h.midDigit u x hu hst

/-- A circuit of which the pool and the hunt hold nothing may take any record that its claims allow. -/
theorem Kept.modCircuit_apart {f : Circuit → Circuit} (h : Kept (q.but c) s) (apart : q.pool → Apart c s)
    (unit : (f (s.circuit c)).unit = (s.circuit c).unit) (unitReq : (f (s.circuit c)).unitReq = (s.circuit c).unitReq)
    (fits : q.rest → (f (s.circuit c)).Fits ((s.modCircuit c f).direction c))
    (sent : q.digits → q.counted c → (f (s.circuit c)).sent ≤ (f (s.circuit c)).digits.length)
    (fields : q.fields → (f (s.circuit c)).digits.length ≤ 24 ∧ (f (s.circuit c)).trunkNo ≤ 999) :
    Kept q (s.modCircuit c f) where
  staffed hp := (h.staffed hp).modCircuit_apart (apart hp) unit unitReq
  fitting hr := (h.fitting hr).modCircuit (fits hr)
  counts hd := (h.counts hd).modCircuit (sent hd) fun u hu =>
    absurd hu ((h.staffed (.inr hd)).not_attached (apart (.inr hd)).unit u)
  fields hf := (h.fields hf).modCircuit (fields hf)

/-- The part of a record that a change of state within a call leaves alone. -/
structure Circuit.Stays (k r : Circuit) : Prop where
  group : r.group = k.group
  trunkNo : r.trunkNo = k.trunkNo
  digits : r.digits = k.digits
  sent : r.sent = k.sent
  unit : r.unit = k.unit
  unitReq : r.unitReq = k.unitReq

/-- A circuit of which the pool and the hunt hold nothing changes its state. -/
theorem Kept.moveState {f : Circuit → Circuit} (h : Kept q s) (apart : q.pool → Apart c s)
    (stays : (s.circuit c).Stays (f (s.circuit c))) (fits : q.rest → (f (s.circuit c)).Fits (s.direction c)) :
    Kept q (s.modCircuit c f) := by
  refine (h.but c).modCircuit_apart apart stays.unit stays.unitReq (fun hr => ?_) (fun hd hc => ?_) fun hf => ?_
  · rw [State.modCircuit_direction stays.group]; exact fits hr
  · rw [stays.sent, stays.digits]; exact (h.counts hd).sent c hc
  · rw [stays.digits, stays.trunkNo]; exact (h.fields hf).1 c

/-- A change of a circuit that no claim sees. -/
theorem Alike.modCircuit {f : Circuit → Circuit} (hf : (s.circuit c).Alike (f (s.circuit c))) :
    Alike s (s.modCircuit c f) where
  circuit x := by
    by_cases hx : x = c
    · subst hx; simpa using hf
    · rw [State.modCircuit_circuit_ne s c f hx]; exact Circuit.Alike.refl _
  group _ := ⟨rfl, rfl, rfl⟩
  unit _ := ⟨rfl, rfl, rfl, rfl⟩
  regQueue := rfl
  sndQueue := rfl
  slot := by simp
  matchCount _ := rfl

/-- Giving a lead a condition, or starting a timer, is nothing that a claim sees. -/
theorem Alike.drive (cond : Cond) : Alike s (s.drive c cond) :=
  Alike.modCircuit ⟨rfl, rfl, rfl, rfl, rfl, rfl, rfl, rfl, rfl, rfl⟩

theorem Alike.startTimer (n : Nat) : Alike s (s.startTimer c n) :=
  Alike.modCircuit ⟨rfl, rfl, rfl, rfl, rfl, rfl, rfl, rfl, rfl, rfl⟩

theorem Kept.drive (h : Kept q s) (cond : Cond) : Kept q (s.drive c cond) := h.alike (Alike.drive cond)

theorem Kept.startTimer (h : Kept q s) (n : Nat) : Kept q (s.startTimer c n) := h.alike (Alike.startTimer n)

/-- A state that differs in what no record of a circuit, a group, a unit or a slot shows. -/
theorem Alike.of_records (circuits : t.circuits = s.circuits) (groups : t.groups = s.groups) (units : t.units = s.units)
    (regQueue : t.regQueue = s.regQueue) (sndQueue : t.sndQueue = s.sndQueue) (watches : t.watches = s.watches)
    (slot : ∀ id, t.slot id = s.slot id) : Alike s t where
  circuit x := by
    rw [show t.circuit x = s.circuit x by simp [State.circuit, circuits]]; exact Circuit.Alike.refl _
  group g := by rw [show t.group g = s.group g by simp [State.group, groups]]; exact ⟨rfl, rfl, rfl⟩
  unit u := by rw [show t.unit u = s.unit u by simp [State.unit, units]]; exact ⟨rfl, rfl, rfl, rfl⟩
  regQueue := regQueue
  sndQueue := sndQueue
  slot := slot
  matchCount w := by simp [State.watch, watches]

/-- A change of a port that leaves its slots alone. -/
theorem Alike.modPort (p : Port) {f : PortRecord → PortRecord} (hf : (f (s.port p)).slots = (s.port p).slots) :
    Alike s (s.modPort p f) := by
  refine Alike.of_records (by simp) (by simp) (by simp) (by simp) (by simp) (by simp) fun id => ?_
  simp only [State.slot, State.modPort_port]
  split
  · next h => subst h; simp [hf]
  · rfl

theorem Kept.modPort (h : Kept q s) (p : Port) {f : PortRecord → PortRecord}
    (hf : (f (s.port p)).slots = (s.port p).slots) : Kept q (s.modPort p f) := h.alike (Alike.modPort p hf)

/-- An event changes pending sets and lists alone. -/
theorem Alike.raiseWith (p : Port) (it : Item) (f : EventSet → EventSet) : Alike s (s.raiseWith p it f) :=
  Alike.modPort p rfl

theorem Alike.raiseAt (p : Port) (it : Item) (e : Event) : Alike s (s.raiseAt p it e) :=
  Alike.raiseWith p it fun k => k.add e

theorem Alike.raiseBoth (it : Item) (e : Event) : Alike s (s.raiseBoth it e) :=
  (Alike.raiseAt .A it e).trans (Alike.raiseAt .B it e)

theorem Alike.raiseCircuit (c : Fin 96) (e : Event) : Alike s (s.raiseCircuit c e) := by
  unfold State.raiseCircuit
  split
  · exact Alike.raiseWith _ _ _
  · exact Alike.raiseBoth _ e

theorem Kept.raiseCircuit (h : Kept q s) (c : Fin 96) (e : Event) : Kept q (s.raiseCircuit c e) :=
  h.alike (Alike.raiseCircuit c e)

theorem Kept.raiseAnswered (h : Kept q s) (c : Fin 96) (n : Nat) : Kept q (s.raiseAnswered c n) := by
  unfold State.raiseAnswered
  split
  · exact h.alike (Alike.raiseWith _ _ _)
  · exact h.alike ((Alike.raiseWith _ _ _).trans (Alike.raiseWith _ _ _))

theorem Kept.raiseSlot (h : Kept q s) (id : SlotId) (e : Event) : Kept q (s.raiseSlot id e) :=
  h.alike (Alike.raiseAt id.port _ e)

theorem Kept.raiseGroup (h : Kept q s) (g : Fin 8) (e : Event) : Kept q (s.raiseGroup g e) :=
  h.alike (Alike.raiseBoth _ e)

theorem Kept.raiseMatched (h : Kept q s) (w : Fin 8) (dest : ReportTo) : Kept q (s.raiseMatched w dest) := by
  unfold State.raiseMatched
  split
  · exact h
  · exact h.alike (Alike.raiseWith _ _ _)
  · exact h.alike (Alike.raiseWith _ _ _)
  · exact h.alike (Alike.raiseBoth _ _)

/-! ## One group, one unit, one slot written -/

/-- A group is written with its direction as before: those that join its idle list are IDLE members, and its queue is not
filled where it may not be. -/
theorem Kept.modGroup {g : Fin 8} {f : Group → Group} (h : Kept q s)
    (direction : (f (s.group g)).direction = (s.group g).direction)
    (idle : q.pool → ∀ x ∈ (f (s.group g)).idle,
      x ∈ (s.group g).idle ∨ ((s.circuit x).state = .idle ∧ (s.circuit x).group = some g))
    (queue : q.rest → (f (s.group g)).queue ≠ [] →
      (s.group g).queue ≠ [] ∨ (s.group g).direction.outgoingCapable = true) : Kept q (s.modGroup g f) where
  staffed hp :=
    { h.staffed hp with
      idle := fun x d hd => by
        by_cases hx : x = g
        · subst hx
          rw [State.modGroup_group_self] at hd
          rcases idle hp d hd with hd | hd
          · exact (h.staffed hp).idle x d hd
          · exact hd
        · rw [State.modGroup_group_ne s g f hx] at hd
          exact (h.staffed hp).idle x d hd }
  fitting hr := by
    have dir : ∀ x, ((s.modGroup g f).group x).direction = (s.group x).direction := fun x => by
      by_cases hx : x = g
      · subst hx; simpa using direction
      · rw [State.modGroup_group_ne s g f hx]
    refine ⟨fun x => ?_, fun x hx => ?_⟩
    · rw [show (s.modGroup g f).direction x = s.direction x from State.direction_congr rfl dir]
      exact (h.fitting hr).circuits x
    · rw [dir x]
      by_cases hg : x = g
      · subst hg
        rw [State.modGroup_group_self] at hx
        rcases queue hr hx with hq | hd
        · exact (h.fitting hr).queues x hq
        · exact hd
      · rw [State.modGroup_group_ne s g f hg] at hx
        exact (h.fitting hr).queues x hx
  counts hd := { h.counts hd with }
  fields hf := by simpa [FieldsSound] using h.fields hf

/-- A unit is written with its circuit as before. -/
theorem Kept.modUnit {f : DigitUnit → DigitUnit} (h : Kept q s) (circuit : (f (s.unit u)).circuit = (s.unit u).circuit)
    (crew : q.pool → ∀ x, (s.unit u).circuit = some x →
      CrewFits (f (s.unit u)).state (s.circuit x).state)
    (counts : q.digits → (f (s.unit u)).Counts)
    (midDigit : q.digits → (f (s.unit u)).state.midDigit → ∀ x, (s.unit u).circuit = some x →
      (s.circuit x).sent < (s.circuit x).digits.length) : Kept q (s.modUnit u f) where
  staffed hp :=
    { h.staffed hp with
      linked := fun v x => by
        by_cases hv : v = u
        · subst hv; simpa [circuit] using (h.staffed hp).linked v x
        · simpa [State.modUnit_unit_ne s u f hv] using (h.staffed hp).linked v x
      crew := fun v x => by
        by_cases hv : v = u
        · subst hv; simpa [circuit] using crew hp x
        · simpa [State.modUnit_unit_ne s u f hv] using (h.staffed hp).crew v x }
  fitting hr := { circuits := (h.fitting hr).circuits, queues := (h.fitting hr).queues }
  counts hd :=
    { sent := (h.counts hd).sent
      units := fun v => by
        by_cases hv : v = u
        · subst hv; simpa using counts hd
        · simpa [State.modUnit_unit_ne s u f hv] using (h.counts hd).units v
      midDigit := fun v x => by
        by_cases hv : v = u
        · subst hv; simpa [circuit] using fun hx hm => midDigit hd hm x hx
        · simpa [State.modUnit_unit_ne s u f hv] using (h.counts hd).midDigit v x }
  fields hf := by simpa [FieldsSound] using h.fields hf

theorem Kept.setSlot (h : Kept q s) (id : SlotId) (k : Slot) (sound : q.fields → k.Sound) : Kept q (s.setSlot id k) where
  staffed hp := by
    have a := h.staffed hp
    constructor <;> simp only [State.setSlot_circuit, State.setSlot_group, State.setSlot_unit, State.setSlot_regQueue,
      State.setSlot_sndQueue]
    exacts [a.idle, a.linked, a.crew, a.requests, a.registerEntries, a.senderEntries, a.queuedOnce]
  fitting hr :=
    { circuits := fun x => by
        rw [show (s.setSlot id k).direction x = s.direction x from State.direction_congr (by simp) (by simp),
          State.setSlot_circuit]
        exact (h.fitting hr).circuits x
      queues := by simpa using (h.fitting hr).queues }
  counts hd :=
    { sent := by simpa using (h.counts hd).sent
      units := by simpa using (h.counts hd).units
      midDigit := by simpa using (h.counts hd).midDigit }
  fields hf := by
    obtain ⟨circuits, slots, watches⟩ := h.fields hf
    refine ⟨by simpa using circuits, fun x => ?_, by simpa using watches⟩
    by_cases hx : x = id
    · subst hx; simpa using sound hf
    · rw [State.setSlot_slot_ne s id k hx]; exact slots x

end Writes

end Sys2Proof.Machine

namespace Sys2Proof.Machine

section Pool

variable {q : Claims} {s t : State} {c : Fin 96} {u : Fin 16}

/-! ## Units: senders within a digit (R117, R118) -/

theorem CrewFits.of_sender {us : UnitState} {cs : CircuitState} (h : CrewFits us cs) (hs : us.isSender = true) :
    cs.sends := by
  rcases h with h | h
  · exact h.2
  · cases us <;> simp_all [UnitState.isSender, UnitState.isRegister]

theorem CrewFits.of_register {us : UnitState} {cs : CircuitState} (h : CrewFits us cs) (hs : us.isRegister = true) :
    cs = .inReceiving := by
  rcases h with h | h
  · cases us <;> simp_all [UnitState.isSender, UnitState.isRegister]
  · exact h.2

/-- A unit that is FREE or OUT_OF_SERVICE, or any other of no crew, is attached to no circuit. -/
theorem Staffed.unattached (h : Staffed s) (hs : (s.unit u).state.isSender = false)
    (hr : (s.unit u).state.isRegister = false) : (s.unit u).circuit = none := by
  refine Option.eq_none_iff_forall_ne_some.mpr fun c hc => ?_
  rcases h.crew u c hc with ⟨hu, -⟩ | ⟨hu, -⟩
  · simp [hs] at hu
  · simp [hr] at hu

/-- A change of a unit that no claim sees. -/
theorem Alike.modUnit {f : DigitUnit → DigitUnit} (hf : (s.unit u).Alike (f (s.unit u))) : Alike s (s.modUnit u f) where
  circuit _ := Circuit.Alike.refl _
  group _ := ⟨rfl, rfl, rfl⟩
  unit v := by
    by_cases hv : v = u
    · subst hv; simpa using hf
    · rw [State.modUnit_unit_ne s u f hv]; exact ⟨rfl, rfl, rfl, rfl⟩
  regQueue := rfl
  sndQueue := rfl
  slot := by simp
  matchCount _ := rfl

/-- The parked list is nothing that a claim sees. -/
theorem Kept.setParked (h : Kept q s) (l : List (Fin 16)) : Kept q { s with parked := l } :=
  h.alike (Alike.of_records rfl rfl rfl rfl rfl rfl (PortsKept.slot ⟨rfl, rfl⟩))

theorem pulseNumber_bounds (d : Fin 10) : 1 ≤ pulseNumber d ∧ pulseNumber d ≤ 10 := by
  unfold pulseNumber
  split <;> omega

/-- A sender that stays one, outside a digit or with its count not yet past its pulses. -/
theorem Kept.modSender {f : DigitUnit → DigitUnit} (h : Kept q s)
    (sender : q.pool → (s.unit u).state.isSender = true) (circuit : (f (s.unit u)).circuit = (s.unit u).circuit)
    (still : (f (s.unit u)).state.isSender = true) (counts : q.digits → (f (s.unit u)).Counts)
    (midDigit : q.digits → (f (s.unit u)).state.midDigit → ∀ x, (s.unit u).circuit = some x →
      (s.circuit x).sent < (s.circuit x).digits.length) : Kept q (s.modUnit u f) :=
  h.modUnit circuit (fun hp x hx => .inl ⟨still, ((h.staffed hp).crew u x hx).of_sender (sender hp)⟩) counts midDigit

/-- A circuit's sender begins a digit: where there is one, it is a digit left to send. -/
theorem Kept.beginDigit (h : Kept q s) (sender : q.pool → (s.unit u).state.isSender = true)
    (serves : q.pool → (s.unit u).circuit = some c) : Kept q (beginDigit u c s) := by
  unfold Machine.beginDigit
  split
  · next d hd =>
    obtain ⟨pos, le⟩ := pulseNumber_bounds d
    refine h.modSender sender rfl rfl (fun _ => ⟨by simp, le, fun _ => pos, fun hm => nomatch hm⟩) fun hq _ x hx => ?_
    obtain rfl : c = x := Option.some.inj ((serves (.inr hq)).symm.trans hx)
    exact (List.getElem?_eq_some_iff.mp hd).1
  · exact h

/-- A start instant decided takes the sender to WAIT_START, or to its first break. -/
theorem Kept.decideStart (h : Kept q s) (sender : q.pool → (s.unit u).state.isSender = true)
    (serves : q.pool → (s.unit u).circuit = some c) : Kept q (decideStart u c s) := by
  unfold Machine.decideStart
  simp only
  split
  · exact h.beginDigit sender serves
  · refine h.modSender sender rfl rfl (fun hd => ?_) fun _ hm => ?_
    · obtain ⟨count, pulses, -, -⟩ := (h.counts hd).units u
      exact ⟨count, pulses, (fun hb => nomatch hb), (fun hm => nomatch hm)⟩
    · simp [UnitState.midDigit] at hm

/-- A sender parks. -/
theorem Kept.park (h : Kept q s) (sender : q.pool → (s.unit u).state.isSender = true) : Kept q (park u c s) := by
  refine (h.modSender sender (f := fun k =>
    { k with state := .sender .parked, parkTime := some s.timeBase
             subEnd := some (timeAfter s.timeBase (1000 * s.par c .parkLimit)) }) rfl rfl (fun hd => ?_)
    fun _ hm => ?_).setParked _
  · obtain ⟨count, pulses, -, -⟩ := (h.counts hd).units u
    exact ⟨count, pulses, (fun hb => nomatch hb), (fun hm => nomatch hm)⟩
  · simp [UnitState.midDigit] at hm

/-- A parked sender resumes. -/
theorem Kept.resume (h : Kept q s) (sender : q.pool → (s.unit u).state.isSender = true)
    (serves : q.pool → (s.unit u).circuit = some c) : Kept q (resume u c s) := by
  have attached := h.alike (Alike.modUnit (u := u) (f := fun k => { k with attachTime := s.timeBase })
    ⟨rfl, rfl, rfl, rfl⟩)
  refine (attached.setParked _).decideStart (fun hp => ?_) fun hp => ?_
  · simpa [State.unit, State.modUnit] using sender hp
  · simpa [State.unit, State.modUnit] using serves hp

/-! ## Attachment (R104) -/

/-- The state that a circuit has once a unit of a class is attached. -/
def CircuitState.served : UnitClass → CircuitState → CircuitState
  | .register, _ => .inReceiving
  | .sender, st => st

/-- What an attachment asks: a unit attached to no circuit, and a circuit whose request of the class it serves, without a
unit and out of the queue. -/
structure Serves (u : Fin 16) (c : Fin 96) (cls : UnitClass) (s : State) : Prop where
  free : (s.unit u).circuit = none
  unit : (s.circuit c).unit = none
  asks : AsksFor cls (s.circuit c).state
  unqueued : ∀ e ∈ s.regQueue ++ s.sndQueue, e.circuit ≠ c

theorem AsksFor.ne_idle {cls : UnitClass} {st : CircuitState} (h : AsksFor cls st) : st ≠ .idle := by
  rintro rfl
  cases cls <;> simp [AsksFor, CircuitState.sends] at h

/-- A unit and a circuit with their new records: the link of an attachment. -/
def linkUnit (u : Fin 16) (c : Fin 96) (fu : DigitUnit → DigitUnit) (fc : Circuit → Circuit) (s : State) : State :=
  (s.modUnit u fu).modCircuit c fc

/-- The records that an attachment gives to a unit and a circuit. -/
structure Links (u : Fin 16) (c : Fin 96) (cls : UnitClass) (fu : DigitUnit → DigitUnit) (fc : Circuit → Circuit) :
    Prop where
  circuit : ∀ k, (fu k).circuit = some c
  crew : ∀ k st, AsksFor cls st → CrewFits (fu k).state (st.served cls)
  count : ∀ k, (fu k).count = 0
  pulses : ∀ k, (fu k).pulses = k.pulses
  rests : ∀ k, ¬ (fu k).state.midDigit
  called : ∀ k : Circuit, k.Called (fc k)
  unit : ∀ k, (fc k).unit = some u
  unitReq : ∀ k, (fc k).unitReq = none
  state : ∀ k, (fc k).state = k.state.served cls

theorem Staffed.linkUnit {cls : UnitClass} {fu : DigitUnit → DigitUnit} {fc : Circuit → Circuit} (h : Staffed s)
    (serves : Serves u c cls s) (links : Links u c cls fu fc) : Staffed (linkUnit u c fu fc s) := by
  have own : (Machine.linkUnit u c fu fc s).circuit c = fc (s.circuit c) := by simp [Machine.linkUnit]
  have circ : ∀ x, x ≠ c → (Machine.linkUnit u c fu fc s).circuit x = s.circuit x := fun x hx => by
    simp [Machine.linkUnit, State.modCircuit_circuit_ne, hx]
  have unit : ∀ v, (Machine.linkUnit u c fu fc s).unit v = if v = u then fu (s.unit u) else s.unit v := fun v => by
    simp [Machine.linkUnit, State.modUnit_unit]
  refine ⟨fun g x hx => ?_, fun v x => ?_, fun v x hv => ?_, fun x hx => ?_, fun e he => ?_, fun e he => ?_,
    h.queuedOnce⟩
  · rw [circ x (by rintro rfl; exact serves.asks.ne_idle (h.idle g x hx).1)]
    exact h.idle g x hx
  · rw [unit]
    by_cases hx : x = c <;> by_cases hv : v = u
    · subst hx hv; simp [own, links.circuit, links.unit]
    · subst hx; simp [own, hv, links.unit, h.linked, serves.unit, Ne.symm hv]
    · subst hv; simp [circ x hx, links.circuit, Ne.symm hx, ← h.linked, serves.free]
    · simp [circ x hx, hv, h.linked]
  · rw [unit] at hv ⊢
    by_cases hvu : v = u
    · subst hvu
      obtain rfl : c = x := by simpa [links.circuit] using hv
      simpa [own, links.state] using links.crew (s.unit v) _ serves.asks
    · simp only [hvu, if_false] at hv ⊢
      rw [circ x (by rintro rfl; exact h.not_attached serves.unit v hv)]
      exact h.crew v x hv
  · have hxc : x ≠ c := by rintro rfl; simp [own, links.unitReq] at hx
    rw [circ x hxc] at hx ⊢
    exact h.requests x hx
  · rw [circ _ (serves.unqueued e (List.mem_append_left _ he))]
    exact h.registerEntries e he
  · rw [circ _ (serves.unqueued e (List.mem_append_right _ he))]
    exact h.senderEntries e he

/-- A request served keeps a record within its group. -/
theorem Circuit.Fits.served {cls : UnitClass} {k r : Circuit} {d : Direction} (h : k.Fits d) (asks : AsksFor cls k.state)
    (called : k.Called r) (state : r.state = k.state.served cls) : r.Fits d := by
  cases cls with
  | sender => exact h.congr state called
  | register =>
    have seized : k.state = .inSeized := asks
    have state : r.state = .inReceiving := state
    have inc := h.incoming (by simp [seized, CircuitState.isIncoming])
    have unlinked := h.unlinked (by simp [seized, CircuitState.clearsForward])
    have grouped := h.grouped (by simp [seized])
    constructor <;> simp [state, CircuitState.isOutgoing, called.slot, inc, unlinked, grouped]

theorem Kept.linkUnit {cls : UnitClass} {fu : DigitUnit → DigitUnit} {fc : Circuit → Circuit} (h : Kept q s)
    (serves : q.pool → Serves u c cls s) (links : Links u c cls fu fc) : Kept q (linkUnit u c fu fc s) where
  staffed hp := (h.staffed hp).linkUnit (serves hp) links
  fitting hr :=
    have units : Fitting (s.modUnit u fu) := ⟨(h.fitting hr).circuits, (h.fitting hr).queues⟩
    units.modCircuit (by
      rw [State.modCircuit_direction (links.called _).group]
      exact ((h.fitting hr).circuits c).served (serves (.inl hr)).asks (links.called _) (links.state _))
  counts hd := by
    have called : ∀ x, ((Machine.linkUnit u c fu fc s).circuit x).digits = (s.circuit x).digits ∧
        ((Machine.linkUnit u c fu fc s).circuit x).sent = (s.circuit x).sent := fun x => by
      by_cases hx : x = c
      · subst hx; simp [Machine.linkUnit, (links.called _).digits, (links.called _).sent]
      · simp [Machine.linkUnit, State.modCircuit_circuit_ne, hx]
    have own : (Machine.linkUnit u c fu fc s).unit u = fu (s.unit u) := State.modUnit_unit_self s u fu
    have others : ∀ v, v ≠ u → (Machine.linkUnit u c fu fc s).unit v = s.unit v := fun v =>
      State.modUnit_unit_ne s u fu
    refine ⟨fun x hx => ?_, fun v => ?_, fun v x => ?_⟩
    · rw [(called x).1, (called x).2]; exact (h.counts hd).sent x hx
    · by_cases hv : v = u
      · subst hv
        rw [own]
        have rests := links.rests (s.unit v)
        exact ⟨by simp [links.count], by rw [links.pulses]; exact ((h.counts hd).units v).pulses,
          fun hb => absurd (.inl hb) rests, fun hm => absurd (.inr (.inl hm)) rests⟩
      · rw [others v hv]; exact (h.counts hd).units v
    · rw [(called x).1, (called x).2]
      by_cases hv : v = u
      · subst hv; rw [own]; exact fun _ hm => absurd hm (links.rests _)
      · rw [others v hv]; exact (h.counts hd).midDigit v x
  fields hf := by
    have units : FieldsSound (s.modUnit u fu) := by simpa [FieldsSound] using h.fields hf
    refine units.modCircuit ?_
    rw [(links.called _).digits, (links.called _).trunkNo]
    exact (h.fields hf).1 c

/-- Changing a unit, its circuit, and the unit again is a change of each. -/
theorem State.modUnit_modCircuit_modUnit (f f' : DigitUnit → DigitUnit) (g : Circuit → Circuit) :
    ((s.modUnit u f).modCircuit c g).modUnit u f' = linkUnit u c (fun k => f' (f k)) g s := by
  simp [linkUnit, State.modUnit, State.modCircuit, State.unit, State.circuit]

theorem Kept.acknowledge (h : Kept q s) : Kept q (acknowledge c s) := by
  unfold Machine.acknowledge
  simp only
  split
  · exact h.alike (Alike.modCircuit ⟨rfl, rfl, rfl, rfl, rfl, rfl, rfl, rfl, rfl, rfl⟩)
  · exact (h.alike (Alike.modCircuit (c := c) (f := fun k =>
      { k with ackPulse := .running, ackEnd := some (timeAfter s.timeBase (s.par c .ackSend)), timer := none })
      ⟨rfl, rfl, rfl, rfl, rfl, rfl, rfl, rfl, rfl, rfl⟩)).drive .on

/-- An attachment serves the request of its circuit (R104). -/
theorem Kept.attach {cls : UnitClass} (h : Kept q s) (serves : q.pool → Serves u c cls s) :
    Kept q (attach u c cls s) := by
  unfold Machine.attach
  simp only
  cases cls with
  | sender =>
    unfold attachSender
    simp only [State.modUnit_modCircuit_modUnit]
    have linked := h.linkUnit serves (fu := fun k =>
      { k with circuit := some c, attachTime := s.timeBase, state := .sender .waitStart, count := 0, subEnd := none })
      (fc := fun k => { k with unit := some u, unitReq := none })
      { circuit := fun _ => rfl, crew := fun _ _ asks => .inl ⟨rfl, asks⟩, count := fun _ => rfl
        pulses := fun _ => rfl, rests := fun _ => by simp [UnitState.midDigit]
        called := fun _ => ⟨rfl, rfl, rfl, rfl, rfl, rfl, rfl⟩, unit := fun _ => rfl, unitReq := fun _ => rfl
        state := fun _ => rfl }
    split
    · refine linked.decideStart (fun _ => ?_) fun _ => ?_ <;> simp [Machine.linkUnit, UnitState.isSender]
    · exact linked
  | register =>
    unfold attachRegister
    simp only [State.modUnit_modCircuit_modUnit]
    have linked := h.linkUnit serves (fu := fun k =>
      { k with circuit := some c, attachTime := s.timeBase, state := .register .waitDigit, count := 0, brkStart := none
               prevBrkStart := none, longBrk := false, subEnd := none })
      (fc := fun k => { k with unit := some u, unitReq := none, state := .inReceiving })
      { circuit := fun _ => rfl, crew := fun _ _ _ => .inr ⟨rfl, rfl⟩, count := fun _ => rfl
        pulses := fun _ => rfl, rests := fun _ => by simp [UnitState.midDigit]
        called := fun _ => ⟨rfl, rfl, rfl, rfl, rfl, rfl, rfl⟩, unit := fun _ => rfl, unitReq := fun _ => rfl
        state := fun _ => rfl }
    simp only [Machine.linkUnit, State.modCircuit_modCircuit] at linked ⊢
    split
    · exact linked.acknowledge
    · exact linked.startTimer _

end Pool

end Sys2Proof.Machine

namespace Sys2Proof.Machine

section Service

variable {q : Claims} {s t : State} {c : Fin 96} {u : Fin 16}

/-! ## Detachment (R107, R109) -/

theorem unlinkUnit_circuit_called (x : Fin 96) :
    (s.circuit x).Called ((unlinkUnit u s).circuit x) ∧ ((unlinkUnit u s).circuit x).state = (s.circuit x).state ∧
      ((unlinkUnit u s).circuit x).unitReq = (s.circuit x).unitReq := by
  obtain ⟨-, -, circ, -⟩ := unlinkUnit_spec s u
  rw [circ]
  split <;> exact ⟨⟨rfl, rfl, rfl, rfl, rfl, rfl, rfl⟩, rfl, rfl⟩

/-- Unlinking a unit takes the unit from a circuit exactly where it was attached. -/
theorem Staffed.unlinkUnit_unit (h : Staffed s) (x : Fin 96) :
    ((unlinkUnit u s).circuit x).unit = if (s.circuit x).unit = some u then none else (s.circuit x).unit := by
  obtain ⟨-, -, circ, -⟩ := unlinkUnit_spec s u
  simp only [circ, h.linked]
  split <;> rfl

theorem Staffed.unlinkUnit (h : Staffed s) (u : Fin 16) : Staffed (unlinkUnit u s) := by
  obtain ⟨own, others, -, -, reg, snd, groups, -⟩ := unlinkUnit_spec s u
  have kept := unlinkUnit_circuit_called (s := s) (u := u)
  have group : ∀ g, (Machine.unlinkUnit u s).group g = s.group g := fun g => by simp [State.group, groups]
  have unit := h.unlinkUnit_unit (u := u)
  have none_of : ∀ x, (s.circuit x).unit = none → ((Machine.unlinkUnit u s).circuit x).unit = none := fun x hx => by
    simp [unit, hx]
  refine ⟨fun g x hx => ?_, fun v x => ?_, fun v x hv => ?_, fun x hx => ?_, fun e he => ?_, fun e he => ?_, ?_⟩
  · rw [group] at hx
    rw [(kept x).2.1, (kept x).1.group]
    exact h.idle g x hx
  · by_cases hv : v = u
    · subst hv
      rw [own, unit]
      split
      · simp [DigitUnit.detached]
      · next hx => simpa [DigitUnit.detached] using hx
    · rw [others v hv, h.linked, unit]
      split
      · next hx => simp [hx, Ne.symm hv]
      · rfl
  · have hvu : v ≠ u := by rintro rfl; simp [own, DigitUnit.detached] at hv
    rw [others v hvu] at hv ⊢
    rw [(kept x).2.1]
    exact h.crew v x hv
  · rw [(kept x).2.2] at hx
    rw [(kept x).2.1]
    exact ⟨(h.requests x hx).1, none_of x (h.requests x hx).2⟩
  · rw [reg] at he
    obtain ⟨asks, unitless, req⟩ := h.registerEntries e he
    rw [(kept _).2.1, (kept _).2.2]
    exact ⟨asks, none_of _ unitless, req⟩
  · rw [snd] at he
    obtain ⟨asks, unitless, req⟩ := h.senderEntries e he
    rw [(kept _).2.1, (kept _).2.2]
    exact ⟨asks, none_of _ unitless, req⟩
  · rw [reg, snd]; exact h.queuedOnce

/-- Unlinking a unit keeps the claims. -/
theorem Kept.unlinkUnit (h : Kept q s) (u : Fin 16) : Kept q (unlinkUnit u s) := by
  obtain ⟨own, others, -, -, -, -, groups, ports, -, -, -, watches, -⟩ := unlinkUnit_spec s u
  have kept := unlinkUnit_circuit_called (s := s) (u := u)
  have group : ∀ g, (Machine.unlinkUnit u s).group g = s.group g := fun g => by simp [State.group, groups]
  refine ⟨fun hp => (h.staffed hp).unlinkUnit u, fun hr => ⟨fun x => ?_, fun g => ?_⟩, fun hd => ?_, fun hf => ?_⟩
  · rw [State.direction_congr (kept x).1.group fun g => by rw [group]]
    exact ((h.fitting hr).circuits x).congr (kept x).2.1 (kept x).1
  · rw [group]; exact (h.fitting hr).queues g
  · refine ⟨fun x hx => ?_, fun v => ?_, fun v x => ?_⟩
    · rw [(kept x).1.sent, (kept x).1.digits]; exact (h.counts hd).sent x hx
    · by_cases hv : v = u
      · subst hv; rw [own]; constructor <;> simp [DigitUnit.detached]
      · rw [others v hv]; exact (h.counts hd).units v
    · rw [(kept x).1.sent, (kept x).1.digits]
      by_cases hv : v = u
      · subst hv; rw [own]; simp [DigitUnit.detached]
      · rw [others v hv]; exact (h.counts hd).midDigit v x
  · obtain ⟨circuits, slots, counts⟩ := h.fields hf
    refine ⟨fun x => ?_, fun id => ?_, fun w => ?_⟩
    · rw [(kept x).1.digits, (kept x).1.trunkNo]; exact circuits x
    · rw [ports.slot]; exact slots id
    · simpa [State.watch, watches] using counts w

/-- Entries that leave the unit request queue. -/
theorem Kept.setQueues (h : Kept q s) {reg snd : List QueueEntry} (hr : reg.Sublist s.regQueue)
    (hs : snd.Sublist s.sndQueue) : Kept q { s with regQueue := reg, sndQueue := snd } where
  staffed hp :=
    { idle := (h.staffed hp).idle
      linked := (h.staffed hp).linked
      crew := (h.staffed hp).crew
      requests := (h.staffed hp).requests
      registerEntries := fun e he => (h.staffed hp).registerEntries e (hr.subset he)
      senderEntries := fun e he => (h.staffed hp).senderEntries e (hs.subset he)
      queuedOnce := (h.staffed hp).queuedOnce.sublist ((hr.append hs).map _) }
  fitting hr := { circuits := (h.fitting hr).circuits, queues := (h.fitting hr).queues }
  counts hd := { sent := (h.counts hd).sent, units := (h.counts hd).units, midDigit := (h.counts hd).midDigit }
  fields hf := by
    obtain ⟨circuits, slots, watches⟩ := h.fields hf
    exact ⟨circuits, fun id => PortsKept.slot (s := s) (t := { s with regQueue := reg, sndQueue := snd }) ⟨rfl, rfl⟩ id ▸
      slots id, watches⟩

/-- A unit that becomes available serves the oldest entry (R106, R107). -/
theorem Kept.becomeAvailable (h : Kept q s) (free : q.pool → (s.unit u).circuit = none) :
    Kept q (becomeAvailable u s) := by
  obtain ⟨-, -, e⟩ | ⟨e, rest, hq, eq⟩ | ⟨e, rest, hr, hq, eq⟩ := becomeAvailable_cases s u
  · rw [e]; exact h
  · rw [eq]
    refine (h.setQueues (reg := rest) (by rw [hq]; exact List.sublist_cons_self _ _) (List.Sublist.refl _)).attach
      fun hp => ?_
    obtain ⟨asks, unitless, -⟩ := (h.staffed hp).registerEntries e (by rw [hq]; exact List.mem_cons_self)
    have once := (h.staffed hp).queuedOnce
    rw [hq, List.cons_append, List.map_cons, List.nodup_cons] at once
    exact ⟨free hp, unitless, asks, fun x hx e => once.1 (e ▸ List.mem_map_of_mem hx)⟩
  · rw [eq]
    refine (h.setQueues (snd := rest) (List.Sublist.refl _) (by rw [hq]; exact List.sublist_cons_self _ _)).attach
      fun hp => ?_
    obtain ⟨asks, unitless, -⟩ := (h.staffed hp).senderEntries e (by rw [hq]; exact List.mem_cons_self)
    have once := (h.staffed hp).queuedOnce
    rw [hr, hq, List.nil_append, List.map_cons, List.nodup_cons] at once
    refine ⟨free hp, unitless, asks, fun x hx e => once.1 (e ▸ List.mem_map_of_mem ?_)⟩
    simpa [hr] using hx

/-- A unit in a state of no crew, attached to no circuit. -/
theorem Kept.setIdleUnit {f : DigitUnit → DigitUnit} (h : Kept q s) (free : q.pool → (s.unit u).circuit = none)
    (circuit : (f (s.unit u)).circuit = (s.unit u).circuit) (count : (f (s.unit u)).count = (s.unit u).count)
    (pulses : (f (s.unit u)).pulses = (s.unit u).pulses)
    (state : (f (s.unit u)).state = .free ∨ (f (s.unit u)).state = .outOfService) : Kept q (s.modUnit u f) := by
  refine h.modUnit circuit (fun hp x hx => by simp [free hp] at hx) (fun hd => ?_) fun hd _ x hx => ?_
  · have k := (h.counts hd).units u
    refine ⟨by rw [count]; exact k.count, by rw [pulses]; exact k.pulses, fun hb => ?_, fun hm => ?_⟩ <;>
      rcases state with hst | hst <;> simp_all
  · simp [free (.inr hd)] at hx

/-- A detachment keeps the claims once the unlinking does. -/
theorem Kept.detach_of_unlinked (h : Kept q (Machine.unlinkUnit u s)) : Kept q (detach u s) := by
  have free : ((Machine.unlinkUnit u s).unit u).circuit = none := by
    rw [(unlinkUnit_spec s u).1]; rfl
  unfold detach
  simp only
  split
  · exact h.setIdleUnit (fun _ => free) rfl rfl rfl (.inr rfl)
  · exact h.becomeAvailable fun _ => free

theorem Kept.detach (h : Kept q s) (u : Fin 16) : Kept q (detach u s) := (h.unlinkUnit u).detach_of_unlinked

theorem Kept.detachFrom (h : Kept q s) (c : Fin 96) : Kept q (detachFrom c s) := by
  unfold Machine.detachFrom
  split
  · exact h.detach _
  · exact h

/-- The circuit of a detached unit keeps all but the unit: a served entry is another circuit's. -/
theorem Staffed.detach_circuit (h : Staffed s) (hu : (s.circuit c).unit = some u) :
    (Machine.detach u s).circuit c = { s.circuit c with unit := none } := by
  obtain ⟨-, -, circ, -, reg, snd, -⟩ := unlinkUnit_spec s u
  have own : (Machine.unlinkUnit u s).circuit c = { s.circuit c with unit := none } := by
    rw [circ, if_pos ((h.linked u c).mpr hu)]
  have other : ∀ e ∈ s.regQueue ++ s.sndQueue, c ∉ [e.circuit] := fun e he hc => by
    obtain rfl := List.mem_singleton.mp hc
    rcases List.mem_append.mp he with he | he
    · simp [(h.registerEntries e he).2.1] at hu
    · simp [(h.senderEntries e he).2.1] at hu
  unfold Machine.detach
  simp only
  split
  · exact own
  · obtain ⟨-, -, e⟩ | ⟨e, rest, hq, eq⟩ | ⟨e, rest, -, hq, eq⟩ := becomeAvailable_cases (Machine.unlinkUnit u s) u
    · rw [e, own]
    · rw [eq, (attach_frame _ u e.circuit .register).1 c (other e (by simp [← reg, hq]))]; exact own
    · rw [eq, (attach_frame _ u e.circuit .sender).1 c (other e (by simp [← snd, hq]))]; exact own

theorem Staffed.detachFrom_circuit (h : Staffed s) :
    (detachFrom c s).circuit c = { s.circuit c with unit := none } := by
  unfold detachFrom
  split
  · next u hu => exact h.detach_circuit hu
  · next hu => exact congrArg (fun v => { s.circuit c with unit := v }) hu

/-- A change of a circuit that does not look at its unit. -/
def UnitBlind (f : Circuit → Circuit) : Prop := ∀ k : Circuit, f { k with unit := none } = { f k with unit := none }

/-- Unlinking a unit and a change of a circuit that does not look at its unit commute. -/
theorem unlinkUnit_modCircuit {f : Circuit → Circuit}
    (hf : UnitBlind f) :
    unlinkUnit u (s.modCircuit c f) = (unlinkUnit u s).modCircuit c f := by
  obtain ⟨own, others, circ, park, reg, snd, groups, ports, rst, time, filters, watches, forces, pend, choices⟩ :=
    unlinkUnit_spec s u
  obtain ⟨own', others', circ', park', reg', snd', groups', ports', rst', time', filters', watches', forces', pend',
    choices'⟩ := unlinkUnit_spec (s.modCircuit c f) u
  refine State.ext_records (rst'.trans rst.symm) (time'.trans time.symm) (fun x => ?_) (fun x => ?_) (fun x => ?_)
    (fun v => ?_) (reg'.trans reg.symm) (snd'.trans snd.symm) (park'.trans park.symm) (fun p => ?_) (fun x => ?_)
    (fun x => ?_) (pend'.trans pend.symm) (choices'.trans choices.symm)
  · simp [State.filter, filters, filters']
  · rw [circ', State.modCircuit_unit, State.modCircuit_circuit, State.modCircuit_circuit, circ, circ]
    by_cases hx : x = c
    · subst hx
      simp only [if_true]
      split
      · exact (hf _).symm
      · rfl
    · simp only [if_neg hx]
  · simp [State.group, groups, groups']
  · by_cases hv : v = u
    · subst hv; rw [own', State.modCircuit_unit, State.modCircuit_unit, own]
    · rw [others' v hv, State.modCircuit_unit, State.modCircuit_unit, others v hv]
  · rw [ports'.port, State.modCircuit_port, State.modCircuit_port, ports.port]
  · simp [State.watch, watches, watches']
  · simp [State.force, forces, forces']

/-- A circuit changes its state and its unit is detached: the change may come first. -/
theorem Kept.moveState_detachFrom {f : Circuit → Circuit} (h : Kept q s)
    (blind : UnitBlind f)
    (unitReq : q.pool → (s.circuit c).unitReq = none) (idle : q.pool → (s.circuit c).state ≠ .idle)
    (stays : ∀ k : Circuit, k.Stays (f k))
    (fits : q.rest → (f { s.circuit c with unit := none }).Fits (s.direction c)) :
    Kept q (Machine.detachFrom c (s.modCircuit c f)) := by
  have notIdle : q.pool → ∀ g, c ∉ (s.group g).idle := fun hp g hg => idle hp ((h.staffed hp).idle g c hg).1
  have unit : ((s.modCircuit c f).circuit c).unit = (s.circuit c).unit := by
    rw [State.modCircuit_circuit_self, (stays _).unit]
  unfold Machine.detachFrom
  rw [unit]
  cases hu : (s.circuit c).unit with
  | none =>
    refine h.moveState (fun hp => ⟨hu, unitReq hp, notIdle hp⟩) (stays _) fun hr => ?_
    rw [← show ({ s.circuit c with unit := none } : Circuit) = s.circuit c from
      congrArg (fun v => { s.circuit c with unit := v }) hu.symm]
    exact fits hr
  | some u =>
    obtain ⟨-, -, circ, -, -, -, groups, -⟩ := unlinkUnit_spec s u
    have own : q.pool → (Machine.unlinkUnit u s).circuit c = { s.circuit c with unit := none } := fun hp => by
      rw [circ, if_pos (((h.staffed hp).linked u c).mpr hu)]
    refine Kept.detach_of_unlinked ?_
    rw [unlinkUnit_modCircuit blind]
    refine (h.unlinkUnit u).moveState (fun hp => ⟨?_, ?_, fun g => ?_⟩) (stays _) fun hr => ?_
    · rw [own hp]
    · rw [own hp]; exact unitReq hp
    · simpa [State.group, groups] using notIdle hp g
    · rw [own (.inl hr), State.direction_congr (s := s) (unlinkUnit_circuit_called c).1.group
        (fun g => by rw [show (Machine.unlinkUnit u s).group g = s.group g by simp [State.group, groups]])]
      exact fits hr

/-! ## Requests (R105, R108) -/

/-- A circuit out of the queue takes a request, or loses the one it has. -/
theorem Kept.setRequest (h : Kept q s) (r : Option UnitReq)
    (unqueued : q.pool → ∀ e ∈ s.regQueue ++ s.sndQueue, e.circuit ≠ c)
    (asks : q.pool → r ≠ none → (∃ cls, AsksFor cls (s.circuit c).state) ∧ (s.circuit c).unit = none) :
    Kept q (s.modCircuit c fun k => { k with unitReq := r }) := by
  have called : ∀ x, (s.circuit x).Called ((s.modCircuit c fun k => { k with unitReq := r }).circuit x) ∧
      ((s.modCircuit c fun k => { k with unitReq := r }).circuit x).state = (s.circuit x).state ∧
      ((s.modCircuit c fun k => { k with unitReq := r }).circuit x).unit = (s.circuit x).unit := fun x => by
    rw [State.modCircuit_circuit]
    split
    · next hx => subst hx; exact ⟨⟨rfl, rfl, rfl, rfl, rfl, rfl, rfl⟩, rfl, rfl⟩
    · exact ⟨⟨rfl, rfl, rfl, rfl, rfl, rfl, rfl⟩, rfl, rfl⟩
  have other : ∀ x, x ≠ c → (s.modCircuit c fun k => { k with unitReq := r }).circuit x = s.circuit x := fun x =>
    State.modCircuit_circuit_ne s c _
  refine ⟨fun hp => ⟨fun g x => ?_, fun v x => ?_, fun v x => ?_, fun x hx => ?_, fun e he => ?_, fun e he => ?_,
    (h.staffed hp).queuedOnce⟩, fun hr => (h.fitting hr).modCircuit ?_, fun hd => ⟨fun x => ?_, (h.counts hd).units,
    fun v x => ?_⟩, fun hf => (h.fields hf).modCircuit ((h.fields hf).1 c)⟩
  · rw [(called x).2.1, (called x).1.group]; exact (h.staffed hp).idle g x
  · rw [(called x).2.2]; exact (h.staffed hp).linked v x
  · rw [(called x).2.1]; exact (h.staffed hp).crew v x
  · rw [(called x).2.1, (called x).2.2]
    by_cases hxc : x = c
    · subst hxc; exact asks hp (by simpa using hx)
    · rw [other x hxc] at hx; exact (h.staffed hp).requests x hx
  · rw [other _ (unqueued hp e (List.mem_append_left _ he))]; exact (h.staffed hp).registerEntries e he
  · rw [other _ (unqueued hp e (List.mem_append_right _ he))]; exact (h.staffed hp).senderEntries e he
  · rw [State.modCircuit_direction rfl]
    exact ((h.fitting hr).circuits c).congr rfl ⟨rfl, rfl, rfl, rfl, rfl, rfl, rfl⟩
  · rw [(called x).1.sent, (called x).1.digits]; exact (h.counts hd).sent x
  · rw [(called x).1.sent, (called x).1.digits]; exact (h.counts hd).midDigit v x

/-- A withdrawal takes the circuit's entries out of the queue and its request with them. -/
theorem Kept.withdraw (h : Kept q s) (c : Fin 96) : Kept q (withdraw c s) := by
  refine (h.setQueues (reg := s.regQueue.filter fun e => e.circuit ≠ c)
    (snd := s.sndQueue.filter fun e => e.circuit ≠ c) List.filter_sublist List.filter_sublist).setRequest none
    (fun _ e he => ?_) fun _ hn => absurd rfl hn
  rw [← List.filter_append] at he
  simpa using (List.mem_filter.mp he).2

/-- What a request asks of its circuit: no unit, no request yet, and a state of its class. -/
structure MayAsk (c : Fin 96) (cls : UnitClass) (s : State) : Prop where
  unit : (s.circuit c).unit = none
  unitReq : (s.circuit c).unitReq = none
  asks : AsksFor cls (s.circuit c).state

theorem enqueue_circuit (cls : UnitClass) (x : Fin 96) : (enqueue c cls s).circuit x = s.circuit x := by
  cases cls <;> rfl

/-- A request that no unit serves joins the queue. -/
theorem Kept.enqueue {cls : UnitClass} (h : Kept q s) (unit : q.pool → (s.circuit c).unit = none)
    (asks : q.pool → AsksFor cls (s.circuit c).state) (requested : (s.circuit c).unitReq ≠ none)
    (unqueued : q.pool → ∀ e ∈ s.regQueue ++ s.sndQueue, e.circuit ≠ c) : Kept q (enqueue c cls s) := by
  have once : q.pool → ∀ t : State, ((t.regQueue ++ t.sndQueue).map (·.circuit)).Perm
      (c :: (s.regQueue ++ s.sndQueue).map (·.circuit)) → ((t.regQueue ++ t.sndQueue).map (·.circuit)).Nodup :=
    fun hp t perm => perm.nodup_iff.mpr (List.nodup_cons.mpr ⟨fun hc => by
      obtain ⟨e, he, hec⟩ := List.mem_map.mp hc
      exact unqueued hp e he hec, (h.staffed hp).queuedOnce⟩)
  refine ⟨fun hp => ?_, fun hr => ?_, fun hd => ?_, fun hf => ?_⟩
  · have a := h.staffed hp
    cases cls with
    | register =>
      refine ⟨a.idle, a.linked, a.crew, a.requests, fun e he => ?_, a.senderEntries, once hp _ ?_⟩
      · rcases List.mem_append.mp he with he | he
        · exact a.registerEntries e he
        · obtain rfl := List.mem_singleton.mp he
          exact ⟨asks hp, unit hp, requested⟩
      · simp [Machine.enqueue]
    | sender =>
      refine ⟨a.idle, a.linked, a.crew, a.requests, a.registerEntries, fun e he => ?_, once hp _ ?_⟩
      · rcases List.mem_append.mp he with he | he
        · exact a.senderEntries e he
        · obtain rfl := List.mem_singleton.mp he
          exact ⟨asks hp, unit hp, requested⟩
      · simp [Machine.enqueue, ← List.append_assoc]
  · cases cls <;> exact ⟨(h.fitting hr).circuits, (h.fitting hr).queues⟩
  · cases cls <;> exact ⟨(h.counts hd).sent, (h.counts hd).units, (h.counts hd).midDigit⟩
  · obtain ⟨circuits, slots, watches⟩ := h.fields hf
    cases cls <;> exact ⟨circuits, fun id => PortsKept.slot (s := s) ⟨rfl, rfl⟩ id ▸ slots id, watches⟩

/-- A request is served or queued (R105). -/
theorem Kept.requestUnit {cls : UnitClass} (h : Kept q s) (may : q.pool → MayAsk c cls s) :
    Kept q (requestUnit c cls s) := by
  have unqueued := fun hp => (h.staffed hp).not_queued (may hp).unitReq
  have requested := h.setRequest (some { cls := cls, time := s.timeBase, wait := s.requestWait c cls }) unqueued
    fun hp _ => ⟨⟨cls, (may hp).asks⟩, (may hp).unit⟩
  obtain ⟨u, hu, eq⟩ | ⟨u, rest, -, -, eq⟩ | ⟨-, -, eq⟩ := requestUnit_cases s c cls
  · rw [eq]
    refine requested.attach fun hp => ⟨?_, by simpa using (may hp).unit, by simpa using (may hp).asks, unqueued hp⟩
    refine (h.staffed hp).unattached ?_ ?_ <;>
      simp [(State.freeUnit_some s hu).1, UnitState.isSender, UnitState.isRegister]
  · rw [eq]
    refine (requested.unlinkUnit u).attach fun hp => ⟨?_, ?_, ?_, ?_⟩
    · rw [(unlinkUnit_spec _ u).1]; rfl
    · rw [(requested.staffed hp).unlinkUnit_unit]; simp [(may hp).unit]
    · rw [(unlinkUnit_circuit_called c).2.1]; simpa using (may hp).asks
    · obtain ⟨-, -, -, -, reg, snd, -⟩ := unlinkUnit_spec (s.modCircuit c fun k =>
        { k with unitReq := some { cls := cls, time := s.timeBase, wait := s.requestWait c cls } }) u
      rw [reg, snd]; exact unqueued hp
  · rw [eq]
    exact requested.enqueue (fun hp => by simpa using (may hp).unit) (fun hp => by simpa using (may hp).asks)
      (by simp) unqueued

/-- A request leaves every other circuit without a unit as it is. -/
theorem requestUnit_circuit_ne {cls : UnitClass} {x : Fin 96} (hx : x ≠ c) (unit : (s.circuit x).unit = none) :
    (requestUnit c cls s).circuit x = s.circuit x := by
  have hx' : x ∉ [c] := by simpa using hx
  obtain ⟨u, -, eq⟩ | ⟨u, rest, -, -, eq⟩ | ⟨-, -, eq⟩ := requestUnit_cases s c cls
  · rw [eq, (attach_frame _ u c cls).1 x hx', State.modCircuit_circuit_ne s c _ hx]
  · obtain ⟨-, -, circ, -⟩ := unlinkUnit_spec (s.modCircuit c fun k =>
      { k with unitReq := some { cls := cls, time := s.timeBase, wait := s.requestWait c cls } }) u
    rw [eq, (attach_frame _ u c cls).1 x hx', circ, State.modCircuit_circuit_ne s c _ hx]
    split
    · exact congrArg (fun v => { s.circuit x with unit := v }) unit.symm
    · rfl
  · rw [eq, enqueue_circuit, State.modCircuit_circuit_ne s c _ hx]

/-- A sender that has ended its last digit with eon clear goes out of service, serves the queue, or parks (R110). -/
theorem Kept.endWithoutEon (h : Kept q s) (sender : q.pool → (s.unit u).state.isSender = true) :
    Kept q (endWithoutEon u c s) := by
  unfold Machine.endWithoutEon
  split
  · exact h.detach u
  · exact h.park sender

end Service

end Sys2Proof.Machine

namespace Sys2Proof.Machine

section Records

variable {q : Claims} {s t : State} {c : Fin 96} {u : Fin 16}

/-! ## Records that fit -/

theorem Circuit.Fits.of_outgoing {r : Circuit} {d : Direction} (state : r.state.isOutgoing = true)
    (capable : d.outgoingCapable = true) (slot : r.state.clearsForward = false → r.slot = none) : r.Fits d where
  outgoing _ := capable
  incoming hi := by cases hr : r.state <;> simp [hr, CircuitState.isOutgoing, CircuitState.isIncoming] at state hi
  unowned hs := by rcases hs with hs | hs | hs | hs | hs <;> simp [hs, CircuitState.isOutgoing] at state
  unlinked := slot
  ungrouped hs := by simp [hs, CircuitState.isOutgoing] at state
  grouped _ := by rintro rfl; simp [Direction.outgoingCapable] at capable
  unblocked hs := by rcases hs with hs | hs | hs <;> simp [hs, CircuitState.isOutgoing] at state

theorem Circuit.Fits.of_incoming {r : Circuit} {d : Direction} (state : r.state.isIncoming = true)
    (capable : d.incomingCapable = true) (slot : r.slot = none) (owner : r.state = .inPreseize → r.owner = none) :
    r.Fits d where
  outgoing ho := by cases hr : r.state <;> simp [hr, CircuitState.isOutgoing, CircuitState.isIncoming] at state ho
  incoming _ := capable
  unowned hs := by
    rcases hs with hs | hs | hs | hs | hs
    · simp [hs, CircuitState.isIncoming] at state
    · simp [hs, CircuitState.isIncoming] at state
    · simp [hs, CircuitState.isIncoming] at state
    · simp [hs, CircuitState.isIncoming] at state
    · exact owner hs
  unlinked _ := slot
  ungrouped hs := by simp [hs, CircuitState.isIncoming] at state
  grouped _ := by rintro rfl; simp [Direction.incomingCapable] at capable
  unblocked hs := by rcases hs with hs | hs | hs <;> simp [hs, CircuitState.isIncoming] at state

/-- What a circuit needs to rest in a group: a direction, and neither owner nor slot (R18). -/
structure MayRest (c : Fin 96) (s : State) : Prop where
  grouped : s.direction c ≠ .none
  owner : (s.circuit c).owner = none
  slot : (s.circuit c).slot = none

theorem Circuit.Fits.of_resting {r : Circuit} {d : Direction}
    (state : r.state = .idle ∨ r.state = .blocked ∨ r.state = .fault) (grouped : d ≠ .none) (owner : r.owner = none)
    (slot : r.slot = none) (block : r.state ≠ .fault → r.blockPending = false) : r.Fits d where
  outgoing hs := by rcases state with h | h | h <;> simp [h, CircuitState.isOutgoing] at hs
  incoming hs := by rcases state with h | h | h <;> simp [h, CircuitState.isIncoming] at hs
  unowned _ := owner
  unlinked _ := slot
  ungrouped hs := by rcases state with h | h | h <;> simp [h] at hs
  grouped _ := grouped
  unblocked hs := block (by rcases hs with h | h | h <;> simp [h])

/-! ## Rules for one circuit -/

/-- A record written with its place in the pool and the hunt as before: its state stays, or stays one of a call with a
sender. -/
theorem Staffed.modCircuit_call {f : Circuit → Circuit} (h : Staffed s)
    (state : (f (s.circuit c)).state = (s.circuit c).state ∨
      ((s.circuit c).state.sends ∧ (f (s.circuit c)).state.sends))
    (group : (f (s.circuit c)).group = (s.circuit c).group) (unit : (f (s.circuit c)).unit = (s.circuit c).unit)
    (unitReq : (f (s.circuit c)).unitReq = (s.circuit c).unitReq) : Staffed (s.modCircuit c f) := by
  have kept : ∀ x, ((s.modCircuit c f).circuit x).group = (s.circuit x).group ∧
      ((s.modCircuit c f).circuit x).unit = (s.circuit x).unit ∧
      ((s.modCircuit c f).circuit x).unitReq = (s.circuit x).unitReq ∧
      (((s.modCircuit c f).circuit x).state = (s.circuit x).state ∨
        ((s.circuit x).state.sends ∧ ((s.modCircuit c f).circuit x).state.sends)) := fun x => by
    rw [State.modCircuit_circuit]
    split
    · next hx => subst hx; exact ⟨group, unit, unitReq, state⟩
    · exact ⟨rfl, rfl, rfl, .inl rfl⟩
  have same : ∀ x, ¬ (s.circuit x).state.sends → ((s.modCircuit c f).circuit x).state = (s.circuit x).state :=
    fun x hx => (kept x).2.2.2.resolve_right fun k => hx k.1
  have sends : ∀ x, (s.circuit x).state.sends → ((s.modCircuit c f).circuit x).state.sends := fun x hx => by
    rcases (kept x).2.2.2 with k | k
    · rw [k]; exact hx
    · exact k.2
  have asks : ∀ x cls, AsksFor cls (s.circuit x).state → AsksFor cls ((s.modCircuit c f).circuit x).state :=
    fun x cls ha => by
      cases cls with
      | register =>
        have hs : (s.circuit x).state = .inSeized := ha
        exact (same x (by simp [hs, CircuitState.sends])).trans hs
      | sender => exact sends x ha
  refine ⟨fun g x hx => ?_, fun v x => ?_, fun v x hv => ?_, fun x hx => ?_, fun e he => ?_, fun e he => ?_,
    h.queuedOnce⟩
  · obtain ⟨hs, hg⟩ := h.idle g x hx
    exact ⟨(same x (by simp [hs, CircuitState.sends])).trans hs, (kept x).1.trans hg⟩
  · rw [(kept x).2.1]; exact h.linked v x
  · rcases h.crew v x hv with ⟨hu, hc⟩ | ⟨hu, hc⟩
    · exact .inl ⟨hu, sends x hc⟩
    · exact .inr ⟨hu, (same x (by simp [hc, CircuitState.sends])).trans hc⟩
  · rw [(kept x).2.2.1] at hx
    obtain ⟨⟨cls, ha⟩, hu⟩ := h.requests x hx
    exact ⟨⟨cls, asks x cls ha⟩, (kept x).2.1.trans hu⟩
  · obtain ⟨ha, hu, hr⟩ := h.registerEntries e he
    exact ⟨asks _ _ ha, (kept _).2.1.trans hu, by rw [(kept _).2.2.1]; exact hr⟩
  · obtain ⟨ha, hu, hr⟩ := h.senderEntries e he
    exact ⟨asks _ _ ha, (kept _).2.1.trans hu, by rw [(kept _).2.2.1]; exact hr⟩

/-- A circuit of a call changes in what neither the pool nor the digits know. -/
theorem Kept.modCall {f : Circuit → Circuit} (h : Kept q s) (stays : (s.circuit c).Stays (f (s.circuit c)))
    (state : q.pool → (f (s.circuit c)).state = (s.circuit c).state ∨
      ((s.circuit c).state.sends ∧ (f (s.circuit c)).state.sends))
    (fits : q.rest → (f (s.circuit c)).Fits (s.direction c)) : Kept q (s.modCircuit c f) where
  staffed hp := (h.staffed hp).modCircuit_call (state hp) stays.group stays.unit stays.unitReq
  fitting hr := (h.fitting hr).modCircuit (by rw [State.modCircuit_direction stays.group]; exact fits hr)
  counts hd := by
    refine ((h.but c).counts hd).modCircuit (fun hc => ?_) fun u => ?_
    · rw [stays.sent, stays.digits]; exact (h.counts hd).sent c hc
    · rw [stays.sent, stays.digits]; exact (h.counts hd).midDigit u c
  fields hf := (h.fields hf).modCircuit (by rw [stays.digits, stays.trunkNo]; exact (h.fields hf).1 c)

/-- The digits of a call, or the count of those sent, change. -/
theorem Kept.modDigits {f : Circuit → Circuit} (h : Kept q s) (state : (f (s.circuit c)).state = (s.circuit c).state)
    (group : (f (s.circuit c)).group = (s.circuit c).group) (unit : (f (s.circuit c)).unit = (s.circuit c).unit)
    (unitReq : (f (s.circuit c)).unitReq = (s.circuit c).unitReq)
    (fits : q.rest → (f (s.circuit c)).Fits (s.direction c))
    (sent : q.digits → q.counted c → (f (s.circuit c)).sent ≤ (f (s.circuit c)).digits.length)
    (midDigit : q.digits → ∀ u, (s.unit u).circuit = some c → (s.unit u).state.midDigit →
      (f (s.circuit c)).sent < (f (s.circuit c)).digits.length)
    (fields : q.fields → (f (s.circuit c)).digits.length ≤ 24 ∧ (f (s.circuit c)).trunkNo ≤ 999) :
    Kept q (s.modCircuit c f) where
  staffed hp := (h.staffed hp).modCircuit_call (.inl state) group unit unitReq
  fitting hr := (h.fitting hr).modCircuit (by rw [State.modCircuit_direction group]; exact fits hr)
  counts hd := ((h.but c).counts hd).modCircuit (sent hd) (midDigit hd)
  fields hf := (h.fields hf).modCircuit (fields hf)

/-- The record with which a call begins: its digits, none of them sent. -/
structure Circuit.Begins (digits : List (Fin 10)) (k r : Circuit) : Prop where
  digits : r.digits = digits
  sent : r.sent = 0
  group : r.group = k.group
  trunkNo : r.trunkNo = k.trunkNo
  unit : r.unit = k.unit
  unitReq : r.unitReq = k.unitReq

/-- A call begins on a circuit of which the pool and the hunt hold nothing. -/
theorem Kept.beginCall {f : Circuit → Circuit} {digits : List (Fin 10)} (h : Kept (q.but c) s)
    (apart : q.pool → Apart c s) (begins : (s.circuit c).Begins digits (f (s.circuit c)))
    (len : q.fields → digits.length ≤ 24) (fits : q.rest → (f (s.circuit c)).Fits (s.direction c)) :
    Kept q (s.modCircuit c f) := by
  refine h.modCircuit_apart apart begins.unit begins.unitReq (fun hr => ?_) (fun _ _ => ?_) fun hf => ⟨?_, ?_⟩
  · rw [State.modCircuit_direction begins.group]; exact fits hr
  · rw [begins.sent]; exact Nat.zero_le _
  · rw [begins.digits]; exact len hf
  · rw [begins.trunkNo]; exact ((h.fields hf).1 c).2

theorem Apart.congr (h : Apart c s) (circuit : t.circuit c = s.circuit c)
    (idle : ∀ g, (t.group g).idle = (s.group g).idle) : Apart c t where
  unit := by rw [circuit]; exact h.unit
  unitReq := by rw [circuit]; exact h.unitReq
  idle g := by rw [idle]; exact h.idle g

/-- What no claim sees leaves a circuit out of everything. -/
theorem Apart.alike (h : Apart c s) (a : Alike s t) : Apart c t where
  unit := by rw [(a.circuit c).unit]; exact h.unit
  unitReq := by rw [(a.circuit c).unitReq]; exact h.unitReq
  idle g := by rw [(a.group g).idle]; exact h.idle g

/-- A circuit whose call is over rests where its group puts it. -/
theorem Fitting.mayRest (h : Fitting s) (equipped : (s.circuit c).state ≠ .unequipped)
    (ended : (s.circuit c).state.clearsForward = false) (owner : (s.circuit c).owner = none) : MayRest c s :=
  ⟨(h.circuits c).grouped equipped, owner, (h.circuits c).unlinked ended⟩

end Records

section Hunt

variable {q : Claims} {s t : State} {c : Fin 96} {u : Fin 16}

/-! ## The hunt (R24, R26) -/

/-- A fold that keeps one of the two at each step ends with one of the list. -/
theorem foldl_choice_mem {α : Type} {f : α → α → α} (hf : ∀ a b, f a b = a ∨ f a b = b) (l : List α) (a : α) :
    l.foldl f a ∈ a :: l := by
  induction l generalizing a with
  | nil => simp
  | cons b l ih =>
    rcases hf a b with h | h
    · rw [List.foldl_cons, h]; have := ih a; simp only [List.mem_cons] at this ⊢; tauto
    · rw [List.foldl_cons, h]; have := ih b; simp only [List.mem_cons] at this ⊢; tauto

theorem huntChoice_mem {mode : HuntMode} {idle : List (Fin 96)} (h : huntChoice mode idle = some c) : c ∈ idle := by
  cases idle with
  | nil => cases h
  | cons a l =>
    cases mode with
    | lowFirst =>
      obtain rfl := Option.some.inj h
      exact foldl_choice_mem (fun a b => by split <;> simp) l a
    | highFirst =>
      obtain rfl := Option.some.inj h
      exact foldl_choice_mem (fun a b => by split <;> simp) l a
    | longestIdle =>
      obtain rfl := Option.some.inj h
      exact List.mem_cons_self

theorem leaveIdleList_circuit (x : Fin 96) : (leaveIdleList c s).circuit x = s.circuit x := by
  unfold leaveIdleList; split <;> rfl

theorem leaveIdleList_direction (x : Fin 96) : (leaveIdleList c s).direction x = s.direction x :=
  State.direction_congr (by rw [leaveIdleList_circuit]) fun g => by
    rw [leaveIdleList_group]; split <;> rfl

theorem Kept.leaveIdleList (h : Kept q s) (c : Fin 96) : Kept q (leaveIdleList c s) := by
  unfold Machine.leaveIdleList
  split
  · exact h.modGroup rfl (fun _ x hx => .inl (List.mem_of_mem_filter hx)) fun _ hq => .inl hq
  · exact h

/-- A circuit without unit and request is out of everything once it has left the idle list. -/
theorem Staffed.apart_leaveIdleList (h : Staffed s) (unit : (s.circuit c).unit = none)
    (unitReq : (s.circuit c).unitReq = none) : Apart c (leaveIdleList c s) where
  unit := by rw [leaveIdleList_circuit]; exact unit
  unitReq := by rw [leaveIdleList_circuit]; exact unitReq
  idle g := by
    rw [leaveIdleList_group]
    split
    · simp
    · next hg => exact fun hc => hg (h.idle g c hc).2

/-! ## Entries (R19, R27, R41, R66, R167) -/

/-- A circuit enters OUT_SEIZING. -/
theorem Kept.enterOutSeizing {id : SlotId} {digits : List (Fin 10)} {eon : Bool} (h : Kept q s)
    (apart : q.pool → Apart c s) (capable : q.rest → (s.direction c).outgoingCapable = true)
    (len : q.fields → digits.length ≤ 24) : Kept q (enterOutSeizing c id digits eon s) := by
  have entered : ∀ f : Circuit → Circuit, (s.circuit c).Begins digits (f (s.circuit c)) →
      (f (s.circuit c)).state = .outSeizing → Kept q ((s.modCircuit c f).drive c .on) := fun f begins state =>
    Kept.drive ((h.but c).beginCall apart begins len fun hr =>
      .of_outgoing (by rw [state]; rfl) (capable hr) fun hn => by simp [state, CircuitState.clearsForward] at hn) .on
  unfold Machine.enterOutSeizing
  simp only
  split
  · exact entered _ ⟨rfl, rfl, rfl, rfl, rfl, rfl⟩ rfl
  · refine (entered _ ⟨rfl, rfl, rfl, rfl, rfl, rfl⟩ rfl).requestUnit fun hp => ⟨?_, ?_, ?_⟩
    · simpa [State.drive_circuit, Circuit.startCall] using (apart hp).unit
    · simpa [State.drive_circuit, Circuit.startCall] using (apart hp).unitReq
    · simp [State.drive_circuit, AsksFor, CircuitState.sends]

/-- A circuit enters IN_PRESEIZE. -/
theorem Kept.enterPreseize (h : Kept q s) (unit : q.pool → (s.circuit c).unit = none)
    (unitReq : q.pool → (s.circuit c).unitReq = none) (owner : q.rest → (s.circuit c).owner = none)
    (slot : q.rest → (s.circuit c).slot = none) (capable : q.rest → (s.direction c).incomingCapable = true) :
    Kept q (enterPreseize c s) := by
  unfold Machine.enterPreseize
  simp only
  refine Kept.drive (((h.leaveIdleList c).but c).beginCall (digits := [])
    (fun hp => (h.staffed hp).apart_leaveIdleList (unit hp) (unitReq hp)) ⟨rfl, rfl, rfl, rfl, rfl, rfl⟩
    (fun _ => by simp) fun hr => ?_) .off
  refine .of_incoming rfl ?_ ?_ fun _ => ?_
  · rw [leaveIdleList_direction]; exact capable hr
  · rw [leaveIdleList_circuit]; exact slot hr
  · rw [leaveIdleList_circuit]; exact owner hr

/-- A circuit enters BLOCKED. -/
theorem Kept.enterBlocked (h : Kept q s) (apart : q.pool → Apart c s) (rest : q.rest → MayRest c s)
    (block : q.rest → (s.circuit c).blockPending = false) : Kept q (enterBlocked c s) := by
  unfold Machine.enterBlocked
  simp only
  refine Kept.drive (h.moveState apart ⟨rfl, rfl, rfl, rfl, rfl, rfl⟩ fun hr => ?_) .off
  exact .of_resting (.inr (.inl rfl)) (rest hr).grouped (rest hr).owner (rest hr).slot fun _ => block hr

/-- A circuit enters IDLE, or IN_PRESEIZE where its lead is ON. -/
theorem Kept.enterIdle {g : Fin 8} (h : Kept q s) (group : (s.circuit c).group = some g) (apart : q.pool → Apart c s)
    (rest : q.rest → MayRest c s) (block : q.rest → (s.circuit c).blockPending = false) :
    Kept q (enterIdle c g s) := by
  have idle : Kept q ((s.modCircuit c fun k => { k with state := .idle, timer := none }).drive c .off) :=
    Kept.drive (h.moveState apart ⟨rfl, rfl, rfl, rfl, rfl, rfl⟩ fun hr =>
      .of_resting (.inl rfl) (rest hr).grouped (rest hr).owner (rest hr).slot fun _ => block hr) .off
  have listed : Kept q (((s.modCircuit c fun k => { k with state := .idle, timer := none }).drive c .off).modGroup g
      fun k => { k with idle := k.idle ++ [c] }) := by
    refine idle.modGroup rfl (fun _ x hx => ?_) fun _ hq => .inl hq
    rcases List.mem_append.mp hx with hx | hx
    · exact .inl hx
    · obtain rfl := List.mem_singleton.mp hx
      exact .inr (by simp [State.drive_circuit, group])
  unfold Machine.enterIdle
  simp only
  split
  · next hon =>
    refine listed.enterPreseize (fun hp => ?_) (fun hp => ?_) (fun hr => ?_) (fun hr => ?_) fun hr => ?_
    · simpa [State.drive_circuit] using (apart hp).unit
    · simpa [State.drive_circuit] using (apart hp).unitReq
    · simpa [State.drive_circuit] using (rest hr).owner
    · simpa [State.drive_circuit] using (rest hr).slot
    · rw [State.direction_of_group (g := g) (by simp [State.drive_circuit, group])]
      exact hon.2
  · exact listed

/-- The head slot of a queue takes a circuit. -/
theorem Kept.serveWaiting {g : Fin 8} {id : SlotId} {call : SlotCall} {digits : List (Fin 10)} {eon : Bool}
    (h : Kept q s) (group : (s.circuit c).group = some g) (queue : (s.group g).queue ≠ [])
    (apart : q.pool → Apart c s)
    (sound : q.fields → call.wait ≤ 60 ∧ call.glareCount ≤ 1 ∧ digits.length ≤ 24) :
    Kept q (serveWaiting c g id call digits eon s) := by
  unfold Machine.serveWaiting
  simp only
  have taken := (h.modGroup (f := fun k => { k with queue := k.queue.tail }) rfl (fun _ x hx => .inl hx)
    fun _ _ => .inl queue).setSlot id (.seizing call c) fun hf => ⟨(sound hf).1, (sound hf).2.1⟩
  refine Kept.raiseSlot (taken.enterOutSeizing (fun hp => (apart hp).congr (by simp) fun x => ?_) (fun hr => ?_)
    fun hf => (sound hf).2.2) id .seized
  · rw [State.setSlot_group, State.modGroup_group]
    split
    · next hx => rw [hx]
    · rfl
  · rw [State.direction_of_group (g := g) (by simpa using group), State.setSlot_group, State.modGroup_group_self]
    exact (h.fitting hr).queues g queue

/-- A circuit becomes idle (R27). -/
theorem Kept.becomesIdle (h : Kept q s) (apart : q.pool → Apart c s) (rest : q.rest → MayRest c s) :
    Kept q (becomesIdle c s) := by
  obtain ⟨-, eq⟩ | ⟨g, hg, ⟨-, eq⟩ | ⟨block, ⟨id, tail, call, digits, eon, expiry, hq, hs, eq⟩ | eq⟩⟩ :=
    becomesIdle_cases s c
  · rw [eq]; exact h
  · rw [eq]
    have unblocked : Kept q (s.modCircuit c fun k => { k with blockPending := false }) :=
      h.modCall ⟨rfl, rfl, rfl, rfl, rfl, rfl⟩ (fun _ => .inl rfl) fun hr =>
        have k := (h.fitting hr).circuits c
        ⟨k.outgoing, k.incoming, k.unowned, k.unlinked, k.ungrouped, k.grouped, fun _ => rfl⟩
    refine unblocked.enterBlocked (fun hp => ⟨?_, ?_, (apart hp).idle⟩) (fun hr => ⟨?_, ?_, ?_⟩) fun _ => by simp
    · simpa using (apart hp).unit
    · simpa using (apart hp).unitReq
    · rw [State.modCircuit_direction rfl]; exact (rest hr).grouped
    · simpa using (rest hr).owner
    · simpa using (rest hr).slot
  · rw [eq]
    refine h.serveWaiting hg (by simp [hq]) apart fun hf => ?_
    have sound := (h.fields hf).2.1 id
    rw [hs] at sound
    exact sound
  · rw [eq]; exact h.enterIdle hg apart rest fun _ => block

/-! ## Incoming offers (R29) -/

/-- A circuit outside the pool and the hunt is in IN_SEIZED with the owner that it is offered to. -/
theorem Kept.enterInSeized (h : Kept q s) (apart : q.pool → Apart c s)
    (capable : q.rest → (s.direction c).incomingCapable = true) (slot : q.rest → (s.circuit c).slot = none)
    (owner : Option Port) :
    Kept q (s.modCircuit c fun k => { k with state := .inSeized, owner := owner, timer := none }) :=
  h.moveState apart ⟨rfl, rfl, rfl, rfl, rfl, rfl⟩ fun hr =>
    .of_incoming rfl (capable hr) (slot hr) fun hi => by simp at hi

/-- A seizure is offered to its owner, and a register is requested where there is one. -/
theorem Kept.offerCall (h : Kept q s) (apart : q.pool → Apart c s)
    (capable : q.rest → (s.direction c).incomingCapable = true) (slot : q.rest → (s.circuit c).slot = none) :
    Kept q (offerCall c s) := by
  unfold Machine.offerCall
  split
  · exact h
  · next g hg =>
    extract_lets owner t seized offered
    have moved : Kept q t ∧ t.circuit c = s.circuit c ∧
        ∀ x, (t.group x).direction = (s.group x).direction ∧ (t.group x).idle = (s.group x).idle := by
      unfold t
      split
      · refine ⟨h.modGroup rfl (fun _ x hx => .inl hx) fun _ hq => .inl hq, rfl, fun x => ?_⟩
        rw [State.modGroup_group]
        split
        · next hx => subst hx; exact ⟨rfl, rfl⟩
        · exact ⟨rfl, rfl⟩
      all_goals exact ⟨h, rfl, fun _ => ⟨rfl, rfl⟩⟩
    obtain ⟨kept, circuit, groups⟩ := moved
    have entered : Kept q offered := by
      refine (kept.enterInSeized (fun hp => (apart hp).congr circuit fun x => (groups x).2) (fun hr => ?_)
        (fun hr => ?_) owner).raiseCircuit c .offered
      · rw [State.direction_congr (s := s) (by rw [circuit]) fun x => (groups x).1]; exact capable hr
      · rw [circuit]; exact slot hr
    split
    · refine entered.requestUnit fun hp => ⟨?_, ?_, ?_⟩
      · simpa [offered, seized, circuit] using (apart hp).unit
      · simpa [offered, seized, circuit] using (apart hp).unitReq
      · simp [offered, seized, AsksFor]
    · exact entered

/-! ## Seizure slots (R30 to R34) -/

/-- A circuit loses its slot. -/
theorem Kept.unlinkSlot (h : Kept q s) (c : Fin 96) : Kept q (s.modCircuit c fun k => { k with slot := none }) :=
  h.modCall ⟨rfl, rfl, rfl, rfl, rfl, rfl⟩ (fun _ => .inl rfl) fun hr =>
    have k := (h.fitting hr).circuits c
    ⟨k.outgoing, k.incoming, k.unowned, fun _ => rfl, k.ungrouped, k.grouped, k.unblocked⟩

theorem Kept.slotSound (h : Kept q s) (id : SlotId) (hf : q.fields) : (s.slot id).Sound := (h.fields hf).2.1 id

theorem Kept.breakLink (h : Kept q s) (c : Fin 96) : Kept q (breakLink c s) := by
  unfold Machine.breakLink
  split
  · exact h
  · next id _ =>
    have unlinked := h.unlinkSlot c
    simp only
    split
    · next call d hs =>
      split
      · refine unlinked.setSlot id _ fun hf => ?_
        have sound := unlinked.slotSound id hf
        rw [hs] at sound
        exact sound
      · exact unlinked.setSlot id _ fun _ => trivial
    all_goals exact unlinked

theorem Kept.leaveQueue (h : Kept q s) (g : Fin 8) (id : SlotId) : Kept q (leaveQueue g id s) :=
  h.modGroup rfl (fun _ x hx => .inl hx) fun _ hq => .inl fun hn => hq (by simp [hn])

theorem Kept.freeSlotOf (h : Kept q s) (id : SlotId) : Kept q (freeSlotOf id s) := h.setSlot id _ fun _ => trivial

/-- A waiting slot expires. -/
theorem Kept.expireSlot (h : Kept q s) (id : SlotId) : Kept q (expireSlot id s) := by
  unfold Machine.expireSlot
  split
  · next call digits eon t hs =>
    refine ((h.leaveQueue call.group id).setSlot id _ fun hf => ?_).raiseSlot id .expired
    have sound := h.slotSound id hf
    rw [hs] at sound
    exact ⟨sound.1, sound.2.1⟩
  all_goals exact h

end Hunt

end Sys2Proof.Machine

namespace Sys2Proof.Machine

section Calls

variable {q : Claims} {s t : State} {c : Fin 96} {u : Fin 16}

/-! ## A circuit let go by the pool -/

/-- A circuit's unit is detached and its request withdrawn. -/
def letGo (c : Fin 96) (s : State) : State := withdraw c (detachFrom c s)

theorem Kept.letGo (h : Kept q s) (c : Fin 96) : Kept q (letGo c s) := (h.detachFrom c).withdraw c

theorem Staffed.letGo_circuit (h : Staffed s) :
    (Machine.letGo c s).circuit c = { s.circuit c with unit := none, unitReq := none } := by
  rw [Machine.letGo, (withdraw_spec _ c).1, if_pos rfl, h.detachFrom_circuit]

/-- A circuit let go is out of the pool. -/
theorem Kept.letGo_apart (h : Kept q s) (idle : q.pool → (s.circuit c).state ≠ .idle) (hp : q.pool) :
    Apart c (Machine.letGo c s) := by
  have own := (h.staffed hp).letGo_circuit (c := c)
  refine ⟨by rw [own], by rw [own], fun g hg => idle hp ?_⟩
  rw [← (((h.letGo c).staffed hp).idle g c hg).1, own]

theorem letGo_groups : (letGo c s).groups = s.groups := by
  rw [letGo, (withdraw_spec _ c).2.2.2.2.2.1, (detachFrom_frame s c).1]

/-! ## Clear-forward (R57 to R59) -/

theorem CircuitState.ne_idle_of_isOutgoing {st : CircuitState} (h : st.isOutgoing = true) : st ≠ .idle := by
  rintro rfl; simp [CircuitState.isOutgoing] at h

theorem Kept.capable (h : Kept q s) (out : q.pool → (s.circuit c).state.isOutgoing = true) (hr : q.rest) :
    (s.direction c).outgoingCapable = true := ((h.fitting hr).circuits c).outgoing (out (.inl hr))

/-- A circuit of an outgoing call that is let go and has lost its slot enters OUT_RELEASING. -/
theorem Kept.releaseForward (h : Kept q s) (out : q.rest → (s.circuit c).state.isOutgoing = true)
    (apart : q.pool → Apart c s) (slot : q.rest → (s.circuit c).slot = none) : Kept q (releaseForward c s) := by
  have released : Kept q (s.modCircuit c fun k =>
      { k with state := .outReleasing, relTime := some s.timeBase, presentOn := s.leadOn c }) :=
    h.moveState apart ⟨rfl, rfl, rfl, rfl, rfl, rfl⟩ fun hr =>
      .of_outgoing rfl (((h.fitting hr).circuits c).outgoing (out hr)) fun _ => slot hr
  unfold Machine.releaseForward
  simp only
  split
  · exact released.alike (Alike.modCircuit ⟨rfl, rfl, rfl, rfl, rfl, rfl, rfl, rfl, rfl, rfl⟩)
  · exact (released.drive .off).startTimer _

/-- A circuit clears forward. -/
theorem Kept.clearForward (h : Kept q s) (out : q.pool → (s.circuit c).state.isOutgoing = true) :
    Kept q (clearForward c s) := by
  have own : q.pool → (Machine.breakLink c (Machine.letGo c s)).circuit c =
      { s.circuit c with unit := none, unitReq := none, slot := none } := fun hp => by
    rw [(breakLink_spec _ c).1, if_pos rfl, (h.staffed hp).letGo_circuit]
  have apart := h.letGo_apart fun hp => CircuitState.ne_idle_of_isOutgoing (out hp)
  have gone := (h.letGo c).breakLink c
  refine gone.releaseForward (fun hr => ?_) (fun hp => ⟨?_, ?_, fun g hg => ?_⟩) fun hr => ?_
  · rw [own (.inl hr)]; exact out (.inl hr)
  · rw [own hp]
  · rw [own hp]
  · have hi := ((gone.staffed hp).idle g c hg).1
    rw [own hp] at hi
    exact CircuitState.ne_idle_of_isOutgoing (out hp) hi
  · rw [own (.inl hr)]

theorem Kept.autoClear {cause : Cause} {e : Event} (h : Kept q s)
    (out : q.pool → (s.circuit c).state.isOutgoing = true) : Kept q (autoClear c cause e s) := by
  unfold Machine.autoClear
  refine ((h.alike (Alike.modCircuit (f := fun k => { k with cause := cause })
    ⟨rfl, rfl, rfl, rfl, rfl, rfl, rfl, rfl, rfl, rfl⟩)).raiseCircuit c e).clearForward fun hp => ?_
  simpa using out hp

/-! ## Answer supervision (R53 to R56) -/

/-- Answer is recognized: the unsent digits go. -/
theorem Kept.recognizeAnswer (h : Kept q s) (out : q.pool → (s.circuit c).state.isOutgoing = true) :
    Kept q (recognizeAnswer c s) := by
  have own : q.pool → _ := fun hp => (h.staffed hp).letGo_circuit (c := c)
  have gone := h.letGo c
  unfold Machine.recognizeAnswer
  have apart := h.letGo_apart (c := c) fun hp => CircuitState.ne_idle_of_isOutgoing (out hp)
  refine Kept.raiseAnswered ((gone.but c).modCircuit_apart apart rfl rfl (fun hr => ?_) (fun hd hc => ?_) fun hf =>
    ⟨?_, ((gone.fields hf).1 c).2⟩) c _
  · rw [State.modCircuit_direction rfl]
    refine .of_outgoing rfl (gone.capable (fun hp => ?_) hr) fun hn => by simp [CircuitState.clearsForward] at hn
    rw [own hp]; exact out hp
  · simpa using (gone.counts hd).sent c hc
  · exact (List.length_take_le' _ _).trans ((gone.fields hf).1 c).1

/-- A state of an outgoing call that no sender serves takes another such state. -/
theorem Kept.moveOutgoing {f : Circuit → Circuit} (h : Kept q s)
    (from_ : q.pool → (s.circuit c).state = .outAnswered ∨ (s.circuit c).state = .outClearedBack)
    (stays : (s.circuit c).Stays (f (s.circuit c))) (state : (f (s.circuit c)).state.isOutgoing = true)
    (linkable : (f (s.circuit c)).state.clearsForward = true) : Kept q (s.modCircuit c f) := by
  refine h.moveState (fun hp => ?_) stays fun hr => .of_outgoing state (h.capable (fun hp => ?_) hr) fun hn => ?_
  · apply (h.staffed hp).apart <;> rcases from_ hp with hs | hs <;> simp [hs, CircuitState.sends]
  · rcases from_ hp with hs | hs <;> simp [hs, CircuitState.isOutgoing]
  · simp [linkable] at hn

theorem Kept.recognizeClearBack (h : Kept q s) (due : clearBackDue c s = true) : Kept q (recognizeClearBack c s) := by
  have state : (s.circuit c).state = .outAnswered := by simp [clearBackDue] at due; exact due.1
  exact Kept.raiseCircuit (h.moveOutgoing (fun _ => .inl state) ⟨rfl, rfl, rfl, rfl, rfl, rfl⟩ rfl rfl) c .clearedBack

theorem Kept.recognizeReanswer (h : Kept q s) (due : reanswerDue c s = true) : Kept q (recognizeReanswer c s) := by
  have state : (s.circuit c).state = .outClearedBack := by simp [reanswerDue] at due; exact due.1
  exact Kept.raiseCircuit (h.moveOutgoing (fun _ => .inr state) ⟨rfl, rfl, rfl, rfl, rfl, rfl⟩ rfl rfl) c .reanswered

/-! ## Sending (R46 to R51) -/

/-- A circuit in OUT_SENDING, let go with eon set, waits for the answer. -/
theorem Kept.waitAnswer (h : Kept q s) (out : q.rest → (s.circuit c).state.isOutgoing = true)
    (apart : q.pool → Apart c s) :
    Kept q ((s.modCircuit c fun k => { k with state := .outWaitAnswer, timer := none }).raiseCircuit c .digitsSent) :=
  Kept.raiseCircuit (h.moveState apart ⟨rfl, rfl, rfl, rfl, rfl, rfl⟩ fun hr =>
    .of_outgoing rfl (((h.fitting hr).circuits c).outgoing (out hr)) fun hn => by
      simp [CircuitState.clearsForward] at hn) c .digitsSent

/-- The entry test of OUT_SENDING. -/
theorem Kept.entryTest (h : Kept q s) (sending : q.pool → (s.circuit c).state = .outSending) :
    Kept q (entryTest c s) := by
  unfold Machine.entryTest
  simp only
  split
  · have stopped : Kept q (s.modCircuit c fun k => { k with timer := none }) :=
      h.alike (Alike.modCircuit ⟨rfl, rfl, rfl, rfl, rfl, rfl, rfl, rfl, rfl, rfl⟩)
    split
    · next u hu =>
      have serves : q.pool → ((s.modCircuit c fun k => { k with timer := none }).unit u).circuit = some c := fun hp =>
        ((h.staffed hp).linked u c).mpr hu
      split
      · next hs => exact stopped.resume (fun _ => by rw [hs]; rfl) serves
      · next hs =>
        split
        · exact stopped.decideStart (fun _ => by rw [hs]; rfl) serves
        · exact stopped
      all_goals exact stopped
    · next hu =>
      split
      · next hr =>
        refine stopped.requestUnit fun hp => ⟨by simpa using hu, by simpa using hr, ?_⟩
        simpa [AsksFor, CircuitState.sends] using .inr (sending hp)
      · exact stopped
  · split
    · have own : q.pool → _ := fun hp => (h.staffed hp).letGo_circuit (c := c)
      refine (h.letGo c).waitAnswer (fun hr => ?_) (h.letGo_apart fun hp => by simp [sending hp])
      rw [own (.inl hr)]; simp [sending (.inl hr), CircuitState.isOutgoing]
    · exact h.startTimer _

theorem answerRecognizedDue_state (h : answerRecognizedDue c s = true) :
    (s.circuit c).state = .outSending ∨ (s.circuit c).state = .outWaitAnswer := by
  simp [answerRecognizedDue] at h; exact h.1

theorem Kept.recognizeAnswer_of_due (h : Kept q s) (due : answerRecognizedDue c s = true) :
    Kept q (Machine.recognizeAnswer c s) := by
  refine h.recognizeAnswer fun _ => ?_
  rcases answerRecognizedDue_state due with hs | hs <;> simp [hs, CircuitState.isOutgoing]

/-- A circuit that leaves OUT_SEIZING enters OUT_SENDING with the entry test. -/
theorem Kept.startSending (h : Kept q s) (state : (s.circuit c).state = .outSeizing) :
    Kept q (Machine.entryTest c (s.modCircuit c fun k => { k with state := .outSending })) := by
  have sending := h.modCall (c := c) (f := fun k => { k with state := .outSending }) ⟨rfl, rfl, rfl, rfl, rfl, rfl⟩
    (fun _ => .inr (by simp [CircuitState.sends, state])) fun hr =>
      .of_outgoing rfl (h.capable (fun _ => by simp [state, CircuitState.isOutgoing]) hr) fun hn => by
        simp [CircuitState.clearsForward] at hn
  exact sending.entryTest fun _ => by simp

/-- A seizing circuit proceeds, and an ON may be answer at once. -/
theorem Kept.proceed (h : Kept q s) (seizing : (s.circuit c).state = .outSeizing) : Kept q (proceed c s) := by
  have stopped : Kept q (s.modCircuit c fun k => { k with timer := none }) :=
    h.alike (Alike.modCircuit ⟨rfl, rfl, rfl, rfl, rfl, rfl, rfl, rfl, rfl, rfl⟩)
  have tested := ((stopped.raiseCircuit c .proceed).breakLink c).startSending (c := c)
    (by simp [(breakLink_spec _ c).1, seizing])
  unfold Machine.proceed
  simp only
  split
  · next due => exact tested.recognizeAnswer_of_due due
  · exact tested

/-! ## Release (R58 to R60) -/

/-- A circuit in OUT_RELEASING, out of the pool, loses its owner. -/
theorem Kept.apart_of_state (h : Kept q s) (state : (s.circuit c).state = .outReleasing ∨ (s.circuit c).state = .fault ∨
    (s.circuit c).state = .inGuard ∨ (s.circuit c).state = .inPreseize ∨ (s.circuit c).state = .blocked) (hp : q.pool) :
    Apart c s := by
  apply (h.staffed hp).apart <;> rcases state with hs | hs | hs | hs | hs <;> simp [hs, CircuitState.sends]

theorem Kept.expireGuardWait (h : Kept q s) (state : (s.circuit c).state = .outReleasing) :
    Kept q (expireGuardWait c s) := by
  have caused : Kept q ((s.modCircuit c fun k => { k with cause := .guardFailed }).raiseCircuit c .guardFailed) :=
    (h.alike (Alike.modCircuit ⟨rfl, rfl, rfl, rfl, rfl, rfl, rfl, rfl, rfl, rfl⟩)).raiseCircuit c _
  unfold Machine.expireGuardWait
  simp only
  refine Kept.drive (caused.moveState (caused.apart_of_state (by simp [state])) ⟨rfl, rfl, rfl, rfl, rfl, rfl⟩
    fun hr => ?_) .off
  have k := (caused.fitting hr).circuits c
  exact .of_resting (.inr (.inr rfl)) (k.grouped (by simp [state])) rfl
    (k.unlinked (by simp [state, CircuitState.clearsForward])) (absurd rfl)

/-- A circuit of an ended call gives up its owner and becomes idle. -/
theorem Kept.endCall (h : Kept q s) (state : (s.circuit c).state = .outReleasing ∨ (s.circuit c).state = .inGuard) :
    Kept q (Machine.becomesIdle c (s.modCircuit c fun k => { k with owner := none, timer := none })) := by
  have freed : Kept q (s.modCircuit c fun k => { k with owner := none, timer := none }) :=
    h.modCall ⟨rfl, rfl, rfl, rfl, rfl, rfl⟩ (fun _ => .inl rfl) fun hr =>
      have k := (h.fitting hr).circuits c
      ⟨k.outgoing, k.incoming, fun _ => rfl, k.unlinked, k.ungrouped, k.grouped, k.unblocked⟩
  refine freed.becomesIdle (freed.apart_of_state ?_) fun hr => (freed.fitting hr).mayRest ?_ ?_ ?_
  · rcases state with hs | hs <;> simp [hs]
  · rcases state with hs | hs <;> simp [hs]
  · rcases state with hs | hs <;> simp [hs, CircuitState.clearsForward]
  · simp

theorem Kept.recognizeGuard (h : Kept q s) (state : (s.circuit c).state = .outReleasing) :
    Kept q (recognizeGuard c s) := (h.raiseCircuit c .released).endCall (.inl (by simpa using state))

/-- A circuit that rests already becomes idle. -/
theorem Kept.becomesIdle_of_unowned (h : Kept q s) (state : (s.circuit c).state = .fault ∨
    (s.circuit c).state = .inPreseize ∨ (s.circuit c).state = .blocked) : Kept q (Machine.becomesIdle c s) := by
  refine h.becomesIdle (h.apart_of_state ?_) fun hr => (h.fitting hr).mayRest ?_ ?_
    (((h.fitting hr).circuits c).unowned ?_) <;>
    rcases state with hs | hs | hs <;> simp [hs, CircuitState.clearsForward]

theorem Kept.recognizeLateGuard (h : Kept q s) (state : (s.circuit c).state = .fault) :
    Kept q (recognizeLateGuard c s) := (h.raiseCircuit c .lateGuard).becomesIdle_of_unowned (.inl (by simpa using state))

end Calls

end Sys2Proof.Machine

namespace Sys2Proof.Machine

section Glare

variable {q : Claims} {s t v : State} {c d : Fin 96} {id : SlotId} {call : SlotCall} {digits : List (Fin 10)} {eon : Bool}

/-! ## What glare leaves of its circuit (R96) -/

/-- An operation on other circuits leaves of a circuit its record and the direction of every group. -/
structure Beside (c : Fin 96) (s t : State) : Prop where
  circuit : t.circuit c = s.circuit c
  direction : ∀ g, (t.group g).direction = (s.group g).direction

theorem Beside.trans (h : Beside c s t) (h' : Beside c t v) : Beside c s v :=
  ⟨h'.circuit.trans h.circuit, fun g => (h'.direction g).trans (h.direction g)⟩

theorem Beside.of_groups (circuit : t.circuit c = s.circuit c) (groups : t.groups = s.groups) : Beside c s t :=
  ⟨circuit, fun g => by simp [State.group, groups]⟩

theorem Beside.modGroup {g : Fin 8} {f : Group → Group} (hf : (f (s.group g)).direction = (s.group g).direction) :
    Beside c s (s.modGroup g f) :=
  ⟨rfl, fun x => by rw [State.modGroup_group]; split <;> simp_all⟩

theorem Beside.modCircuit {f : Circuit → Circuit} (hc : c ≠ d) : Beside c s (s.modCircuit d f) :=
  ⟨State.modCircuit_circuit_ne s d f hc, fun _ => rfl⟩

theorem Beside.leaveIdleList (d : Fin 96) : Beside c s (leaveIdleList d s) :=
  ⟨leaveIdleList_circuit c, fun g => by rw [leaveIdleList_group]; split <;> rfl⟩

theorem Beside.setSlot (id : SlotId) (k : Slot) : Beside c s (s.setSlot id k) := .of_groups (by simp) (by simp)

theorem Beside.raiseSlot (id : SlotId) (e : Event) : Beside c s (s.raiseSlot id e) := .of_groups (by simp) (by simp)

/-- An entry to OUT_SEIZING leaves every other circuit without a unit as it is. -/
theorem Beside.enterOutSeizing (hc : c ≠ d) (unit : (s.circuit c).unit = none) :
    Beside c s (enterOutSeizing d id digits eon s) := by
  have entered : ∀ f : Circuit → Circuit, Beside c s ((s.modCircuit d f).drive d .on) := fun f =>
    (Beside.modCircuit hc).trans (Beside.modCircuit hc)
  unfold Machine.enterOutSeizing
  simp only
  split
  · exact entered _
  · refine (entered _).trans (.of_groups (requestUnit_circuit_ne hc ?_) (requestUnit_frame _ d .sender).1)
    rw [(entered _).circuit]
    exact unit

theorem Beside.direction_circuit (h : Beside c s t) : t.direction c = s.direction c :=
  State.direction_congr (by rw [h.circuit]) h.direction

theorem Beside.failGlare : Beside c s (failGlare id call s) := (Beside.setSlot id _).trans (Beside.raiseSlot id _)

/-- A rehunt leaves every circuit outside the pool and the hunt as it is. -/
theorem Beside.rehunt (apart : Apart c s) : Beside c s (rehunt id call digits eon s) := by
  unfold Machine.rehunt
  split
  · next d hd =>
    have hc : c ≠ d := by rintro rfl; exact apart.idle _ (huntChoice_mem hd)
    have before : Beside c s ((Machine.leaveIdleList d s).setSlot id (.seizing call d)) :=
      (Beside.leaveIdleList d).trans (Beside.setSlot id _)
    refine before.trans ((Beside.enterOutSeizing hc ?_).trans (Beside.raiseSlot id _))
    rw [before.circuit]
    exact apart.unit
  · split
    · exact (Beside.setSlot id _).trans ((Beside.modGroup rfl).trans (Beside.raiseSlot id _))
    · exact Beside.failGlare

/-! ## The rehunt (R97, R98) -/

theorem Kept.failGlare (h : Kept q s) (sound : q.fields → call.wait ≤ 60 ∧ call.glareCount ≤ 1) :
    Kept q (failGlare id call s) := (h.setSlot id (.outcome call .glareFailed) sound).raiseSlot id _

/-- The circuit that the hunt chooses is seized for a call. -/
theorem Kept.seizeChosen (h : Kept q s)
    (chosen : huntChoice (s.group call.group).huntMode (s.group call.group).idle = some d)
    (capable : q.rest → (s.group call.group).direction.outgoingCapable = true)
    (sound : q.fields → call.wait ≤ 60 ∧ call.glareCount ≤ 1) (len : q.fields → digits.length ≤ 24) :
    Kept q (Machine.enterOutSeizing d id digits eon ((Machine.leaveIdleList d s).setSlot id (.seizing call d))) := by
  have member := fun hp => (h.staffed hp).idle _ d (huntChoice_mem chosen)
  have loose : q.pool → (s.circuit d).unit = none ∧ (s.circuit d).unitReq = none := fun hp => by
    apply (h.staffed hp).loose <;> simp [(member hp).1, CircuitState.sends]
  refine ((h.leaveIdleList d).setSlot id (.seizing call d) sound).enterOutSeizing (fun hp => ?_) (fun hr => ?_) len
  · exact ((h.staffed hp).apart_leaveIdleList (loose hp).1 (loose hp).2).congr (by simp) (by simp)
  · rw [(Beside.setSlot (c := d) id _).direction_circuit, leaveIdleList_direction,
      State.direction_of_group (member (.inl hr)).2]
    exact capable hr

/-- A call that finds no circuit waits in its group's queue. -/
theorem Kept.waitInQueue {expiry : Time} (h : Kept q s) (f : List SlotId → List SlotId)
    (capable : q.rest → (s.group call.group).direction.outgoingCapable = true)
    (sound : q.fields → call.wait ≤ 60 ∧ call.glareCount ≤ 1) (len : q.fields → digits.length ≤ 24) :
    Kept q ((s.setSlot id (.waiting call digits eon expiry)).modGroup call.group fun k =>
      { k with queue := f k.queue }) :=
  (h.setSlot id (.waiting call digits eon expiry) fun hf => ⟨(sound hf).1, (sound hf).2, len hf⟩).modGroup rfl
    (fun _ _ hx => .inl hx) fun hr _ => .inr (by simpa using capable hr)

theorem Kept.rehunt (h : Kept q s) (capable : q.rest → (s.group call.group).direction.outgoingCapable = true)
    (sound : q.fields → call.wait ≤ 60 ∧ call.glareCount ≤ 1) (len : q.fields → digits.length ≤ 24) :
    Kept q (rehunt id call digits eon s) := by
  unfold Machine.rehunt
  split
  · next d hd => exact Kept.raiseSlot (h.seizeChosen hd capable sound len) id .rehunted
  · split
    · exact Kept.raiseSlot (h.waitInQueue (fun l => id :: l) capable sound len) id .glareQueued
    · exact h.failGlare sound

/-! ## The displaced call (R96 to R99) -/

theorem Alike.forgetSeized (id : SlotId) : Alike s (forgetSeized id s) := by
  unfold Machine.forgetSeized
  exact Alike.modPort id.port rfl

/-- The call of a circuit's slot is one of the circuit's group. -/
def SlotInGroup (c : Fin 96) (s : State) : Prop :=
  ∀ id call d, (s.circuit c).slot = some id → s.slot id = .seizing call d → (s.circuit c).group = some call.group

theorem SlotsSound.slotInGroup (h : SlotsSound s) (c : Fin 96) : SlotInGroup c s := fun id call d hc hs => by
  obtain ⟨call', hs'⟩ := (h.linked c id).mp hc
  obtain ⟨rfl, -⟩ := Slot.seizing.inj (hs'.symm.trans hs)
  exact (h.seizing c id hc).2.2 call' hs'

/-- What a displacement asks of its circuit: it carries an outgoing call that the pool has let go. -/
structure MayDisplace (q : Claims) (c : Fin 96) (s : State) : Prop where
  apart : q.pool → Apart c s
  busy : q.pool → (s.circuit c).state ≠ .idle
  capable : q.rest → (s.direction c).outgoingCapable = true
  slot : q.rest → SlotInGroup c s

theorem Kept.displaceCall (h : Kept q s) (may : MayDisplace q c s) : Kept (q.but c) (displaceCall c s) := by
  have emptied : Kept (q.but c) (s.modCircuit c fun k => { k with digits := [], eon := false, slot := none }) := by
    refine ((h.but c).but c).modCircuit_apart may.apart rfl rfl (fun hr => ?_) (fun _ hc => absurd rfl hc.2) fun hf =>
      ⟨by simp, ((h.fields hf).1 c).2⟩
    have k := (h.fitting hr).circuits c
    rw [State.modCircuit_direction rfl]
    exact ⟨k.outgoing, k.incoming, k.unowned, fun _ => rfl, k.ungrouped, k.grouped, k.unblocked⟩
  unfold Machine.displaceCall
  simp only
  split
  · exact emptied
  · next id hid =>
    split
    · next call d hs =>
      rw [State.modCircuit_slot] at hs
      have sound : q.fields → call.wait ≤ 60 ∧ call.glareCount ≤ 1 := fun hf => by
        have k := h.slotSound id hf
        rw [hs] at k
        exact k
      have forgot := emptied.alike (Alike.forgetSeized id)
      split
      · refine forgot.rehunt (fun hr => ?_) (fun hf => ⟨(sound hf).1, by simp⟩) fun hf => ((h.fields hf).1 c).1
        rw [((Alike.forgetSeized id).group _).direction]
        have capable := may.capable hr
        rw [State.direction_of_group (may.slot hr id call d hid hs)] at capable
        exact capable
      · exact forgot.failGlare sound
    all_goals exact emptied

/-- A displacement takes from the circuit its digits and its slot alone. -/
theorem displaceCall_beside (apart : Apart c s) :
    Beside c (s.modCircuit c fun k => { k with digits := [], eon := false, slot := none }) (displaceCall c s) := by
  have refl : ∀ v : State, Beside c v v := fun _ => .of_groups rfl rfl
  unfold displaceCall
  simp only
  split
  · exact refl _
  · next id _ =>
    have forgot : Beside c (s.modCircuit c fun k => { k with digits := [], eon := false, slot := none })
        (forgetSeized id (s.modCircuit c fun k => { k with digits := [], eon := false, slot := none })) :=
      .of_groups (by simp [forgetSeized]) (by simp [forgetSeized])
    split
    · split
      · refine forgot.trans (Beside.rehunt (Apart.alike (s := s.modCircuit c _) ⟨?_, ?_, apart.idle⟩
          (Alike.forgetSeized id)))
        · simpa using apart.unit
        · simpa using apart.unitReq
      · exact forgot.trans Beside.failGlare
    all_goals exact refl _

/-! ## The yield (R94, R95) -/

theorem Kept.beginYielded (h : Kept (q.but c) s) (apart : q.pool → Apart c s)
    (capable : q.rest → (s.direction c).incomingCapable = true) (slot : q.rest → (s.circuit c).slot = none) :
    Kept q (beginYielded c s) := by
  unfold Machine.beginYielded
  refine (h.beginCall (digits := []) apart ⟨rfl, rfl, rfl, rfl, rfl, rfl⟩ (fun _ => by simp) fun hr => ?_).offerCall
    (fun hp => ⟨?_, ?_, (apart hp).idle⟩) (fun hr => ?_) fun hr => ?_
  · have k := (h.fitting hr).circuits c
    exact ⟨k.outgoing, k.incoming, k.unowned, k.unlinked, k.ungrouped, k.grouped, k.unblocked⟩
  · simpa [Circuit.startCall] using (apart hp).unit
  · simpa [Circuit.startCall] using (apart hp).unitReq
  · rw [State.modCircuit_direction rfl]; exact capable hr
  · simpa [Circuit.startCall] using slot hr

theorem letGo_ports : PortsKept s (letGo c s) :=
  PortsKept.trans (detachFrom_frame s c).2.1 (withdraw_spec _ c).2.2.2.2.2.2.1

/-- A circuit that the pool has let go gives up its outgoing call and takes the incoming one. -/
theorem Kept.yieldCall (h : Kept q s) (may : MayDisplace q c s) (bothway : q.rest → s.direction c = .bothway) :
    Kept q (Machine.beginYielded c (Machine.displaceCall c s)) := by
  have own : q.pool → Beside c _ (Machine.displaceCall c s) := fun hp => displaceCall_beside (may.apart hp)
  have displaced := h.displaceCall may
  refine displaced.beginYielded (fun hp => ⟨?_, ?_, fun g hg => ?_⟩) (fun hr => ?_) fun hr => ?_
  · simpa [(own hp).circuit] using (may.apart hp).unit
  · simpa [(own hp).circuit] using (may.apart hp).unitReq
  · exact may.busy hp (by simpa [(own hp).circuit] using ((displaced.staffed hp).idle g c hg).1)
  · rw [(own (.inl hr)).direction_circuit, State.modCircuit_direction rfl, bothway hr]; rfl
  · simp [(own (.inl hr)).circuit]

theorem letGo_direction (h : Staffed s) : (letGo c s).direction c = s.direction c :=
  State.direction_congr (by rw [h.letGo_circuit]) fun g => by simp [State.group, letGo_groups]

theorem MayDisplace.alike (h : MayDisplace q c s) (a : Alike s t) : MayDisplace q c t where
  apart hp := (h.apart hp).alike a
  busy hp := by rw [(a.circuit c).state]; exact h.busy hp
  capable hr := by rw [a.direction]; exact h.capable hr
  slot hr id call d := by
    rw [(a.circuit c).called.slot, (a.circuit c).called.group, a.slot]; exact h.slot hr id call d

theorem Kept.yieldGlare (h : Kept q s) (seizing : (s.circuit c).state = .outSeizing)
    (bothway : q.rest → s.direction c = .bothway) (slot : q.rest → SlotInGroup c s) : Kept q (yieldGlare c s) := by
  have stopped : Alike s ((s.modCircuit c fun k => { k with timer := none }).drive c .off) :=
    (Alike.modCircuit ⟨rfl, rfl, rfl, rfl, rfl, rfl, rfl, rfl, rfl, rfl⟩).trans (Alike.drive .off)
  unfold Machine.yieldGlare
  simp only
  generalize (s.modCircuit c fun k => { k with timer := none }).drive c .off = t at stopped ⊢
  have ht := h.alike stopped
  have own : q.pool → _ := fun hp => (ht.staffed hp).letGo_circuit (c := c)
  have raised := Alike.raiseCircuit (s := Machine.letGo c t) c .glareLost
  have may : MayDisplace q c (Machine.letGo c t) :=
    { apart := ht.letGo_apart fun _ => by simp [(stopped.circuit c).state, seizing]
      busy := fun hp => by rw [own hp]; simp [(stopped.circuit c).state, seizing]
      capable := fun hr => by
        rw [letGo_direction (ht.staffedRest hr), stopped.direction, bothway hr]
        rfl
      slot := fun hr id call d hc hs => by
        rw [letGo_ports.slot, stopped.slot] at hs
        rw [own (.inl hr)] at hc ⊢
        simp only [(stopped.circuit c).called.slot, (stopped.circuit c).called.group] at hc ⊢
        exact slot hr id call d hc hs }
  refine ((ht.letGo c).alike raised).yieldCall (may.alike raised) fun hr => ?_
  rw [raised.direction, letGo_direction (ht.staffedRest hr), stopped.direction, bothway hr]

theorem Kept.holdGlare (h : Kept q s) (c : Fin 96) : Kept q (holdGlare c s) :=
  Kept.raiseCircuit (h.alike (Alike.modCircuit ⟨rfl, rfl, rfl, rfl, rfl, rfl, rfl, rfl, rfl, rfl⟩)) c .glareWon

/-- A far ON reaches ack_max in OUT_SEIZING (R88, R93). -/
theorem Kept.reachAckMax (h : Kept q s) (due : ackMaxDue c s = true) (slot : q.rest → SlotInGroup c s) :
    Kept q (reachAckMax c s) := by
  have seizing : (s.circuit c).state = .outSeizing := by simp [ackMaxDue] at due; exact due.1
  have out : (s.circuit c).state.isOutgoing = true := by simp [seizing, CircuitState.isOutgoing]
  unfold Machine.reachAckMax
  split
  · exact h.autoClear fun _ => out
  · split
    · next g hg =>
      split
      · next hd =>
        split
        · exact h.holdGlare c
        · exact h.yieldGlare seizing (fun _ => by rw [State.direction_of_group hg, hd]) slot
      all_goals exact h.autoClear fun _ => out
    · exact h.autoClear fun _ => out

end Glare

end Sys2Proof.Machine

namespace Sys2Proof.Machine

section Incoming

variable {q : Claims} {s t : State} {c : Fin 96} {u : Fin 16}

/-! ## The pulse timing reference (R123 to R135) -/

/-- A group's reference is nothing that a claim sees. -/
theorem Alike.modReference {g : Fin 8} (f : Group → Reference) :
    Alike s (s.modGroup g fun k => { k with reference := f k }) where
  circuit _ := Circuit.Alike.refl _
  group x := by
    rw [State.modGroup_group]
    split
    · next hx => subst hx; exact ⟨rfl, rfl, rfl⟩
    · exact ⟨rfl, rfl, rfl⟩
  unit _ := ⟨rfl, rfl, rfl, rfl⟩
  regQueue := rfl
  sndQueue := rfl
  slot := by simp
  matchCount _ := rfl

theorem Alike.raiseGroup (g : Fin 8) (e : Event) : Alike s (s.raiseGroup g e) := Alike.raiseBoth _ e

theorem Alike.setThresholds (g : Fin 8) (r : Reference) : Alike s (s.setThresholds g r) := by
  unfold State.setThresholds
  simp only
  split
  · exact Alike.modReference _
  · exact (Alike.modReference _).trans (Alike.raiseGroup g _)

theorem Alike.applyReference (g : Fin 8) : Alike s (applyReference g s) := Alike.setThresholds g _

theorem Alike.takePeriod (g : Fin 8) (p : Nat) : Alike s (takePeriod g p s) := by
  unfold Machine.takePeriod
  simp only
  split
  · split
    · exact Alike.modReference _
    · split
      · exact (Alike.modReference _).trans (Alike.raiseGroup g _)
      · exact Alike.modReference _
  · split
    · split
      · have locked := (Alike.modReference (s := s) (g := g) fun _ =>
          { (s.group g).reference with
            ref := (s.group g).reference.follow p, locked := true, inRun := 4, outRun := 0 }).trans
          (Alike.raiseGroup g .locked)
        split
        · exact locked.trans (Alike.applyReference g)
        · exact locked
      · exact Alike.modReference _
    · exact Alike.modReference _

theorem Alike.countDigit (g : Fin 8) : Alike s (countDigit g s) := by
  have counted := Alike.modReference (s := s) (g := g) fun k =>
    { k.reference with sinceApply := min 64 ((s.group g).reference.sinceApply + 1) }
  unfold Machine.countDigit
  simp only
  split
  · exact counted.trans (Alike.applyReference g)
  · exact counted

theorem Alike.configureReference (g : Fin 8) (old : Group) : Alike s (configureReference g old s) := by
  unfold Machine.configureReference
  simp only
  split
  · exact Alike.applyReference g
  · split
    · exact Alike.setThresholds g _
    · exact Alike.refl s

theorem Alike.setReference (g : Fin 8) (v : Nat) : Alike s (setReference g v s) := by
  unfold Machine.setReference
  simp only
  split
  · exact (Alike.modReference _).trans (Alike.raiseGroup g _)
  · exact Alike.modReference _

/-! ## Incoming calls (R64 to R87) -/

theorem Kept.congestRegister (h : Kept q s) (c : Fin 96) : Kept q (congestRegister c s) :=
  (h.withdraw c).raiseCircuit c _

/-- A circuit of an incoming call fits its group, and has no slot. -/
theorem Kept.incoming (h : Kept q s) (state : q.rest → (s.circuit c).state.isIncoming = true) (hr : q.rest) :
    (s.direction c).incomingCapable = true ∧ (s.circuit c).slot = none := by
  have k := (h.fitting hr).circuits c
  refine ⟨k.incoming (state hr), k.unlinked ?_⟩
  have := state hr
  cases hs : (s.circuit c).state <;> simp [hs, CircuitState.isIncoming, CircuitState.clearsForward] at this ⊢

/-- A circuit of an incoming call that the pool has let go takes another state of such a call. -/
theorem Kept.moveIncoming {f : Circuit → Circuit} (h : Kept q s) (apart : q.pool → Apart c s)
    (from_ : q.rest → (s.circuit c).state.isIncoming = true) (stays : (s.circuit c).Stays (f (s.circuit c)))
    (state : (f (s.circuit c)).state.isIncoming = true) (slot : (f (s.circuit c)).slot = (s.circuit c).slot)
    (owner : (f (s.circuit c)).state ≠ .inPreseize) : Kept q (s.modCircuit c f) :=
  h.moveState apart stays fun hr =>
    .of_incoming state (h.incoming from_ hr).1 (slot.trans (h.incoming from_ hr).2) fun hp => absurd hp owner

theorem Kept.loseDigits (h : Kept q s) (seized : (s.circuit c).state = .inSeized) : Kept q (loseDigits c s) := by
  have own : (Machine.withdraw c s).circuit c = { s.circuit c with unitReq := none } := by
    rw [(withdraw_spec s c).1, if_pos rfl]
  refine Kept.raiseCircuit ((h.withdraw c).moveIncoming (fun hp => ⟨?_, by rw [own], fun g hg => ?_⟩) (fun _ => ?_)
    ⟨rfl, rfl, rfl, rfl, rfl, rfl⟩ rfl rfl (by simp)) c .digitsLost
  · rw [own]
    refine Option.eq_none_iff_forall_ne_some.mpr fun u hu => ?_
    rcases (h.staffed hp).crew u c (((h.staffed hp).linked u c).mpr hu) with ⟨-, hc⟩ | ⟨-, hc⟩
    · simp [seized, CircuitState.sends] at hc
    · simp [seized] at hc
  · have := (((h.withdraw c).staffed hp).idle g c hg).1
    simp [own, seized] at this
  · simp [own, seized, CircuitState.isIncoming]

theorem CircuitState.of_answerable {st : CircuitState} (h : st.answerable = true) :
    st.isIncoming = true ∧ st ≠ .idle ∧ ∀ cls, ¬ AsksFor cls st := by
  cases st <;> simp_all [CircuitState.answerable, CircuitState.isIncoming] <;>
    rintro (_ | _) <;> simp [AsksFor, CircuitState.sends]

/-- A circuit in a state in which ANSWER acts enters a later state of its call, and its register is detached. -/
theorem Kept.passOn {f : Circuit → Circuit} (h : Kept q s) (state : q.pool → (s.circuit c).state.answerable = true)
    (blind : UnitBlind f) (stays : ∀ k : Circuit, k.Stays (f k))
    (into : ∀ k, (f k).state = .inHeld ∨ (f k).state = .inAnswered) (slot : ∀ k, (f k).slot = k.slot) :
    Kept q (Machine.detachFrom c (s.modCircuit c f)) := by
  refine h.moveState_detachFrom blind (fun hp => ?_) (fun hp => (CircuitState.of_answerable (state hp)).2.1) stays
    fun hr => ?_
  · by_contra hreq
    obtain ⟨⟨cls, asks⟩, -⟩ := (h.staffed hp).requests c hreq
    exact (CircuitState.of_answerable (state hp)).2.2 cls asks
  · have inc := h.incoming (c := c) (fun hr => (CircuitState.of_answerable (state (.inl hr))).1) hr
    refine .of_incoming ?_ inc.1 ((slot _).trans inc.2) fun hp => ?_
    · rcases into { s.circuit c with unit := none } with hs | hs <;> simp [hs, CircuitState.isIncoming]
    · rcases into { s.circuit c with unit := none } with hs | hs <;> simp [hs] at hp

theorem Kept.holdCall (h : Kept q s) (state : q.pool → (s.circuit c).state = .inReceiving) : Kept q (holdCall c s) :=
  h.passOn (fun hp => by simp [state hp, CircuitState.answerable]) (fun _ => rfl)
    (fun _ => ⟨rfl, rfl, rfl, rfl, rfl, rfl⟩) (fun _ => .inl rfl) fun _ => rfl

/-- A digit received joins the call's digits, of which there are at most 24 (R74, R75). -/
theorem Kept.receiveDigit (h : Kept q s) (d : Fin 10) (state : q.pool → (s.circuit c).state = .inReceiving) :
    Kept q (receiveDigit c d s) := by
  unfold Machine.receiveDigit
  split
  · next hlen =>
    refine ((h.modDigits rfl rfl rfl rfl (fun hr => ?_) (fun hd hc => ?_) (fun hd v hv hm => ?_) fun hf => ?_).startTimer
      _).raiseCircuit c .digit
    · have k := (h.fitting hr).circuits c
      exact ⟨k.outgoing, k.incoming, k.unowned, k.unlinked, k.ungrouped, k.grouped, k.unblocked⟩
    · have := (h.counts hd).sent c hc
      simp only [List.length_append, List.length_singleton]; omega
    · have := (h.counts hd).midDigit v c hv hm
      simp only [List.length_append, List.length_singleton]; omega
    · refine ⟨?_, ((h.fields hf).1 c).2⟩
      simp only [List.length_append, List.length_singleton]; omega
  · exact (h.raiseCircuit c _).holdCall fun hp => by simpa using state hp

theorem Kept.timeOutDigits (h : Kept q s) (state : (s.circuit c).state = .inReceiving) : Kept q (timeOutDigits c s) :=
  (h.raiseCircuit c _).holdCall fun _ => by simpa using state

/-! ## The acknowledgement pulse and the answer (R72, R73, R79, R80) -/

theorem Alike.startAckPulse (c : Fin 96) : Alike s (startAckPulse c s) :=
  (Alike.modCircuit ⟨rfl, rfl, rfl, rfl, rfl, rfl, rfl, rfl, rfl, rfl⟩).trans (Alike.drive .on)

theorem Alike.endAckPulse (c : Fin 96) : Alike s (endAckPulse c s) := by
  have ended : Alike s ((s.modCircuit c fun k =>
      { k with ackPulse := .ended, ackEndSep := s.par c .sep }).drive c .off) :=
    (Alike.modCircuit ⟨rfl, rfl, rfl, rfl, rfl, rfl, rfl, rfl, rfl, rfl⟩).trans (Alike.drive .off)
  unfold Machine.endAckPulse
  simp only
  split
  · exact ended.trans (Alike.startTimer _)
  · exact ended

theorem Alike.cutAckPulse (c : Fin 96) : Alike s (cutAckPulse c s) := by
  unfold Machine.cutAckPulse
  split
  · exact Alike.modCircuit ⟨rfl, rfl, rfl, rfl, rfl, rfl, rfl, rfl, rfl, rfl⟩
  · exact Alike.modCircuit ⟨rfl, rfl, rfl, rfl, rfl, rfl, rfl, rfl, rfl, rfl⟩
  · exact Alike.refl s
  · exact Alike.refl s

theorem Alike.showAnswer (c : Fin 96) : Alike s (showAnswer c s) :=
  (Alike.modCircuit ⟨rfl, rfl, rfl, rfl, rfl, rfl, rfl, rfl, rfl, rfl⟩).trans (Alike.drive .on)

theorem Kept.answerCall (h : Kept q s) (state : q.pool → (s.circuit c).state.answerable = true) :
    Kept q (answerCall c s) := by
  have answered := h.passOn (f := fun k => { k with state := .inAnswered, timer := none }) state (fun _ => rfl)
    (fun _ => ⟨rfl, rfl, rfl, rfl, rfl, rfl⟩) (fun _ => .inr rfl) fun _ => rfl
  unfold Machine.answerCall
  simp only
  split
  · exact answered.alike (Alike.modCircuit ⟨rfl, rfl, rfl, rfl, rfl, rfl, rfl, rfl, rfl, rfl⟩)
  · exact answered.alike (Alike.showAnswer c)

theorem Kept.clearBackCall (h : Kept q s) (state : (s.circuit c).state = .inAnswered) : Kept q (clearBackCall c s) := by
  have cleared : Kept q (s.modCircuit c fun k => { k with state := .inClearedBack, ansDue := none }) :=
    h.moveIncoming (fun hp => (h.staffed hp).apart (by simp [state, CircuitState.sends]) (by simp [state])
      (by simp [state]) (by simp [state])) (fun _ => by simp [state, CircuitState.isIncoming])
      ⟨rfl, rfl, rfl, rfl, rfl, rfl⟩ rfl rfl (by simp)
  unfold Machine.clearBackCall
  simp only
  split
  · exact cleared
  · exact cleared.drive .off

/-! ## Clear-forward and the release guard (R82 to R84) -/

theorem Alike.beginGuardOn (c : Fin 96) : Alike s (beginGuardOn c s) := (Alike.drive .on).trans (Alike.startTimer _)

theorem Alike.beginGuard (c : Fin 96) (wasOn : Bool) : Alike s (beginGuard c wasOn s) := by
  unfold Machine.beginGuard
  split
  · exact (Alike.drive .off).trans (Alike.startTimer _)
  · split
    · exact Alike.modCircuit ⟨rfl, rfl, rfl, rfl, rfl, rfl, rfl, rfl, rfl, rfl⟩
    · exact Alike.beginGuardOn c

theorem CircuitState.incoming_of_clearable {st : CircuitState} (h : st.clearable = true) :
    st.isIncoming = true ∧ st ≠ .idle := by
  cases st <;> simp_all [CircuitState.clearable, CircuitState.isIncoming]

/-- What clear-forward does to the circuit's call once the pool has let it go (R83): nothing that a claim sees. -/
theorem Alike.dropAnswer (c : Fin 96) : Alike s ((Machine.cutAckPulse c (s.modCircuit c fun k =>
    { k with timer := none, ansDue := none })).raiseCircuit c .clearedForward) :=
  (Alike.modCircuit ⟨rfl, rfl, rfl, rfl, rfl, rfl, rfl, rfl, rfl, rfl⟩).trans
    ((Alike.cutAckPulse c).trans (Alike.raiseCircuit c _))

theorem Kept.recognizeClearForward (h : Kept q s) (clearable : (s.circuit c).state.clearable = true) :
    Kept q (recognizeClearForward c s) := by
  obtain ⟨incoming, busy⟩ := CircuitState.incoming_of_clearable clearable
  have own : q.pool → _ := fun hp => (h.staffed hp).letGo_circuit (c := c)
  have apart := h.letGo_apart (c := c) fun _ => busy
  have gone := h.letGo c
  unfold Machine.recognizeClearForward
  simp only
  change Kept q (Machine.beginGuard c _ (State.modCircuit (State.raiseCircuit (Machine.cutAckPulse c
    (State.modCircuit (Machine.letGo c s) c _)) c .clearedForward) c _))
  generalize Machine.letGo c s = t at own apart gone ⊢
  have dropped := Alike.dropAnswer (s := t) c
  refine ((gone.alike dropped).moveIncoming (fun hp => (apart hp).alike dropped) (fun hr => ?_)
    ⟨rfl, rfl, rfl, rfl, rfl, rfl⟩ rfl rfl (by simp)).alike (Alike.beginGuard c _)
  rw [(dropped.circuit c).state, own (.inl hr)]
  exact incoming

theorem Kept.endGuard (h : Kept q s) (state : (s.circuit c).state = .inGuard) : Kept q (endGuard c s) :=
  (h.drive .off).endCall (.inr (by simp [State.drive_circuit, state]))

theorem Kept.reportFarSeize (h : Kept q s) (c : Fin 96) : Kept q (reportFarSeize c s) :=
  Kept.raiseCircuit (h.alike (Alike.modCircuit ⟨rfl, rfl, rfl, rfl, rfl, rfl, rfl, rfl, rfl, rfl⟩)) c _

end Incoming

end Sys2Proof.Machine

namespace Sys2Proof.Machine

section Pulsing

variable {q : Claims} {s t : State} {c : Fin 96} {u : Fin 16}

/-! ## Senders (R48, R117, R118) -/

theorem Kept.startDigit {sub : SenderSub} (h : Kept q s) (state : (s.unit u).state = .sender sub) :
    Kept q (startDigit u s) := by
  unfold Machine.startDigit
  split
  · next c hc => exact h.beginDigit (fun _ => by rw [state]; rfl) fun _ => hc
  · exact h

/-- A sender enters MAKE with breaks left to send. -/
theorem Kept.enterMake {f : DigitUnit → DigitUnit} (h : Kept q s) (state : (s.unit u).state = .sender .inBreak)
    (left : (s.unit u).count < (s.unit u).pulses) (circuit : (f (s.unit u)).circuit = (s.unit u).circuit)
    (made : (f (s.unit u)).state = .sender .inMake) (count : (f (s.unit u)).count = (s.unit u).count)
    (pulses : (f (s.unit u)).pulses = (s.unit u).pulses) : Kept q (s.modUnit u f) := by
  refine h.modSender (fun _ => by rw [state]; rfl) circuit (by rw [made]; rfl) (fun hd => ?_) fun hd _ x hx => ?_
  · have k := (h.counts hd).units u
    exact ⟨count ▸ k.count, pulses ▸ k.pulses, fun hb => by simp [made] at hb,
      fun _ => by rw [count, pulses]; exact left⟩
  · exact (h.counts hd).midDigit u x hx (.inl state)

theorem Kept.endMake (h : Kept q s) (state : (s.unit u).state = .sender .inMake) : Kept q (endMake u s) := by
  unfold Machine.endMake
  split
  · refine h.modSender (fun _ => by rw [state]; rfl) rfl rfl (fun hd => ?_) fun hd _ x hx => ?_
    · have k := (h.counts hd).units u
      have left := k.inMake state
      have pulses := k.pulses
      exact ⟨by simp only; omega, pulses, fun _ => left, fun hm => by simp at hm⟩
    · exact (h.counts hd).midDigit u x hx (.inr (.inl state))
  · exact h

/-- A record with one more digit sent. -/
structure Circuit.SendsOne (k r : Circuit) : Prop where
  sent : r.sent = k.sent + 1
  digits : r.digits = k.digits
  state : r.state = k.state
  group : r.group = k.group
  trunkNo : r.trunkNo = k.trunkNo
  owner : r.owner = k.owner
  blockPending : r.blockPending = k.blockPending
  slot : r.slot = k.slot
  unit : r.unit = k.unit
  unitReq : r.unitReq = k.unitReq

theorem Circuit.SendsOne.fits {k r : Circuit} {d : Direction} (h : k.SendsOne r) (hk : k.Fits d) : r.Fits d := by
  constructor <;> simp only [h.state, h.owner, h.slot, h.group, h.blockPending]
  exacts [hk.outgoing, hk.incoming, hk.unowned, hk.unlinked, hk.ungrouped, hk.grouped, hk.unblocked]

/-- A digit of a circuit is counted as sent, where no unit is then within one that is not left to send. -/
theorem Kept.countSent {f : Circuit → Circuit} (h : Kept q s) (sends : (s.circuit c).SendsOne (f (s.circuit c)))
    (left : q.digits → (s.circuit c).sent < (s.circuit c).digits.length)
    (midDigit : q.digits → ∀ v, (s.unit v).circuit = some c → (s.unit v).state.midDigit →
      (s.circuit c).sent + 1 < (s.circuit c).digits.length) : Kept q (s.modCircuit c f) := by
  refine h.modDigits sends.state sends.group sends.unit sends.unitReq
    (fun hr => sends.fits ((h.fitting hr).circuits c)) (fun hd _ => ?_) (fun hd v hv hm => ?_) fun hf => ?_
  · rw [sends.sent, sends.digits]; exact left hd
  · rw [sends.sent, sends.digits]; exact midDigit hd v hv hm
  · rw [sends.digits, sends.trunkNo]; exact (h.fields hf).1 c

/-- A digit of a circuit is counted as sent and its sender is detached. -/
theorem Kept.countSent_detach {f : Circuit → Circuit} (h : Kept q s) (serves : (s.unit u).circuit = some c)
    (blind : UnitBlind f) (sends : ∀ k : Circuit, k.SendsOne (f k))
    (left : q.digits → (s.circuit c).sent < (s.circuit c).digits.length) :
    Kept q (Machine.detach u (s.modCircuit c f)) := by
  obtain ⟨-, -, circ, -⟩ := unlinkUnit_spec s u
  have own : (Machine.unlinkUnit u s).circuit c = { s.circuit c with unit := none } := by rw [circ, if_pos serves]
  refine Kept.detach_of_unlinked ?_
  rw [unlinkUnit_modCircuit blind]
  refine (h.unlinkUnit u).countSent (sends _) (fun hd => by rw [own]; exact left hd) fun hd v hv => ?_
  exact absurd hv (((h.unlinkUnit u).staffedDigits hd).not_attached (by rw [own]) v)

/-- A digit ends with digits left: the sender pauses. -/
theorem Kept.pauseDigit {f : Circuit → Circuit} {g : DigitUnit → DigitUnit} (h : Kept q s)
    (state : (s.unit u).state = .sender .inBreak) (sends : ∀ k : Circuit, k.SendsOne (f k))
    (left : q.digits → (s.circuit c).sent < (s.circuit c).digits.length) (serves : (s.unit u).circuit = some c)
    (more : ((s.modCircuit c f).circuit c).digitLeft = true) (circuit : (g (s.unit u)).circuit = (s.unit u).circuit)
    (paused : (g (s.unit u)).state = .sender .pause) (count : (g (s.unit u)).count = (s.unit u).count)
    (pulses : (g (s.unit u)).pulses = (s.unit u).pulses) : Kept q ((s.modCircuit c f).modUnit u g) := by
  have next : (s.circuit c).sent + 1 < (s.circuit c).digits.length := by
    simpa [Circuit.digitLeft, (sends _).sent, (sends _).digits] using more
  refine (h.countSent (sends _) left fun _ _ _ _ => next).modSender (fun _ => by rw [State.modCircuit_unit, state]; rfl)
    circuit (by rw [State.modCircuit_unit, paused]; rfl) (fun hd => ?_) fun hd _ x hx => ?_
  · have k := (h.counts hd).units u
    rw [State.modCircuit_unit]
    exact ⟨count ▸ k.count, pulses ▸ k.pulses, fun hb => by simp [paused] at hb, fun hm => by simp [paused] at hm⟩
  · obtain rfl : c = x := Option.some.inj (serves.symm.trans hx)
    simpa [(sends _).sent, (sends _).digits] using next

/-- A circuit has one unit. -/
theorem Staffed.one_unit {v : Fin 16} (h : Staffed s) (hv : (s.unit v).circuit = some c)
    (hu : (s.unit u).circuit = some c) : v = u :=
  Option.some.inj (((h.linked v c).mp hv).symm.trans ((h.linked u c).mp hu))

/-- The last digit ends with eon clear: the sender goes, or parks (R110). -/
theorem Kept.endLastDigit {f : Circuit → Circuit} (h : Kept q s) (serves : (s.unit u).circuit = some c)
    (state : (s.unit u).state = .sender .inBreak)
    (blind : UnitBlind f) (sends : ∀ k : Circuit, k.SendsOne (f k))
    (left : q.digits → (s.circuit c).sent < (s.circuit c).digits.length) :
    Kept q (Machine.endWithoutEon u c (s.modCircuit c f)) := by
  unfold Machine.endWithoutEon
  split
  · exact h.countSent_detach serves blind sends left
  · refine Kept.setParked (s := (s.modCircuit c f).modUnit u _) ?_ _
    rw [show ∀ g, (s.modCircuit c f).modUnit u g = (s.modUnit u g).modCircuit c f from fun _ => rfl]
    have parked := h.modSender (u := u) (f := fun k =>
      { k with state := .sender .parked, parkTime := some (s.modCircuit c f).timeBase
               subEnd := some (timeAfter (s.modCircuit c f).timeBase (1000 * (s.modCircuit c f).par c .parkLimit)) })
      (fun _ => by rw [state]; rfl) rfl rfl (fun hd => ?_) fun _ hm => ?_
    · refine parked.countSent (sends _) left fun hd v hv hm => ?_
      obtain rfl := (parked.staffedDigits hd).one_unit hv (by rw [State.modUnit_unit_self]; exact serves)
      simp [UnitState.midDigit] at hm
    · have k := (h.counts hd).units u
      exact ⟨k.count, k.pulses, fun hb => by simp at hb, fun hm => by simp at hm⟩
    · simp [UnitState.midDigit] at hm

/-- The last digit ends with eon set: the sender goes and the circuit waits for the answer. -/
theorem Kept.endSending {f : Circuit → Circuit} (h : Kept q s) (serves : (s.unit u).circuit = some c)
    (state : (s.unit u).state = .sender .inBreak)
    (blind : UnitBlind f) (sends : ∀ k : Circuit, k.SendsOne (f k))
    (left : q.digits → (s.circuit c).sent < (s.circuit c).digits.length) :
    Kept q (((Machine.detach u (s.modCircuit c f)).modCircuit c fun k =>
      { k with state := .outWaitAnswer, timer := none }).raiseCircuit c .digitsSent) := by
  have detached := h.countSent_detach serves blind sends left
  have serving : q.pool → (s.circuit c).state.sends := fun hp =>
    ((h.staffed hp).crew u c serves).of_sender (by rw [state]; rfl)
  have linked : q.pool → (s.circuit c).unit = some u := fun hp => ((h.staffed hp).linked u c).mp serves
  have own : q.pool → (Machine.detach u (s.modCircuit c f)).circuit c = { f (s.circuit c) with unit := none } :=
    fun hp => by
      have counted : Staffed (s.modCircuit c f) :=
        (h.staffed hp).modCircuit_call (.inl (sends _).state) (sends _).group (sends _).unit (sends _).unitReq
      rw [counted.detach_circuit (u := u) (by simp [(sends _).unit, linked hp]), State.modCircuit_circuit_self]
  refine detached.waitAnswer (fun hr => ?_) fun hp => ⟨by rw [own hp], ?_, fun g hg => ?_⟩
  · rw [own (.inl hr)]
    rcases serving (.inl hr) with hs | hs <;> simp [(sends _).state, hs, CircuitState.isOutgoing]
  · rw [own hp]
    by_contra hreq
    simpa [linked hp] using ((h.staffed hp).requests c (by simpa [(sends _).unitReq] using hreq)).2
  · have idle := ((detached.staffed hp).idle g c hg).1
    rcases serving hp with hs | hs <;> simp [own hp, (sends _).state, hs] at idle

theorem Kept.endDigit (h : Kept q s) (serves : (s.unit u).circuit = some c)
    (state : (s.unit u).state = .sender .inBreak) : Kept q (endDigit u c s) := by
  have left : q.digits → (s.circuit c).sent < (s.circuit c).digits.length := fun hd =>
    (h.counts hd).midDigit u c serves (.inl state)
  unfold Machine.endDigit
  simp only
  split
  · next more =>
    exact h.pauseDigit state (fun _ => ⟨rfl, rfl, rfl, rfl, rfl, rfl, rfl, rfl, rfl, rfl⟩) left serves more
      rfl rfl rfl rfl
  · split
    · exact h.endSending serves state (fun _ => rfl) (fun _ => ⟨rfl, rfl, rfl, rfl, rfl, rfl, rfl, rfl, rfl, rfl⟩) left
    · unfold State.startTimer
      rw [State.modCircuit_modCircuit]
      exact h.endLastDigit serves state (fun _ => rfl)
        (fun _ => ⟨rfl, rfl, rfl, rfl, rfl, rfl, rfl, rfl, rfl, rfl⟩) left

theorem Kept.endBreak (h : Kept q s) (state : (s.unit u).state = .sender .inBreak) : Kept q (endBreak u s) := by
  unfold Machine.endBreak
  split
  · next c hc =>
    split
    · next hlt => exact h.enterMake state hlt rfl rfl rfl rfl
    · exact h.endDigit hc state
  · exact h

/-! ## Registers (R119 to R122) -/

/-- A register that stays one. -/
theorem Kept.modRegister {f : DigitUnit → DigitUnit} (h : Kept q s) (register : (s.unit u).state.isRegister = true)
    (circuit : (f (s.unit u)).circuit = (s.unit u).circuit) (still : (f (s.unit u)).state.isRegister = true)
    (count : q.digits → (f (s.unit u)).count ≤ 11) (pulses : (f (s.unit u)).pulses = (s.unit u).pulses) :
    Kept q (s.modUnit u f) := by
  have rests : ∀ sub, (f (s.unit u)).state ≠ .sender sub := fun sub hs => by simp [hs, UnitState.isRegister] at still
  refine h.modUnit circuit (fun hp x hx => .inr ⟨still, ((h.staffed hp).crew u x hx).of_register register⟩)
    (fun hd => ?_) fun _ hm => ?_
  · exact ⟨count hd, pulses ▸ ((h.counts hd).units u).pulses, fun hb => absurd hb (rests _),
      fun hm => absurd hm (rests _)⟩
  · rcases hm with hm | hm | hm <;> exact absurd hm (rests _)

/-- A register returns to WAIT_DIGIT. -/
theorem Kept.awaitDigit (h : Kept q s) (register : (s.unit u).state.isRegister = true) :
    Kept q (s.modUnit u DigitUnit.awaitDigit) :=
  h.modRegister register rfl rfl (fun _ => Nat.zero_le _) rfl

theorem Kept.markLong (h : Kept q s) (u : Fin 16) : Kept q (markLong u s) :=
  h.alike (Alike.modUnit ⟨rfl, rfl, rfl, rfl⟩)

theorem Kept.completeDigit (h : Kept q s) (state : (s.unit u).state = .register .inMake) :
    Kept q (completeDigit u s) := by
  have register : (s.unit u).state.isRegister = true := by rw [state]; rfl
  unfold Machine.completeDigit
  split
  · next c hc =>
    have awaits := h.awaitDigit register
    simp only
    split
    · next d _ =>
      have received := awaits.receiveDigit (c := c) d fun hp => ((h.staffed hp).crew u c hc).of_register register
      split
      · next g _ => exact received.alike (Alike.countDigit g)
      · exact received
    · exact awaits.raiseCircuit c _
  · exact h

theorem Alike.handPeriod (c : Fin 96) (start : Option Time) : Alike s (handPeriod c start s) := by
  unfold Machine.handPeriod
  split
  · simp only
    split
    · exact Alike.takePeriod _ _
    · exact Alike.refl s
  · exact Alike.refl s
  · exact Alike.refl s

theorem Kept.registerOff (h : Kept q s) (u : Fin 16) (c : Fin 96) : Kept q (registerOff u c s) := by
  have begins : ∀ (sub : RegisterSub) (prev : Option Time), (s.unit u).state = .register sub →
      Kept q (s.modUnit u fun k =>
        { k with state := .register .inBreak, longBrk := false, prevBrkStart := prev, brkStart := some s.timeBase
                 subEnd := some (timeAfter s.timeBase (s.applied c).1) }) := fun sub prev state =>
    h.modRegister (by rw [state]; rfl) rfl rfl (fun hd => ((h.counts hd).units u).count) rfl
  unfold Machine.registerOff
  simp only
  split
  · next state => exact begins _ _ state
  · next state => exact (begins _ _ state).alike (Alike.handPeriod c _)
  all_goals exact h

theorem Kept.registerOn (h : Kept q s) (u : Fin 16) (c : Fin 96) : Kept q (registerOn u c s) := by
  unfold Machine.registerOn
  simp only
  split
  · next state =>
    have register : (s.unit u).state.isRegister = true := by rw [state]; rfl
    split
    · exact (h.awaitDigit register).raiseCircuit c _
    · exact h.modRegister register rfl rfl (fun _ => min_le_left _ _) rfl
  all_goals exact h

theorem Kept.registerTransition (h : Kept q s) (c : Fin 96) (cond : Cond) : Kept q (registerTransition c cond s) := by
  unfold Machine.registerTransition
  split
  · next u _ =>
    cases cond with
    | on => exact h.registerOn u c
    | off => exact h.registerOff u c
  · exact h

end Pulsing

end Sys2Proof.Machine

namespace Sys2Proof.Machine

section Leads

variable {q : Claims} {s t : State} {c : Fin 96} {u : Fin 16}

/-! ## Filters, watch and force channels (R3, R177, R180) -/

theorem Alike.setFilter (c : Fin 96) (k : FilterChannel) : Alike s (s.setFilter c k) :=
  Alike.of_records rfl rfl rfl rfl rfl rfl (by simp)

theorem Alike.setForce (f : Fin 8) (k : ForceChannel) : Alike s (s.setForce f k) :=
  Alike.of_records rfl rfl rfl rfl rfl rfl (by simp)

theorem Kept.setWatch (h : Kept q s) (w : Fin 8) (k : WatchChannel) (sound : q.fields → k.matchCount ≤ 65535) :
    Kept q (s.setWatch w k) where
  staffed hp := { h.staffed hp with }
  fitting hr := { circuits := (h.fitting hr).circuits, queues := (h.fitting hr).queues }
  counts hd := { h.counts hd with }
  fields hf := by
    obtain ⟨circuits, slots, watches⟩ := h.fields hf
    refine ⟨circuits, by simpa using slots, fun x => ?_⟩
    by_cases hx : x = w
    · subst hx; simpa using sound hf
    · rw [State.setWatch_watch_ne s w k hx]; exact watches x

theorem Kept.countMatch (h : Kept q s) (w : Fin 8) : Kept q (countMatch w s) :=
  (h.setWatch w _ fun _ => min_le_left _ _).raiseMatched w _

/-- A fold keeps the claims where each of its steps does. -/
theorem Kept.foldl {α : Type} {f : State → α → State} (step : ∀ t a, Kept q t → Kept q (f t a)) (l : List α) :
    ∀ t, Kept q t → Kept q (l.foldl f t) := by
  induction l with
  | nil => exact fun _ h => h
  | cons a l ih => exact fun t h => ih _ (step t a h)

theorem Kept.watchTransition (h : Kept q s) (c : Fin 96) (cond : Cond) : Kept q (watchTransition c cond s) := by
  unfold Machine.watchTransition
  exact Kept.foldl (fun _ f ht => ht.alike (Alike.setForce f _)) _ _
    (Kept.foldl (fun _ w ht => ht.countMatch w) _ _ h)

/-! ## The supervision machine takes a transition (R5, R6) -/

/-- What a preseizure asks of its circuit. -/
structure MayPreseize (q : Claims) (c : Fin 96) (s : State) : Prop where
  unit : q.pool → (s.circuit c).unit = none
  unitReq : q.pool → (s.circuit c).unitReq = none
  owner : q.rest → (s.circuit c).owner = none
  slot : q.rest → (s.circuit c).slot = none
  capable : q.rest → (s.direction c).incomingCapable = true

theorem Kept.mayPreseize (h : Kept q s) (idle : (s.circuit c).state = .idle)
    (capable : (s.direction c).incomingCapable = true) : MayPreseize q c s := by
  have loose : q.pool → (s.circuit c).unit = none ∧ (s.circuit c).unitReq = none := fun hp => by
    apply (h.staffed hp).loose <;> simp [idle, CircuitState.sends]
  exact ⟨fun hp => (loose hp).1, fun hp => (loose hp).2,
    fun hr => ((h.fitting hr).circuits c).unowned (.inr (.inl idle)),
    fun hr => ((h.fitting hr).circuits c).unlinked (by simp [idle, CircuitState.clearsForward]), fun _ => capable⟩

theorem Kept.preseize (h : Kept q s) (may : MayPreseize q c s) : Kept q (Machine.enterPreseize c s) :=
  h.enterPreseize may.unit may.unitReq may.owner may.slot may.capable

theorem Alike.setPresentOn (c : Fin 96) (f : Circuit → Bool) :
    Alike s (s.modCircuit c fun r => { r with presentOn := f r }) :=
  Alike.modCircuit ⟨rfl, rfl, rfl, rfl, rfl, rfl, rfl, rfl, rfl, rfl⟩

theorem Alike.stopTimer (c : Fin 96) : Alike s (s.modCircuit c fun r => { r with timer := none }) :=
  Alike.modCircuit ⟨rfl, rfl, rfl, rfl, rfl, rfl, rfl, rfl, rfl, rfl⟩

theorem Kept.supervisionOn (h : Kept q s) (c : Fin 96) : Kept q (supervisionOn c s) := by
  unfold Machine.supervisionOn
  simp only
  split
  · next idle =>
    split
    · next capable => exact h.preseize (h.mayPreseize idle capable)
    · exact h
  · exact h.startTimer _
  · exact h.alike (Alike.setPresentOn c fun _ => false)
  · exact h.alike (Alike.setPresentOn c _)
  · exact h.alike (Alike.setPresentOn c _)
  all_goals exact h

theorem Kept.seizingOff (h : Kept q s) (seizing : (s.circuit c).state = .outSeizing) (width : Nat) (held : Held) :
    Kept q (seizingOff c width held s) := by
  have off := h.alike (Alike.setPresentOn c fun _ => false)
  unfold Machine.seizingOff
  simp only
  split
  · have cleared := off.alike (Alike.modCircuit (c := c) (f := fun r => { r with glarePhase := .farCleared })
      ⟨rfl, rfl, rfl, rfl, rfl, rfl, rfl, rfl, rfl, rfl⟩)
    split
    · exact cleared
    · exact cleared.startTimer _
  · split
    · exact off.proceed (by simpa using seizing)
    · exact off

theorem Kept.supervisionOff (h : Kept q s) (c : Fin 96) (width : Nat) (held : Held) :
    Kept q (supervisionOff c width held s) := by
  unfold Machine.supervisionOff
  simp only
  split
  · next state => exact (h.alike (Alike.stopTimer c)).becomesIdle_of_unowned (.inr (.inl (by simpa using state)))
  · exact h.alike (Alike.stopTimer c)
  · next state =>
    split
    · exact h.loseDigits state
    · exact h
  · next state => exact h.seizingOff state width held
  · next state =>
    have off := h.alike (Alike.setPresentOn c fun _ => false)
    split
    · exact off.recognizeGuard (by simpa using state)
    · exact off
  · next state =>
    have off := h.alike (Alike.setPresentOn c fun _ => false)
    split
    · exact off.recognizeLateGuard (by simpa using state)
    · exact off
  all_goals exact h

/-! ## Acceptance of a candidate (R5, R6) -/

theorem Kept.recognizeSeizure (h : Kept q s) (state : (s.circuit c).state = .inPreseize) :
    Kept q (Machine.offerCall c s) := by
  have inc := h.incoming (c := c) fun _ => by simp [state, CircuitState.isIncoming]
  exact h.offerCall (h.apart_of_state (by simp [state])) (fun hr => (inc hr).1) fun hr => (inc hr).2

theorem Kept.reachedFirst (h : Kept q s) (slot : q.rest → SlotInGroup c s) : Kept q (reachedFirst c s) := by
  unfold Machine.reachedFirst
  extract_lets t
  have supervised : Kept q t := by
    unfold t
    split
    · next due => exact h.recognizeSeizure (by simp [seizureDue] at due; exact due.1)
    split
    · exact h.reportFarSeize c
    split
    · next due => exact h.reachAckMax due slot
    split
    · next due => exact h.recognizeAnswer_of_due due
    split
    · next due => exact h.recognizeClearBack due
    split
    · next due => exact h.recognizeReanswer due
    split
    · next due => exact h.recognizeClearForward (by simp [clearForwardDue] at due; exact due.1)
    · exact h
  split
  · next u _ =>
    split
    · next due => exact supervised.completeDigit (by simp [digitCompleteDue] at due; exact due.1)
    · split
      · exact supervised.markLong u
      · exact supervised
  · exact supervised

theorem Kept.acceptCandidate (h : Kept q s) (slot : q.rest → SlotInGroup c s) : Kept q (acceptCandidate c s) := by
  unfold Machine.acceptCandidate
  simp only
  refine Kept.watchTransition (Kept.registerTransition ?_ c _) c _
  have first := h.reachedFirst slot
  generalize Machine.reachedFirst c s = t at first ⊢
  have delivered := (first.alike (Alike.setFilter c
    { recCond := oppositeCond (t.filter c).recCond, recTime := t.timeBase, cand := none })).alike
      (Alike.modCircuit (c := c) (f := fun k => { k with held := (t.setFilter c
        { recCond := oppositeCond (t.filter c).recCond, recTime := t.timeBase, cand := none }).thresholds c })
      ⟨rfl, rfl, rfl, rfl, rfl, rfl, rfl, rfl, rfl, rfl⟩)
  split
  · exact delivered.supervisionOn c
  · exact delivered.supervisionOff c _ _

/-! ## Raw lead changes (R4) -/

theorem Kept.changeRaw (h : Kept q s) (slot : q.rest → SlotInGroup c s) : Kept q (changeRaw c s) := by
  unfold Machine.changeRaw
  split
  · exact h.alike (Alike.setFilter c _)
  · split
    · exact (h.acceptCandidate slot).alike (Alike.setFilter c _)
    · exact h.alike (Alike.setFilter c _)

end Leads

end Sys2Proof.Machine

namespace Sys2Proof.Machine

section CallOrders

variable {q : Claims} {s t : State} {c : Fin 96} {u : Fin 16} {id : SlotId} {call : SlotCall}
  {digits : List (Fin 10)} {eon : Bool}

/-! ## SEIZE (R35, R36) -/

theorem Kept.refuse (h : Kept q s) (r : Result) : Kept q (refuse r s).1 := h

theorem digitsOf_length {l : List Nat} (h : digitsOf l = some digits) : digits.length = l.length := by
  induction l generalizing digits with
  | nil => obtain rfl := Option.some.inj h; rfl
  | cons v l ih =>
    unfold digitsOf at h
    split at h
    · obtain ⟨ds, hds, rfl⟩ := Option.map_eq_some_iff.mp h
      simp [ih hds]
    · simp at h

theorem nibbles_length (ws : List Word) (n : Nat) : (nibbles ws n).length = n := by simp [nibbles]

theorem Kept.seizeCircuit (h : Kept q s) (capable : (s.group call.group).direction.outgoingCapable = true)
    (wait : call.wait ≤ 60) (glare : call.glareCount ≤ 1) (len : digits.length ≤ 24) :
    Kept q (seizeCircuit id call digits eon s).1 := by
  unfold Machine.seizeCircuit
  split
  · next d hd => exact h.seizeChosen hd (fun _ => capable) (fun _ => ⟨wait, glare⟩) fun _ => len
  · split
    · exact h.waitInQueue (fun l => l ++ [id]) (fun _ => capable) (fun _ => ⟨wait, glare⟩) fun _ => len
    · exact h

theorem Kept.orderSeize (h : Kept q s) (p : Port) (ws : List Word) : Kept q (orderSeize p ws s).1 := by
  unfold Machine.orderSeize
  simp only
  split
  · exact h
  split
  · exact h
  next capable =>
  split
  · exact h
  next wait =>
  split
  · exact h
  next digits hd =>
  split
  · exact h
  next len =>
  split
  · exact h
  · refine h.seizeCircuit (by simpa using capable) (by simpa using wait) (Nat.zero_le _) ?_
    rw [digitsOf_length hd, nibbles_length]
    omega

/-! ## ADD DIGITS (R49, R50) -/

/-- Digits join a circuit's string. -/
theorem Kept.extendDigits (h : Kept q s) (state : (s.circuit c).state = .outSeizing ∨ (s.circuit c).state = .outSending)
    (len : (s.circuit c).digits.length + digits.length ≤ 24) : Kept q (extendDigits c digits eon s) := by
  have added : Kept q (s.modCircuit c fun k => { k with digits := k.digits ++ digits, eon := k.eon || eon }) := by
    refine h.modDigits rfl rfl rfl rfl (fun hr => ?_) (fun hd hc => ?_) (fun hd v hv hm => ?_) fun hf => ?_
    · have k := (h.fitting hr).circuits c
      exact ⟨k.outgoing, k.incoming, k.unowned, k.unlinked, k.ungrouped, k.grouped, k.unblocked⟩
    · have := (h.counts hd).sent c hc
      simp only [List.length_append]; omega
    · have := (h.counts hd).midDigit v c hv hm
      simp only [List.length_append]; omega
    · exact ⟨by simpa only [List.length_append] using len, ((h.fields hf).1 c).2⟩
  unfold Machine.extendDigits
  simp only
  split
  · next seizing =>
    split
    · next ask =>
      exact added.requestUnit fun _ => ⟨by simpa using ask.2.1, by simpa using ask.2.2, .inl (by simpa using seizing)⟩
    · exact added
  · next sending => exact added.entryTest fun _ => state.elim (fun hs => absurd (by simpa using hs) sending) (by simp)

theorem Kept.orderAddDigits (h : Kept q s) (p : Port) (ws : List Word) : Kept q (orderAddDigits p ws s).1 := by
  unfold Machine.orderAddDigits
  simp only
  split
  · exact h
  split
  · exact h
  next digits hd =>
  split
  · exact h
  split
  · exact h
  next state =>
  split
  · exact h
  · next c _ _ _ len =>
    refine h.extendDigits (c := c) (by tauto) ?_
    rw [digitsOf_length hd, nibbles_length]
    omega

/-! ## Orders on an owned circuit, CANCEL, and the READ orders (R38, R57, R77, R78, R81, R146, R147) -/

theorem Kept.ownedOrder {allowed : CircuitState → Bool} {act : Fin 96 → State → State} (h : Kept q s)
    (acts : ∀ c, allowed (s.circuit c).state = true → Kept q (act c s)) (p : Port) (ws : List Word) :
    Kept q (ownedOrder allowed act p ws s).1 := by
  unfold Machine.ownedOrder
  split
  · exact h
  split
  · exact h
  split
  · exact h
  · next c _ _ ok => exact acts c (by simpa using ok)

theorem CircuitState.outgoing_of_clearsForward {st : CircuitState} (h : st.clearsForward = true) :
    st.isOutgoing = true := by
  cases st <;> simp_all [CircuitState.clearsForward, CircuitState.isOutgoing]

theorem Kept.orderClear (h : Kept q s) (p : Port) (ws : List Word) : Kept q (orderClear p ws s).1 :=
  h.ownedOrder (fun _ ok => h.clearForward fun _ => CircuitState.outgoing_of_clearsForward ok) p ws

theorem Kept.orderReleaseRegister (h : Kept q s) (p : Port) (ws : List Word) :
    Kept q (orderReleaseRegister p ws s).1 :=
  h.ownedOrder (fun _ ok => h.holdCall fun _ => by simpa using ok) p ws

theorem Kept.orderAnswer (h : Kept q s) (p : Port) (ws : List Word) : Kept q (orderAnswer p ws s).1 :=
  h.ownedOrder (fun _ ok => h.answerCall fun _ => ok) p ws

theorem Kept.orderClearBack (h : Kept q s) (p : Port) (ws : List Word) : Kept q (orderClearBack p ws s).1 :=
  h.ownedOrder (fun _ ok => h.clearBackCall (by simpa using ok)) p ws

theorem Alike.discardSlotEvents (id : SlotId) : Alike s (discardSlotEvents id s) := Alike.modPort id.port rfl

theorem Kept.orderCancel (h : Kept q s) (p : Port) (ws : List Word) : Kept q (orderCancel p ws s).1 := by
  unfold Machine.orderCancel
  simp only
  generalize (if bitSet (wordAt ws 1) 7 = true then Port.B else Port.A) = named
  split
  · exact h
  split
  · exact h
  split
  · exact ((h.leaveQueue _ _).freeSlotOf _).alike (Alike.discardSlotEvents _)
  all_goals exact h

theorem Kept.orderReadCircuit (h : Kept q s) (p : Port) (ws : List Word) : Kept q (orderReadCircuit p ws s).1 := by
  unfold Machine.orderReadCircuit
  split <;> exact h

theorem Kept.orderReadGroup (h : Kept q s) (p : Port) (ws : List Word) : Kept q (orderReadGroup p ws s).1 := by
  unfold Machine.orderReadGroup
  split <;> exact h

theorem Kept.orderReadUnit (h : Kept q s) (p : Port) (ws : List Word) : Kept q (orderReadUnit p ws s).1 := by
  unfold Machine.orderReadUnit
  split <;> exact h

end CallOrders

end Sys2Proof.Machine

namespace Sys2Proof.Machine

section Maintenance

variable {q : Claims} {s t : State} {c : Fin 96} {u : Fin 16} {g : Fin 8}

/-! ## CONFIGURE GROUP (R21, R22) -/

/-- A group whose members all rest and for which no slot waits takes any direction that suits its members. -/
theorem Kept.modGroup_quiet {f : Group → Group} (h : Kept q s) (idle : (f (s.group g)).idle = (s.group g).idle)
    (queue : (f (s.group g)).queue = [])
    (members : ∀ c, (s.circuit c).group = some g → ((s.circuit c).state = .blocked ∨ (s.circuit c).state = .idle) ∧
      (f (s.group g)).direction ≠ .none) : Kept q (s.modGroup g f) where
  staffed hp :=
    { h.staffed hp with
      idle := fun x => by
        rw [State.modGroup_group]
        split
        · next hx => subst hx; rw [idle]; exact (h.staffed hp).idle x
        · exact (h.staffed hp).idle x }
  fitting hr := by
    have k := h.fitting hr
    refine ⟨fun c => ?_, fun x hx => ?_⟩
    · by_cases hc : (s.circuit c).group = some g
      · obtain ⟨rests, named⟩ := members c hc
        have old := k.circuits c
        rw [State.direction_of_group (s := s.modGroup g f) hc, State.modGroup_group_self]
        refine .of_resting ?_ named (old.unowned ?_) (old.unlinked ?_) fun _ => old.unblocked ?_ <;>
          rcases rests with hs | hs <;> simp [hs, CircuitState.clearsForward]
      · have same : (s.modGroup g f).direction c = s.direction c := by
          cases hg : (s.circuit c).group with
          | none => simp [State.direction, hg]
          | some x =>
            have hx : x ≠ g := by rintro rfl; exact hc hg
            simp [State.direction, hg, State.modGroup_group_ne s g f hx]
        rw [same]
        exact k.circuits c
    · by_cases hg : x = g
      · subst hg; simp [queue] at hx
      · rw [State.modGroup_group_ne s g f hg] at hx ⊢
        exact k.queues x hx
  counts hd := { h.counts hd with }
  fields hf := by simpa [FieldsSound] using h.fields hf

theorem mem_members : c ∈ s.members g ↔ (s.circuit c).group = some g := by
  simp [State.members, allCircuits]

theorem quietGroup_iff : quietGroup g s = true ↔
    (∀ c, (s.circuit c).group = some g → (s.circuit c).state = .blocked ∨ (s.circuit c).state = .idle) ∧
      (s.group g).queue = [] := by
  simp [quietGroup, mem_members]

/-- What a CONFIGURE GROUP carries is stored. -/
theorem Kept.storeGroup {k : GroupChange} (h : Kept q s)
    (quiet : k.structural (s.group g) = true → quietGroup g s = true)
    (named : k.direction = some .none → s.members g = []) : Kept q (s.modGroup g (storeGroup k)) := by
  by_cases same : (Machine.storeGroup k (s.group g)).direction = (s.group g).direction
  · exact h.modGroup same (fun _ _ hx => .inl hx) fun _ hq => .inl hq
  · obtain ⟨d, hd⟩ : ∃ d, k.direction = some d :=
      Option.ne_none_iff_exists'.mp fun hn => same (by simp [Machine.storeGroup, hn])
    have stored : (Machine.storeGroup k (s.group g)).direction = d := by simp [Machine.storeGroup, hd]
    obtain ⟨rests, queue⟩ := quietGroup_iff.mp (quiet (by
      rw [stored] at same
      simp [GroupChange.structural, differs, hd, same]))
    refine h.modGroup_quiet rfl queue fun c hc => ⟨rests c hc, fun hn => ?_⟩
    have none := named (by rw [hd, ← stored, hn])
    simpa [none] using mem_members.mpr hc

theorem Kept.unparkGroup (h : Kept q s) (g : Fin 8) (old : Group) : Kept q (unparkGroup g old s) := by
  unfold Machine.unparkGroup
  simp only
  split
  · exact Kept.foldl (fun _ u ht => ht.detach u) _ _ h
  · exact h

/-- A preseizure takes from no circuit what its own preseizure asks for. -/
theorem MayPreseize.enterPreseize {x : Fin 96} (h : MayPreseize q x s) (c : Fin 96) :
    MayPreseize q x (enterPreseize c s) := by
  have groups : ∀ g, ((Machine.enterPreseize c s).group g).direction = (s.group g).direction := fun g => by
    unfold Machine.enterPreseize
    simp only [State.drive, State.modCircuit_group, leaveIdleList_group]
    split <;> rfl
  have kept : ((Machine.enterPreseize c s).circuit x).unit = (s.circuit x).unit ∧
      ((Machine.enterPreseize c s).circuit x).unitReq = (s.circuit x).unitReq ∧
      ((Machine.enterPreseize c s).circuit x).owner = (s.circuit x).owner ∧
      ((Machine.enterPreseize c s).circuit x).slot = (s.circuit x).slot ∧
      ((Machine.enterPreseize c s).circuit x).group = (s.circuit x).group := by
    unfold Machine.enterPreseize
    simp only [State.drive_circuit, State.modCircuit_circuit, leaveIdleList_circuit, Circuit.startCall]
    by_cases hx : x = c <;> simp [hx]
  obtain ⟨unit, unitReq, owner, slot, group⟩ := kept
  exact ⟨fun hp => unit.trans (h.unit hp), fun hp => unitReq.trans (h.unitReq hp), fun hr => owner.trans (h.owner hr),
    fun hr => slot.trans (h.slot hr), fun hr => (State.direction_congr group groups).symm ▸ h.capable hr⟩

/-- Circuits that may all be preseized are, one after another. -/
theorem Kept.preseizeAll (l : List (Fin 96)) :
    ∀ {s}, Kept q s → (∀ c ∈ l, MayPreseize q c s) → Kept q (l.foldl (fun s c => Machine.enterPreseize c s) s) := by
  induction l with
  | nil => exact fun h _ => h
  | cons c l ih =>
    exact fun h may => ih (h.preseize (may c List.mem_cons_self)) fun x hx =>
      (may x (List.mem_cons_of_mem _ hx)).enterPreseize c

theorem Kept.turnIncoming (h : Kept q s) (g : Fin 8) (old : Group) : Kept q (turnIncoming g old s) := by
  unfold Machine.turnIncoming
  split
  · next turns =>
    refine Kept.preseizeAll _ h fun c hc => ?_
    obtain ⟨member, idle⟩ := List.mem_filter.mp hc
    refine h.mayPreseize ?_ ?_
    · simp only [decide_eq_true_eq] at idle; exact idle.1
    · rw [State.direction_of_group (mem_members.mp member)]; exact turns.2
  · exact h

theorem Kept.orderConfigureGroup (h : Kept q s) (p : Port) (ws : List Word) :
    Kept q (orderConfigureGroup p ws s).1 := by
  unfold Machine.orderConfigureGroup
  split
  · exact h
  split
  · exact h
  split
  · exact h
  next quiet =>
  split
  · exact h
  next named =>
  refine ((((h.storeGroup (fun hs => ?_) fun hn => ?_).unparkGroup _ _).alike
    (Alike.configureReference _ _))).turnIncoming _ _
  · by_contra hq; exact quiet ⟨hs, by simpa using hq⟩
  · by_contra hm; exact named ⟨hn, hm⟩

/-! ## ASSIGN CIRCUIT (R23) -/

theorem Circuit.Fits.of_unequipped {r : Circuit} {d : Direction} (state : r.state = .unequipped)
    (owner : r.owner = none) (slot : r.slot = none) (group : r.group = none) (block : r.blockPending = false) :
    r.Fits d := by
  constructor <;> simp [state, owner, slot, group, block, CircuitState.isOutgoing, CircuitState.isIncoming]

/-- A circuit that is UNEQUIPPED or BLOCKED takes a new place and trunk number. -/
theorem Kept.place {f : Circuit → Circuit} (h : Kept q s)
    (rests : (s.circuit c).state = .unequipped ∨ (s.circuit c).state = .blocked)
    (digits : (f (s.circuit c)).digits = (s.circuit c).digits) (sent : (f (s.circuit c)).sent = (s.circuit c).sent)
    (unit : (f (s.circuit c)).unit = (s.circuit c).unit) (unitReq : (f (s.circuit c)).unitReq = (s.circuit c).unitReq)
    (trunkNo : (f (s.circuit c)).trunkNo ≤ 999)
    (fits : (s.circuit c).owner = none → (s.circuit c).slot = none →
      (f (s.circuit c)).Fits ((s.modCircuit c f).direction c)) : Kept q (s.modCircuit c f) := by
  refine (h.but c).modCircuit_apart (fun hp => ?_) unit unitReq (fun hr => ?_) (fun hd hc => ?_) fun hf => ?_
  · apply (h.staffed hp).apart <;> rcases rests with hs | hs <;> simp [hs, CircuitState.sends]
  · have k := (h.fitting hr).circuits c
    refine fits (k.unowned ?_) (k.unlinked ?_) <;> rcases rests with hs | hs <;> simp [hs, CircuitState.clearsForward]
  · rw [digits, sent]; exact (h.counts hd).sent c hc
  · rw [digits]; exact ⟨((h.fields hf).1 c).1, trunkNo⟩

/-- A circuit that is placed in a group is BLOCKED there. -/
theorem Kept.placeInGroup {f : Circuit → Circuit} (h : Kept q s)
    (rests : (s.circuit c).state = .unequipped ∨ (s.circuit c).state = .blocked) (named : (s.group g).direction ≠ .none)
    (called : (f (s.circuit c)).digits = (s.circuit c).digits ∧ (f (s.circuit c)).sent = (s.circuit c).sent)
    (crew : (f (s.circuit c)).unit = (s.circuit c).unit ∧ (f (s.circuit c)).unitReq = (s.circuit c).unitReq)
    (owned : (f (s.circuit c)).owner = (s.circuit c).owner ∧ (f (s.circuit c)).slot = (s.circuit c).slot)
    (trunkNo : (f (s.circuit c)).trunkNo ≤ 999) (group : (f (s.circuit c)).group = some g)
    (blocked : (f (s.circuit c)).state = .blocked) (block : (f (s.circuit c)).blockPending = false) :
    Kept q (s.modCircuit c f) := by
  refine h.place rests called.1 called.2 crew.1 crew.2 trunkNo fun owner slot =>
    .of_resting (.inr (.inl blocked)) ?_ (owned.1.trans owner) (owned.2.trans slot) fun _ => block
  rw [State.direction_of_group (s := s.modCircuit c f) (g := g) (by simpa using group)]
  exact named

theorem Kept.assignCircuit {group : Option (Fin 8)} {trunkNo : Nat} (h : Kept q s)
    (rests : (s.circuit c).state = .unequipped ∨ (s.circuit c).state = .blocked) (trunk : trunkNo ≤ 999)
    (named : ∀ g, group = some g → (s.group g).direction ≠ .none) : Kept q (assignCircuit c group trunkNo s) := by
  unfold Machine.assignCircuit
  cases group with
  | some g =>
    have named := named g rfl
    simp only
    split
    · next hs => exact h.placeInGroup rests named ⟨rfl, rfl⟩ ⟨rfl, rfl⟩ ⟨rfl, rfl⟩ trunk rfl hs rfl
    · unfold Machine.enterBlocked
      simp only [State.modCircuit_modCircuit]
      exact (h.placeInGroup rests named ⟨rfl, rfl⟩ ⟨rfl, rfl⟩ ⟨rfl, rfl⟩ trunk rfl rfl rfl).drive .off
  | none =>
    simp only [State.modCircuit_modCircuit]
    exact (h.place rests rfl rfl rfl rfl trunk fun owner slot => .of_unequipped rfl owner slot rfl rfl).drive .off

theorem Kept.orderAssignCircuit (h : Kept q s) (p : Port) (ws : List Word) : Kept q (orderAssignCircuit p ws s).1 := by
  unfold Machine.orderAssignCircuit
  extract_lets w trunkNo place
  have placed : ∀ c group, trunkNo ≤ 999 → (∀ g, group = some g → (s.group g).direction ≠ .none) →
      Kept q (place c group).1 := fun c group trunk named => by
    unfold place
    split
    · exact h
    · next rests => exact h.assignCircuit (by tauto) trunk named
  split
  · exact h
  split
  · exact h
  next trunk =>
  split
  · exact placed _ _ (by omega) (by simp)
  split
  · exact h
  split
  · exact h
  · next named => exact placed _ _ (by omega) (by simpa using named)

/-! ## BLOCK, UNBLOCK and RESET CIRCUIT (R164, R166, R171) -/

theorem Kept.circuitOrder {act : Fin 96 → State → State × List Word} (h : Kept q s)
    (acts : ∀ c, Kept q (act c s).1) (ws : List Word) : Kept q (circuitOrder act ws s).1 := by
  unfold Machine.circuitOrder
  split
  · exact h
  · exact acts _

/-- A circuit's block_pending is written, where its state allows it. -/
theorem Kept.setBlockPending (h : Kept q s) (v : Bool)
    (allowed : v = true →
      (s.circuit c).state ≠ .unequipped ∧ (s.circuit c).state ≠ .blocked ∧ (s.circuit c).state ≠ .idle) :
    Kept q (s.modCircuit c fun k => { k with blockPending := v }) := by
  refine h.modCall ⟨rfl, rfl, rfl, rfl, rfl, rfl⟩ (fun _ => .inl rfl) fun hr => ?_
  have k := (h.fitting hr).circuits c
  refine ⟨k.outgoing, k.incoming, k.unowned, k.unlinked, k.ungrouped, k.grouped, fun hs => ?_⟩
  cases v with
  | false => rfl
  | true =>
    obtain ⟨hu, hb, hi⟩ := allowed rfl
    rcases hs with hs | hs | hs
    · exact absurd hs hu
    · exact absurd hs hb
    · exact absurd hs hi

theorem Kept.blockCircuit (h : Kept q s) (c : Fin 96) : Kept q (blockCircuit c s).1 := by
  unfold Machine.blockCircuit
  split
  · exact h
  · next idle =>
    have loose : q.pool → (s.circuit c).unit = none ∧ (s.circuit c).unitReq = none := fun hp => by
      apply (h.staffed hp).loose <;> simp [idle, CircuitState.sends]
    refine (h.leaveIdleList c).enterBlocked (fun hp => (h.staffed hp).apart_leaveIdleList (loose hp).1 (loose hp).2)
      (fun hr => ?_) fun hr => ?_
    · have k := (h.fitting hr).circuits c
      refine ⟨?_, ?_, ?_⟩
      · rw [leaveIdleList_direction]; exact k.grouped (by simp [idle])
      · rw [leaveIdleList_circuit]; exact k.unowned (.inr (.inl idle))
      · rw [leaveIdleList_circuit]; exact k.unlinked (by simp [idle, CircuitState.clearsForward])
    · rw [leaveIdleList_circuit]; exact ((h.fitting hr).circuits c).unblocked (.inr (.inr idle))
  · exact h
  all_goals
    next hs => exact h.setBlockPending true fun _ => by simp [hs]

theorem Kept.unblockCircuit (h : Kept q s) (c : Fin 96) : Kept q (unblockCircuit c s).1 := by
  unfold Machine.unblockCircuit
  split
  · next blocked => exact (h.alike (Alike.stopTimer c)).becomesIdle_of_unowned (.inr (.inr (by simpa using blocked)))
  · exact h.setBlockPending false (by simp)

theorem Kept.resetFault (h : Kept q s) (c : Fin 96) : Kept q (resetFault c s).1 := by
  unfold Machine.resetFault
  split
  · next fault => exact h.becomesIdle_of_unowned (.inl fault)
  · exact h

/-! ## UNIT SERVICE (R115) -/

theorem Kept.unitOrder {act : Fin 16 → State → State} (h : Kept q s) (acts : ∀ u, Kept q (act u s)) (ws : List Word) :
    Kept q (unitOrder act ws s).1 := by
  unfold Machine.unitOrder
  split
  · exact h
  · exact acts _

theorem Alike.setPendingOos (u : Fin 16) (v : Bool) : Alike s (s.modUnit u fun k => { k with pendingOos := v }) :=
  Alike.modUnit ⟨rfl, rfl, rfl, rfl⟩

theorem Kept.takeUnitOut (h : Kept q s) (u : Fin 16) : Kept q (takeUnitOut u s) := by
  unfold Machine.takeUnitOut
  split
  · next free =>
    exact h.setIdleUnit (fun hp => (h.staffed hp).unattached (by rw [free]; rfl) (by rw [free]; rfl)) rfl rfl rfl
      (.inr rfl)
  · exact h
  · refine (h.unlinkUnit u).setIdleUnit (fun _ => ?_) rfl rfl rfl (.inr rfl)
    rw [(unlinkUnit_spec s u).1]; rfl
  all_goals exact h.alike (Alike.setPendingOos u true)

theorem Kept.bringUnitIn (h : Kept q s) (u : Fin 16) : Kept q (bringUnitIn u s) := by
  unfold Machine.bringUnitIn
  split
  · next out =>
    have free : q.pool → (s.unit u).circuit = none := fun hp =>
      (h.staffed hp).unattached (by rw [out]; rfl) (by rw [out]; rfl)
    exact (h.setIdleUnit free rfl rfl rfl (.inl rfl)).becomeAvailable fun hp => by simpa using free hp
  · exact h
  all_goals exact h.alike (Alike.setPendingOos u false)

/-! ## REFERENCE CONTROL, WATCH SET and FORCE SET (R132, R133, R181, R182) -/

theorem Kept.orderReferenceApply (h : Kept q s) (p : Port) (ws : List Word) : Kept q (orderReferenceApply p ws s).1 := by
  unfold Machine.orderReferenceApply
  split
  · exact h
  split
  · exact h.alike (Alike.applyReference _)
  · exact h

theorem Kept.orderReferenceSet (h : Kept q s) (p : Port) (ws : List Word) : Kept q (orderReferenceSet p ws s).1 := by
  unfold Machine.orderReferenceSet
  simp only
  split
  · exact h
  · exact h.alike (Alike.setReference _ _)

theorem Kept.orderWatchSet (h : Kept q s) (p : Port) (ws : List Word) : Kept q (orderWatchSet p ws s).1 := by
  unfold Machine.orderWatchSet
  simp only
  split
  · exact h.setWatch _ _ fun _ => Nat.zero_le _
  · exact h

theorem Kept.orderForceSet (h : Kept q s) (p : Port) (ws : List Word) : Kept q (orderForceSet p ws s).1 := by
  unfold Machine.orderForceSet
  simp only
  split
  · exact h.alike (Alike.setForce _ _)
  · exact h

end Maintenance

end Sys2Proof.Machine

namespace Sys2Proof.Machine

section Restart

variable {q : Claims} {s t v : State} {c : Fin 96} {u : Fin 16} {k r x : Circuit} {d : Direction}

/-! ## A circuit at the restart (R63, R87, R174) -/

/-- The record that RESTART CALLS leaves of a circuit in a group of a direction: its place and its digits stay, an idle
circuit stays idle, and the record fits the group if it did. -/
structure Circuit.Restarts (d : Direction) (k r : Circuit) : Prop where
  group : r.group = k.group
  trunkNo : r.trunkNo = k.trunkNo
  digits : r.digits = k.digits
  sent : r.sent = k.sent
  idle : k.state = .idle → r.state = .idle
  fits : k.Fits d → r.Fits d

theorem Circuit.Restarts.refl (d : Direction) (k : Circuit) : k.Restarts d k :=
  ⟨rfl, rfl, rfl, rfl, fun h => h, fun h => h⟩

theorem Circuit.Restarts.trans (h : k.Restarts d r) (h' : r.Restarts d x) : k.Restarts d x :=
  ⟨h'.group.trans h.group, h'.trunkNo.trans h.trunkNo, h'.digits.trans h.digits, h'.sent.trans h.sent,
    fun hi => h'.idle (h.idle hi), fun hf => h'.fits (h.fits hf)⟩

theorem releaseForward_modCircuit (c : Fin 96) (s : State) : ∃ f, releaseForward c s = s.modCircuit c f ∧
    (s.circuit c).Stays (f (s.circuit c)) ∧ (f (s.circuit c)).state = .outReleasing ∧
      (f (s.circuit c)).slot = (s.circuit c).slot := by
  unfold releaseForward State.startTimer State.drive
  simp only [State.modCircuit_modCircuit]
  split <;> exact ⟨_, rfl, ⟨rfl, rfl, rfl, rfl, rfl, rfl⟩, rfl, rfl⟩

theorem cutAckPulse_modCircuit (c : Fin 96) (s : State) : ∃ f, cutAckPulse c s = s.modCircuit c f ∧
    (s.circuit c).Stays (f (s.circuit c)) ∧ (f (s.circuit c)).slot = (s.circuit c).slot := by
  unfold cutAckPulse
  split
  · exact ⟨_, rfl, ⟨rfl, rfl, rfl, rfl, rfl, rfl⟩, rfl⟩
  · exact ⟨_, rfl, ⟨rfl, rfl, rfl, rfl, rfl, rfl⟩, rfl⟩
  all_goals exact ⟨fun k => k, by simp [State.modCircuit, State.circuit], ⟨rfl, rfl, rfl, rfl, rfl, rfl⟩, rfl⟩

theorem holdAtRestart_modCircuit (c : Fin 96) (s : State) : ∃ f, holdAtRestart c s = s.modCircuit c f ∧
    (s.circuit c).Stays (f (s.circuit c)) ∧ (f (s.circuit c)).state = .inHeld ∧
      (f (s.circuit c)).slot = (s.circuit c).slot := by
  obtain ⟨f, eq, stays, slot⟩ := cutAckPulse_modCircuit c s
  unfold holdAtRestart State.drive
  simp only [eq, State.modCircuit_modCircuit]
  exact ⟨_, rfl, ⟨stays.group, stays.trunkNo, stays.digits, stays.sent, stays.unit, stays.unitReq⟩, rfl, slot⟩

/-- A circuit with neither unit, request nor slot. -/
def Circuit.unlinked (k : Circuit) : Circuit := { k with unit := none, unitReq := none, slot := none }

/-- A circuit is rewritten as RESTART CALLS does it, and has neither unit nor request. -/
def RestartsAlone (c : Fin 96) (s t : State) : Prop :=
  ∃ f, t = s.modCircuit c f ∧ (s.circuit c).Restarts (s.direction c) (f (s.circuit c)) ∧
    (f (s.circuit c)).unit = none ∧ (f (s.circuit c)).unitReq = none

theorem restart_outgoing (forward : (s.circuit c).state.clearsForward = true) :
    RestartsAlone c s ((releaseForward c (s.modCircuit c Circuit.unlinked)).modCircuit c fun k =>
      { k with owner := none }) := by
  obtain ⟨f, eq, stays, state, slot⟩ := releaseForward_modCircuit c (s.modCircuit c Circuit.unlinked)
  rw [State.modCircuit_circuit_self] at stays state slot
  rw [eq, State.modCircuit_modCircuit, State.modCircuit_modCircuit]
  refine ⟨_, rfl, ⟨stays.group, stays.trunkNo, stays.digits, stays.sent, fun hi => ?_, fun fits => ?_⟩, stays.unit,
    stays.unitReq⟩
  · simp [hi, CircuitState.clearsForward] at forward
  · exact .of_outgoing (by simp [state, CircuitState.isOutgoing])
      (fits.outgoing (CircuitState.outgoing_of_clearsForward forward)) fun _ => slot

theorem restart_incoming (clearable : (s.circuit c).state.clearable = true) :
    RestartsAlone c s (holdAtRestart c (s.modCircuit c Circuit.unlinked)) := by
  obtain ⟨incoming, busy⟩ := CircuitState.incoming_of_clearable clearable
  obtain ⟨f, eq, stays, state, slot⟩ := holdAtRestart_modCircuit c (s.modCircuit c Circuit.unlinked)
  rw [State.modCircuit_circuit_self] at stays state slot
  rw [eq, State.modCircuit_modCircuit]
  refine ⟨_, rfl, ⟨stays.group, stays.trunkNo, stays.digits, stays.sent, fun hi => absurd hi busy, fun fits => ?_⟩,
    stays.unit, stays.unitReq⟩
  exact .of_incoming (by simp [state, CircuitState.isIncoming]) (fits.incoming incoming) slot (by simp [state])

theorem restart_released : RestartsAlone c s ((s.modCircuit c Circuit.unlinked).modCircuit c fun k =>
    { k with owner := none }) := by
  rw [State.modCircuit_modCircuit]
  exact ⟨_, rfl, ⟨rfl, rfl, rfl, rfl, id, fun fits =>
    ⟨fits.outgoing, fits.incoming, fun _ => rfl, fun _ => rfl, fits.ungrouped, fits.grouped, fits.unblocked⟩⟩, rfl, rfl⟩

theorem restart_resting : RestartsAlone c s (s.modCircuit c Circuit.unlinked) :=
  ⟨_, rfl, ⟨rfl, rfl, rfl, rfl, id, fun fits =>
    ⟨fits.outgoing, fits.incoming, fits.unowned, fun _ => rfl, fits.ungrouped, fits.grouped, fits.unblocked⟩⟩, rfl, rfl⟩

theorem restartCircuit_alone (c : Fin 96) (s : State) : RestartsAlone c s (restartCircuit c s) := by
  unfold restartCircuit
  extract_lets s1
  have state : (s1.circuit c).state = (s.circuit c).state := by simp [s1]
  rw [state]
  cases hs : (s.circuit c).state with
  | outSeizing | outSending | outWaitAnswer | outAnswered | outClearedBack =>
    exact restart_outgoing (by simp [hs, CircuitState.clearsForward])
  | inSeized | inReceiving | inHeld | inAnswered | inClearedBack =>
    exact restart_incoming (by simp [hs, CircuitState.clearable])
  | outReleasing | inGuard => exact restart_released
  | unequipped | blocked | fault | idle | inPreseize => exact restart_resting

/-! ## RESTART CALLS (R39, R116, R175) -/

/-- Some circuits have been through the restart: they have neither unit nor request, every circuit has its record or the
restarted one, and nothing else is changed. -/
structure Restarted (done : List (Fin 96)) (s t : State) : Prop where
  circuits : ∀ c, (s.circuit c).Restarts (s.direction c) (t.circuit c)
  loose : ∀ c ∈ done, (t.circuit c).unit = none ∧ (t.circuit c).unitReq = none
  groups : t.groups = s.groups
  units : t.units = s.units
  queues : t.regQueue = s.regQueue ∧ t.sndQueue = s.sndQueue
  watches : t.watches = s.watches
  slot : ∀ id, t.slot id = s.slot id

theorem Restarted.refl (s : State) : Restarted [] s s :=
  ⟨fun _ => Circuit.Restarts.refl _ _, by simp, rfl, rfl, ⟨rfl, rfl⟩, rfl, fun _ => rfl⟩

theorem Restarted.direction {done : List (Fin 96)} (h : Restarted done s t) (c : Fin 96) :
    t.direction c = s.direction c :=
  State.direction_congr (h.circuits c).group fun g => by simp [State.group, h.groups]

theorem Restarted.next {done : List (Fin 96)} (h : Restarted done s t) (c : Fin 96) :
    Restarted (c :: done) s (restartCircuit c t) := by
  obtain ⟨f, eq, restarts, unit, unitReq⟩ := restartCircuit_alone c t
  rw [eq]
  refine ⟨fun x => ?_, fun x hx => ?_, h.groups, h.units, h.queues, h.watches, fun id => by simpa using h.slot id⟩
  · rw [State.modCircuit_circuit]
    split
    · next hx =>
      subst hx
      rw [h.direction] at restarts
      exact (h.circuits x).trans restarts
    · exact h.circuits x
  · rw [State.modCircuit_circuit]
    split
    · exact ⟨unit, unitReq⟩
    · next hne => exact h.loose x ((List.mem_cons.mp hx).resolve_left hne)

theorem Restarted.foldl (l : List (Fin 96)) : ∀ {done : List (Fin 96)} {t : State}, Restarted done s t →
    ∃ all, (∀ c ∈ l, c ∈ all) ∧ (∀ c ∈ done, c ∈ all) ∧
      Restarted all s (l.foldl (fun s c => restartCircuit c s) t) := by
  induction l with
  | nil => exact fun h => ⟨_, by simp, fun _ hc => hc, h⟩
  | cons c l ih =>
    intro done t h
    obtain ⟨all, mem, old, restarted⟩ := ih (h.next c)
    refine ⟨all, fun x hx => ?_, fun x hx => old x (List.mem_cons_of_mem _ hx), restarted⟩
    rcases List.mem_cons.mp hx with rfl | hx
    · exact old x List.mem_cons_self
    · exact mem x hx

theorem DigitUnit.restarted_state (k : DigitUnit) : k.restarted.state = .free ∨ k.restarted.state = .outOfService := by
  unfold DigitUnit.restarted
  cases hs : k.state with
  | free => exact .inl hs
  | outOfService => exact .inr hs
  | sender _ | register _ => cases k.pendingOos <;> simp

theorem DigitUnit.restarted_counts {k : DigitUnit} (h : k.Counts) : k.restarted.Counts := by
  have small : k.restarted.count ≤ 11 ∧ k.restarted.pulses ≤ 10 := by
    unfold DigitUnit.restarted
    cases k.state with
    | free | outOfService => exact ⟨h.count, h.pulses⟩
    | sender _ | register _ => exact ⟨Nat.zero_le _, Nat.zero_le _⟩
  refine ⟨small.1, small.2, fun hb => ?_, fun hm => ?_⟩ <;> rcases k.restarted_state with hs | hs <;> simp_all

theorem DigitUnit.restarted_rests (k : DigitUnit) : ¬ k.restarted.state.midDigit := by
  rcases k.restarted_state with hs | hs <;> simp [hs, UnitState.midDigit]

theorem DigitUnit.restarted_circuit {k : DigitUnit}
    (h : k.state = .free ∨ k.state = .outOfService → k.circuit = none) : k.restarted.circuit = none := by
  unfold DigitUnit.restarted
  cases hs : k.state with
  | free => exact h (.inl hs)
  | outOfService => exact h (.inr hs)
  | sender _ | register _ => rfl

theorem emptyAtRestart_group (g : Fin 8) : (emptyAtRestart s).group g = { s.group g with queue := [] } := by
  simp [emptyAtRestart, State.group]

theorem emptyAtRestart_unit (u : Fin 16) : (emptyAtRestart s).unit u = (s.unit u).restarted := by
  simp [emptyAtRestart, State.unit]

theorem emptyAtRestart_slot (id : SlotId) : (emptyAtRestart s).slot id = .free := by
  obtain ⟨p, n⟩ := id
  cases p <;> simp [emptyAtRestart, State.slot, State.port, PortRecord.restarted]

theorem emptyAtRestart_direction (c : Fin 96) : (emptyAtRestart s).direction c = s.direction c :=
  State.direction_congr rfl fun g => by rw [emptyAtRestart_group]

/-- With every circuit through the restart the claims hold as before it. -/
theorem Kept.restarted {done : List (Fin 96)} (h : Kept q s) (all : ∀ c, c ∈ done)
    (r : Restarted done (emptyAtRestart s) t) : Kept q t := by
  have group : ∀ g, t.group g = { s.group g with queue := [] } := fun g => by
    rw [← emptyAtRestart_group]; simp [State.group, r.groups]
  have unit : ∀ u, t.unit u = (s.unit u).restarted := fun u => by
    rw [← emptyAtRestart_unit]; simp [State.unit, r.units]
  have free : q.pool → ∀ u, (t.unit u).circuit = none := fun hp u => by
    rw [unit]
    refine DigitUnit.restarted_circuit fun hs => (h.staffed hp).unattached ?_ ?_ <;>
      rcases hs with hs | hs <;> simp [hs, UnitState.isSender, UnitState.isRegister]
  have reg : t.regQueue = [] := r.queues.1
  have snd : t.sndQueue = [] := r.queues.2
  refine ⟨fun hp => ⟨fun g c hc => ?_, fun u c => ?_, fun u c hu => ?_, fun c hc => ?_, ?_, ?_, ?_⟩,
    fun hr => ⟨fun c => ?_, fun g hg => ?_⟩, fun hd => ⟨fun c hc => ?_, fun u => ?_, fun u c _ hm => ?_⟩,
    fun hf => ⟨fun c => ?_, fun id => ?_, fun w => ?_⟩⟩
  · rw [group] at hc
    obtain ⟨state, member⟩ := (h.staffed hp).idle g c hc
    exact ⟨(r.circuits c).idle state, (r.circuits c).group.trans member⟩
  · simp [free hp u, (r.loose c (all c)).1]
  · simp [free hp u] at hu
  · exact absurd (r.loose c (all c)).2 hc
  · simp [reg]
  · simp [snd]
  · simp [reg, snd]
  · rw [r.direction]
    refine (r.circuits c).fits ?_
    rw [emptyAtRestart_direction]
    exact (h.fitting hr).circuits c
  · simp [group] at hg
  · rw [(r.circuits c).sent, (r.circuits c).digits]; exact (h.counts hd).sent c hc
  · rw [unit]; exact DigitUnit.restarted_counts ((h.counts hd).units u)
  · rw [unit] at hm
    exact absurd hm (DigitUnit.restarted_rests _)
  · rw [(r.circuits c).digits, (r.circuits c).trunkNo]; exact (h.fields hf).1 c
  · rw [r.slot, emptyAtRestart_slot]; trivial
  · have watch : t.watch w = s.watch w := by simp [State.watch, r.watches, emptyAtRestart]
    rw [watch]; exact (h.fields hf).2.2 w

theorem Kept.orderRestartCalls (h : Kept q s) (p : Port) (ws : List Word) : Kept q (orderRestartCalls p ws s).1 := by
  obtain ⟨all, mem, -, restarted⟩ := Restarted.foldl allCircuits (Restarted.refl (emptyAtRestart s))
  unfold Machine.orderRestartCalls accept
  dsimp only
  exact h.restarted (fun c => mem c (by simp [allCircuits])) restarted

/-! ## Device reset -/

/-- A state whose records are those of the reset meets every claim. -/
theorem Kept.of_reset (circuits : s.circuits = State.reset.circuits) (groups : s.groups = State.reset.groups)
    (units : s.units = State.reset.units) (queues : s.regQueue = [] ∧ s.sndQueue = [])
    (watches : s.watches = State.reset.watches) (slot : ∀ id, s.slot id = .free) : Kept q s := by
  have circuit : ∀ c, s.circuit c = Circuit.reset := fun c => by simp [State.circuit, circuits, State.reset]
  have group : ∀ g, s.group g = Group.reset := fun g => by simp [State.group, groups, State.reset]
  have unit : ∀ u, s.unit u = DigitUnit.reset := fun u => by simp [State.unit, units, State.reset]
  have watch : ∀ w, s.watch w = WatchChannel.reset := fun w => by simp [State.watch, watches, State.reset]
  refine ⟨fun _ => ?_, fun _ => ⟨fun c => ?_, fun g => ?_⟩, fun _ => ?_,
    fun _ => ⟨fun c => ?_, fun id => ?_, fun w => ?_⟩⟩
  · constructor <;> simp [circuit, group, unit, queues.1, queues.2, Circuit.reset, Group.reset, DigitUnit.reset]
  · rw [circuit]; exact .of_unequipped rfl rfl rfl rfl rfl
  · simp [group, Group.reset]
  · refine ⟨fun c _ => by simp [circuit, Circuit.reset], fun u => ?_, fun u c hu => ?_⟩
    · rw [unit]; constructor <;> simp [DigitUnit.reset]
    · simp [unit, DigitUnit.reset] at hu
  · simp [circuit, Circuit.reset]
  · rw [slot]; trivial
  · simp [watch, WatchChannel.reset]

theorem reset_slot (e : Bool) (n : Fin 16) : ({ PortRecord.reset with enabled := e }).slots[n] = .free := by
  simp [PortRecord.reset]

theorem Kept.assertReset (s : State) : Kept q (assertReset s) := by
  refine .of_reset rfl rfl rfl ⟨rfl, rfl⟩ rfl fun id => ?_
  obtain ⟨p, n⟩ := id
  cases p <;> exact reset_slot false n

theorem Kept.resetWith (leads : BitVec 96) (penA penB : Bool) (s : State) : Kept q (resetWith leads penA penB s) := by
  refine .of_reset rfl rfl rfl ⟨rfl, rfl⟩ rfl fun id => ?_
  obtain ⟨p, n⟩ := id
  cases p
  · exact reset_slot penA n
  · exact reset_slot penB n

end Restart

end Sys2Proof.Machine

namespace Sys2Proof.Machine

section Ports

variable {q : Claims} {s t : State} {c : Fin 96} {u : Fin 16} {p x y : Port}

/-! ## Port accesses (R136 to R143, R156 to R159) -/

theorem Alike.abandonReport (p : Port) : Alike s (abandonReport p s) := by
  obtain ⟨f, hf⟩ := abandonReport_modPort s p
  obtain ⟨-, -, -, -, -, -, -, -, slots⟩ := abandonReport_port s p
  simp only [hf, State.modPort_port_self] at slots
  rw [hf]
  exact Alike.modPort p slots

theorem PortRecord.abandonOrder_slots (r : PortRecord) : r.abandonOrder.slots = r.slots := by
  unfold PortRecord.abandonOrder
  split <;> rfl

theorem PortRecord.setSelect_slots (r : PortRecord) (sel : Select) (level : Bool) :
    (r.setSelect sel level).slots = r.slots := by
  cases sel <;> rfl

theorem Kept.answerResultRead (h : Kept q s) (p : Port) : Kept q (answerResultRead p s) :=
  ((h.modPort p (PortRecord.abandonOrder_slots _)).alike (Alike.abandonReport p)).modPort p rfl

theorem Kept.settleSlot (h : Kept q s) (p : Port) (it : Item) : Kept q (settleSlot p it s) := by
  unfold Machine.settleSlot
  split
  · split
    · exact h.freeSlotOf _
    all_goals exact h
  all_goals exact h

theorem Kept.beginReport (h : Kept q s) (p : Port) (it : Item) : Kept q (beginReport p it s) := by
  unfold Machine.beginReport
  exact (h.settleSlot p it).modPort p rfl

theorem Kept.answerReportRead (h : Kept q s) (p : Port) : Kept q (answerReportRead p s) := by
  have begun := h.modPort p (f := fun r => { r.abandonOrder with resultPos := 1 }) (PortRecord.abandonOrder_slots _)
  unfold Machine.answerReportRead
  simp only
  split
  · exact begun.modPort p rfl
  · split
    · exact begun.beginReport p _
    · exact begun.modPort p rfl

theorem Kept.answerReportWrite (h : Kept q s) (p : Port) : Kept q (answerReportWrite p s) :=
  h.modPort p (PortRecord.abandonOrder_slots _)

/-! ## Orders (R140, R143) -/

theorem Kept.orderBody (h : Kept q s) (kind : OrderKind) (p : Port) (ws : List Word) :
    Kept q (orderBody kind p ws s).1 := by
  cases kind with
  | seize => exact h.orderSeize p ws
  | addDigits => exact h.orderAddDigits p ws
  | clear => exact h.orderClear p ws
  | cancel => exact h.orderCancel p ws
  | answer => exact h.orderAnswer p ws
  | clearBack => exact h.orderClearBack p ws
  | releaseRegister => exact h.orderReleaseRegister p ws
  | readCircuit => exact h.orderReadCircuit p ws
  | readGroup => exact h.orderReadGroup p ws
  | readUnit => exact h.orderReadUnit p ws
  | configureGroup => exact h.orderConfigureGroup p ws
  | assignCircuit => exact h.orderAssignCircuit p ws
  | block => exact h.circuitOrder h.blockCircuit ws
  | unblock => exact h.circuitOrder h.unblockCircuit ws
  | resetCircuit => exact h.circuitOrder h.resetFault ws
  | unitServiceOff => exact h.unitOrder h.takeUnitOut ws
  | unitServiceOn => exact h.unitOrder h.bringUnitIn ws
  | referenceControlApply => exact h.orderReferenceApply p ws
  | referenceControlSet => exact h.orderReferenceSet p ws
  | watchSet => exact h.orderWatchSet p ws
  | forceSet => exact h.orderForceSet p ws
  | restartCalls => exact h.orderRestartCalls p ws

theorem Kept.takeOrder (h : Kept q s) (kind : OrderKind) (p : Port) (w : Word) (mperm : Bool) :
    Kept q (takeOrder kind (Machine.orderBody kind) p w mperm s) := by
  have abandoned := h.alike (Alike.abandonReport p)
  unfold Machine.takeOrder
  simp only
  split
  · exact abandoned.modPort p rfl
  · exact ((abandoned.modPort p (f := fun r => { r with assembly := .empty }) rfl).orderBody kind p _).modPort p rfl

theorem Kept.takeWord (h : Kept q s) (p : Port) (w : Word) : Kept q (takeWord p w s) := by
  have abandoned := h.alike (Alike.abandonReport p)
  unfold Machine.takeWord
  simp only
  split
  · exact abandoned.modPort p rfl
  · exact abandoned.modPort p rfl

theorem Kept.assertSelect {sel : Select} {beside : Bool} {act : State → State} (h : Kept q s)
    (acts : ∀ t, Kept q t → Kept q (act t)) : Kept q (assertSelect p sel beside act s) := by
  have asserted := h.modPort p (f := fun r => r.setSelect sel true) (PortRecord.setSelect_slots _ sel true)
  unfold Machine.assertSelect
  split
  · exact h
  · simp only
    split
    · exact asserted.modPort p (f := fun r => r.setSelect (otherSelect sel) true) (PortRecord.setSelect_slots _ _ true)
    · split
      · exact acts _ asserted
      · exact asserted

theorem Kept.orderWrite (h : Kept q s) (kind : OrderKind) (w : OrderWrite) :
    Kept q (orderWrite kind (Machine.orderBody kind) w s) := by
  unfold Machine.orderWrite
  split
  · exact h.assertSelect fun t ht => ht.takeOrder kind _ _ _
  · exact h

theorem Kept.plainWrite (h : Kept q s) (w : OrderWrite) : Kept q (plainWrite w s) := by
  unfold Machine.plainWrite
  split
  · exact h.assertSelect fun t ht => ht.takeWord _ _
  · exact h

theorem Kept.answerOrderWrite (h : Kept q s) (p : Port) (w : Word) (mperm : Bool) :
    Kept q (answerOrderWrite p w mperm s) := by
  unfold Machine.answerOrderWrite
  split
  · exact h.takeOrder _ p w mperm
  · exact h.takeWord p w

theorem Kept.beginOther (h : Kept q s) (p : Port) (d : Deassertion) : Kept q (beginOther p d s) := by
  unfold Machine.beginOther
  split
  · exact h.answerOrderWrite p _ _
  · exact h.answerReportWrite p
  · exact h.answerResultRead p
  · exact h.answerReportRead p

theorem Kept.deassertSelect (h : Kept q s) (p : Port) (d : Deassertion) : Kept q (deassertSelect p d s) := by
  have released := h.modPort p (f := fun r => r.released d.select) (PortRecord.setSelect_slots _ d.select false)
  unfold Machine.deassertSelect
  split
  · simp only
    split
    · exact released.beginOther p d
    · exact released
  · exact h

/-! ## The PEN lines (R148 to R150) -/

theorem Kept.dropSlot (h : Kept q s) (id : SlotId) : Kept q (dropSlot id s) := by
  unfold Machine.dropSlot
  split
  · exact h
  · exact (h.leaveQueue _ id).freeSlotOf id
  · exact (h.unlinkSlot _).freeSlotOf id
  · exact h.freeSlotOf id

theorem PortRecord.dropSlotItems_slots (r : PortRecord) : r.dropSlotItems.slots = r.slots := by
  have emptied : ∀ (l : List (Fin 16)) (r : PortRecord),
      (l.foldl (fun r n => r.setPend (.slot n) EventSet.empty) r).slots = r.slots := fun l => by
    induction l with
    | nil => exact fun _ => rfl
    | cons n l ih => exact fun r => ih _
  unfold PortRecord.dropSlotItems
  dsimp only
  rw [emptied]

/-- A circuit that has an owner passes to another port. -/
theorem Kept.transferCircuit (h : Kept q s) (owner : (s.circuit c).owner ≠ none) : Kept q (transferCircuit x y c s) := by
  have passed : Kept q (s.modCircuit c fun k => { k with owner := some y }) :=
    h.modCall ⟨rfl, rfl, rfl, rfl, rfl, rfl⟩ (fun _ => .inl rfl) fun hr => ?_
  · unfold Machine.transferCircuit
    refine (passed.modPort x ?_).modPort y ?_
    · rfl
    · rfl
  have k := (h.fitting hr).circuits c
  exact ⟨k.outgoing, k.incoming, fun hs => absurd (k.unowned hs) owner, k.unlinked, k.ungrouped, k.grouped, k.unblocked⟩

theorem transferCircuit_owner {d : Fin 96} (h : (s.circuit d).owner ≠ none) :
    ((transferCircuit x y c s).circuit d).owner ≠ none := by
  unfold transferCircuit
  simp only [State.modPort_circuit, State.modCircuit_circuit]
  split
  · simp
  · exact h

theorem Kept.transferEach (l : List (Fin 96)) : ∀ {s}, Kept q s → (∀ c ∈ l, (s.circuit c).owner ≠ none) →
    Kept q (l.foldl (fun s c => Machine.transferCircuit x y c s) s) := by
  induction l with
  | nil => exact fun h _ => h
  | cons c l ih =>
    exact fun h owners => ih (h.transferCircuit (owners c List.mem_cons_self)) fun d hd =>
      transferCircuit_owner (owners d (List.mem_cons_of_mem _ hd))

theorem Kept.transferAll (h : Kept q s) (x y : Port) : Kept q (transferAll x y s) := by
  refine Kept.transferEach _ h fun c hc => ?_
  have owned : (s.circuit c).owner = some x := by
    rcases List.mem_append.mp hc with hc | hc
    · simpa using (List.mem_filter.mp hc).2
    · simpa using (List.mem_filter.mp (List.mem_filter.mp hc).1).2
  simp [owned]

theorem Kept.fallPen (h : Kept q s) (x : Port) : Kept q (fallPen x s) := by
  have abandoned := (h.modPort x (f := fun r => { r with enabled := false }) rfl).alike (Alike.abandonReport x)
  have dropped := (Kept.foldl (f := fun s n => Machine.dropSlot { port := x, num := n } s)
    (fun t n ht => ht.dropSlot _) allSixteen _ abandoned).modPort x (PortRecord.dropSlotItems_slots _)
  unfold Machine.fallPen
  simp only
  split
  · exact dropped.transferAll x _
  · exact dropped

theorem Kept.risePen (h : Kept q s) (x : Port) : Kept q (risePen x s) := by
  have risen := h.modPort x (f := fun r => { r with enabled := true }) rfl
  unfold Machine.risePen
  simp only
  split
  · exact risen
  · split
    · exact (risen.alike (Alike.abandonReport _)).transferAll _ x
    · exact risen.transferAll _ x

end Ports

section Step

variable {q : Claims} {s t : State}

/-! ## Commands -/

/-- The claims hold in the state that an outcome leads to. -/
def KeptNext (q : Claims) (o : Host.Outcome State Fault Refusal) : Prop := ∀ t, o = .next t → Kept q t

theorem KeptNext.of_kept (h : Kept q t) : KeptNext q (.next t) := fun _ e => Host.Outcome.next.inj e ▸ h

theorem Kept.unlessReset {act : State → State} (h : Kept q s) (acts : Kept q (act s)) :
    KeptNext q (unlessReset act s) := by
  refine KeptNext.of_kept ?_
  split
  · exact h
  · exact acts

/-- A step on a circuit keeps the claims where its act does at the instants at which it is due. -/
theorem Kept.onCircuit {due : Fin 96 → State → Bool} {act : Fin 96 → State → State} (h : Kept q s)
    (acts : ∀ c, due c s = true → Kept q (act c s)) (n : Nat) : KeptNext q (onCircuit n due act s) := by
  unfold Machine.onCircuit
  split
  · next c _ =>
    refine h.unlessReset ?_
    split
    · next hd => exact acts c hd
    · exact h
  · exact fun _ e => nomatch e

theorem Kept.onUnit {due : Fin 16 → State → Bool} {act : Fin 16 → State → State} (h : Kept q s)
    (acts : ∀ u, due u s = true → Kept q (act u s)) (n : Nat) : KeptNext q (onUnit n due act s) := by
  unfold Machine.onUnit
  split
  · next u _ =>
    refine h.unlessReset ?_
    split
    · next hd => exact acts u hd
    · exact h
  · exact fun _ e => nomatch e

theorem Kept.orderRow (h : Kept q s) (kind : OrderKind) (w : OrderWrite) : KeptNext q (exec (rowOf kind w) s) := by
  rw [exec_rowOf]
  exact h.unlessReset (h.orderWrite kind w)

theorem senderDue_state {sub : SenderSub} {u : Fin 16} (h : senderDue sub u s = true) :
    (s.unit u).state = .sender sub := by
  simp only [senderDue, decide_eq_true_eq] at h; exact h.1

theorem Kept.execSlotExpiry (h : Kept q s) (p : Port) (n : Nat) : KeptNext q (execSlotExpiry p n s) := by
  unfold Machine.execSlotExpiry
  split
  · refine h.unlessReset ?_
    split
    · exact h.expireSlot _
    · exact h
  · exact fun _ e => nomatch e

theorem Kept.execDeviceReset (h : Kept q s) (edge : ResetEdge) (penA penB : Bool) :
    KeptNext q (execDeviceReset edge penA penB s) := by
  unfold Machine.execDeviceReset
  split
  · exact .of_kept (Kept.assertReset s)
  · refine .of_kept ?_
    split
    · exact Kept.resetWith _ _ _ s
    · exact h

theorem Kept.execPenFall (h : Kept q s) (p : Port) : KeptNext q (execPenFall p s) := by
  unfold Machine.execPenFall
  refine h.unlessReset ?_
  split
  · exact h.fallPen p
  · exact h

theorem Kept.execPenRise (h : Kept q s) (p : Port) : KeptNext q (execPenRise p s) := by
  unfold Machine.execPenRise
  refine h.unlessReset ?_
  split
  · exact h
  · exact h.risePen p

/-- An interval of an outgoing call ends in an automatic clear. -/
theorem Kept.clearIn {cause : Cause} {e : Event} {c : Fin 96} (h : Kept q s)
    (state : (s.circuit c).state.clearsForward = true) : Kept q (Machine.autoClear c cause e s) :=
  h.autoClear fun _ => CircuitState.outgoing_of_clearsForward state

theorem Kept.expireAckWait {c : Fin 96} (h : Kept q s) (due : ackWaitDue c s = true) :
    Kept q (expireAckWait c s) := by
  simp only [ackWaitDue, decide_eq_true_eq] at due
  exact h.clearIn (by simp [due.1, CircuitState.clearsForward])

theorem Kept.expireSenderWait {c : Fin 96} (h : Kept q s) (due : senderWaitDue c s = true) :
    Kept q (expireSenderWait c s) := by
  simp only [senderWaitDue, decide_eq_true_eq] at due
  refine (h.withdraw c).clearIn ?_
  rw [(withdraw_spec s c).1, if_pos rfl]
  rcases due.1 with hs | hs <;> simp [hs, CircuitState.clearsForward]

/-- Every command keeps the claims. -/
theorem Kept.exec (h : Kept q s) (slots : q.rest → ∀ c, SlotInGroup c s) (i : Instr) : KeptNext q (exec i s) := by
  cases i with
  | deviceReset edge penA penB => exact h.execDeviceReset edge penA penB
  | rawLeadChange lead cond => exact h.onCircuit (fun c _ => h.changeRaw fun hr => slots hr c) lead
  | recognizedTransition n => exact h.onCircuit (fun c _ => h.acceptCandidate fun hr => slots hr c) n
  | seizureRecognized n =>
    refine h.onCircuit (fun c due => h.recognizeSeizure ?_) n
    simp only [seizureDue, decide_eq_true_eq] at due; exact due.1
  | ackMaxReached n => exact h.onCircuit (fun c due => h.reachAckMax due fun hr => slots hr c) n
  | ackWaitExpiry n => exact h.onCircuit (fun c due => h.expireAckWait due) n
  | prePauseExpiry n =>
    refine h.onCircuit (fun c due => h.proceed ?_) n
    simp only [prePauseDue, decide_eq_true_eq] at due; exact due.1
  | seizeHoldEnd n => exact h.onCircuit (fun c _ => (h.drive .off).startTimer _) n
  | guardWaitExpiry n =>
    refine h.onCircuit (fun c due => h.expireGuardWait ?_) n
    simp only [guardWaitDue, decide_eq_true_eq] at due; exact due.1
  | stallExpiry n =>
    refine h.onCircuit (fun c due => h.clearIn ?_) n
    simp only [stallDue, decide_eq_true_eq] at due; simp [due.1, CircuitState.clearsForward]
  | cbLimitExpiry n =>
    refine h.onCircuit (fun c due => h.clearIn ?_) n
    simp only [cbLimitDue, decide_eq_true_eq] at due; simp [due.1, CircuitState.clearsForward]
  | senderWaitExpiry n => exact h.onCircuit (fun c due => h.expireSenderWait due) n
  | registerCongestion n => exact h.onCircuit (fun c _ => h.congestRegister c) n
  | answerRecognized n => exact h.onCircuit (fun c due => h.recognizeAnswer_of_due due) n
  | clearBackRecognized n => exact h.onCircuit (fun c due => h.recognizeClearBack due) n
  | reanswerRecognized n => exact h.onCircuit (fun c due => h.recognizeReanswer due) n
  | clearForwardRecognized n =>
    refine h.onCircuit (fun c due => h.recognizeClearForward ?_) n
    simp only [clearForwardDue, decide_eq_true_eq] at due; exact due.1
  | ackPulseEnd n => exact h.onCircuit (fun c _ => h.alike (Alike.endAckPulse c)) n
  | ackPulseStart n => exact h.onCircuit (fun c _ => h.alike (Alike.startAckPulse c)) n
  | answerDue n => exact h.onCircuit (fun c _ => h.alike (Alike.showAnswer c)) n
  | digitTimeout n =>
    refine h.onCircuit (fun c due => h.timeOutDigits ?_) n
    simp only [digitTimeoutDue, decide_eq_true_eq] at due; exact due.1
  | guardSepEnd n => exact h.onCircuit (fun c _ => h.alike (Alike.beginGuardOn c)) n
  | guardEnd n =>
    refine h.onCircuit (fun c due => h.endGuard ?_) n
    simp only [guardEndDue, decide_eq_true_eq] at due; exact due.1
  | farSeizeBlocked n => exact h.onCircuit (fun c _ => h.reportFarSeize c) n
  | slotExpiry p n => exact h.execSlotExpiry p n
  | parkLimitExpiry n => exact h.onUnit (fun u _ => h.detach u) n
  | senderStart n => exact h.onUnit (fun u due => h.startDigit (senderDue_state due)) n
  | senderBreakEnd n => exact h.onUnit (fun u due => h.endBreak (senderDue_state due)) n
  | senderMakeEnd n => exact h.onUnit (fun u due => h.endMake (senderDue_state due)) n
  | senderPauseEnd n => exact h.onUnit (fun u due => h.startDigit (senderDue_state due)) n
  | longBreak n => exact h.onUnit (fun u _ => h.markLong u) n
  | digitComplete n =>
    refine h.onUnit (fun u due => h.completeDigit ?_) n
    simp only [digitCompleteDue, decide_eq_true_eq] at due; exact due.1
  | seize w => exact h.orderRow .seize w
  | addDigits w => exact h.orderRow .addDigits w
  | clear w => exact h.orderRow .clear w
  | cancel w => exact h.orderRow .cancel w
  | releaseRegister w => exact h.orderRow .releaseRegister w
  | answer w => exact h.orderRow .answer w
  | clearBack w => exact h.orderRow .clearBack w
  | readCircuit w => exact h.orderRow .readCircuit w
  | readGroup w => exact h.orderRow .readGroup w
  | readUnit w => exact h.orderRow .readUnit w
  | configureGroup w => exact h.orderRow .configureGroup w
  | assignCircuit w => exact h.orderRow .assignCircuit w
  | block w => exact h.orderRow .block w
  | unblock w => exact h.orderRow .unblock w
  | resetCircuit w => exact h.orderRow .resetCircuit w
  | unitServiceOff w => exact h.orderRow .unitServiceOff w
  | unitServiceOn w => exact h.orderRow .unitServiceOn w
  | referenceControlApply w => exact h.orderRow .referenceControlApply w
  | referenceControlSet w => exact h.orderRow .referenceControlSet w
  | watchSet w => exact h.orderRow .watchSet w
  | forceSet w => exact h.orderRow .forceSet w
  | restartCalls w => exact h.orderRow .restartCalls w
  | orderWord w => exact h.unlessReset (h.plainWrite w)
  | reportChannelWrite a data => exact h.unlessReset (h.assertSelect fun t ht => ht.answerReportWrite a.port)
  | resultRead a => exact h.unlessReset (h.assertSelect fun t ht => ht.answerResultRead a.port)
  | reportRead a => exact h.unlessReset (h.assertSelect fun t ht => ht.answerReportRead a.port)
  | selectDeassert p d => exact h.unlessReset (h.deassertSelect p d)
  | penFall p => exact h.execPenFall p
  | penRise p => exact h.execPenRise p

/-! ## Steps -/

/-- The choice among the commands that are due counts the choices made, and nothing else. -/
theorem pickDue_alike {l : List Instr} {i : Instr} (h : pickDue s l = some (i, t)) : Alike s t := by
  unfold pickDue at h
  split at h
  · cases h
  · obtain ⟨-, rfl⟩ := Prod.mk.inj (Option.some.inj h)
    exact Alike.refl s
  · obtain ⟨-, rfl⟩ := Prod.mk.inj (Option.some.inj h)
    exact Alike.of_records rfl rfl rfl rfl rfl rfl (PortsKept.slot ⟨rfl, rfl⟩)

theorem SlotInGroup.alike {c : Fin 96} (h : SlotInGroup c s) (a : Alike s t) : SlotInGroup c t := fun id call d => by
  rw [(a.circuit c).called.slot, (a.circuit c).called.group, a.slot]
  exact h id call d

theorem Kept.passTime (h : Kept q s) (slots : q.rest → ∀ c, SlotInGroup c s) : KeptNext q (passTime s) := by
  unfold Machine.passTime
  split
  · next i t hp =>
    have chosen := pickDue_alike hp
    exact (h.alike chosen).exec (fun hr c => (slots hr c).alike chosen) i
  · exact h.unlessReset (h.alike (Alike.of_records rfl rfl rfl rfl rfl rfl (PortsKept.slot ⟨rfl, rfl⟩)))

/-- Every step keeps the claims asked for: of the fit of states and groups, with the agreement of slots and circuits. -/
theorem Kept.step (h : Kept q s) (slots : q.rest → SlotsSound s) : KeptNext q (step s) := by
  have inGroup : q.rest → ∀ c, SlotInGroup c s := fun hr c => (slots hr).slotInGroup c
  unfold Machine.step
  split
  · next i rest _ =>
    have waiting : Alike s { s with pending := rest } :=
      Alike.of_records rfl rfl rfl rfl rfl rfl (PortsKept.slot ⟨rfl, rfl⟩)
    exact (h.alike waiting).exec (fun hr c => (inGroup hr c).alike waiting) i
  · exact h.passTime inGroup

/-! ## The three claims (R17, R18, R30, R46, R103, R117, R118, R177) -/

/-- The fit of states and groups alone is asked for. -/
def Claims.ofRest : Claims := { rest := True, digits := False, fields := False, counted := fun _ => True }

/-- The values of the records alone. -/
def Claims.ofFields : Claims := { rest := False, digits := False, fields := True, counted := fun _ => True }

/-- The counts of digits and of pulses alone. -/
def Claims.ofDigits : Claims := { rest := False, digits := True, fields := False, counted := fun _ => True }

theorem RestSound.step (pool : PoolSound s) (slots : SlotsSound s) (rest : RestSound s) (e : step s = .next t) :
    RestSound t := by
  have h : Kept .ofRest s := ⟨fun _ => pool.staffed, fun _ => rest.fitting slots, False.elim, False.elim⟩
  have k := h.step (fun _ => slots) t e
  exact (k.fitting trivial).restSound (k.staffedRest trivial)

theorem FieldsSound.step (fields : FieldsSound s) (e : step s = .next t) : FieldsSound t := by
  have h : Kept .ofFields s := ⟨fun hp => hp.elim False.elim False.elim, False.elim, False.elim, fun _ => fields⟩
  exact (h.step False.elim t e).fields trivial

theorem DigitsSound.step (pool : PoolSound s) (digits : DigitsSound s) (e : step s = .next t) : DigitsSound t := by
  have h : Kept .ofDigits s := ⟨fun _ => pool.staffed, False.elim, fun _ => digits.counts _, False.elim⟩
  exact ((h.step False.elim t e).counts trivial).digitsSound

end Step

/-- Settles O59: one walk over the commands, which keeps each claim with what it rests on. -/
theorem statesStayFitting : Obligations.StatesStayFitting :=
  ⟨fun _ _ pool slots rest e => rest.step pool slots e, fun _ _ fields e => fields.step e,
    fun _ _ pool digits e => digits.step pool e⟩

end Sys2Proof.Machine

/-! ## This end's priority on glare (R89) -/

namespace Sys2Proof.Machine

@[simp] theorem hasPriority_priorityAll (n : Nat) : hasPriority .priorityAll n = true := rfl

@[simp] theorem hasPriority_priorityNone (n : Nat) : hasPriority .priorityNone n = false := rfl

@[simp] theorem hasPriority_priorityEven (n : Nat) : hasPriority .priorityEven n = decide (n % 2 = 0) := rfl

/-- The two parity rules are complementary: the ends of one circuit decide opposite ways. -/
@[simp] theorem hasPriority_priorityOdd (n : Nat) :
    hasPriority .priorityOdd n = !hasPriority .priorityEven n := by
  show decide (n % 2 = 1) = !decide (n % 2 = 0)
  rcases Nat.mod_two_eq_zero_or_one n with even | odd
  · simp [even]
  · simp [odd]

/-- Settles O17: the constant rules ignore the number, and of the parity rules exactly one has priority at each parity. -/
theorem glarePriorityFollowsRuleAndParity : Obligations.GlarePriorityFollowsRuleAndParity := by
  intro n
  refine ⟨hasPriority_priorityAll n, hasPriority_priorityNone n, fun even => ?_, fun odd => ?_⟩
  · simp [even]
  · simp [odd]

end Sys2Proof.Machine

/-! PROOFS. The Pulse Timing Reference (R124 to R128, R132, R133): what an apply, a period by its lock and band, and a
REFERENCE CONTROL SET do to a group's reference, and which events they report. -/

namespace Sys2Proof.Machine

section GroupEvents

variable {s : State} {p : Port} {it : Item} {e : Event}

/-! ## Events that are reported (R153, R154) -/

theorem Event.mask_ne_zero (e : Event) : e.mask ≠ 0 := by cases e <;> decide

/-- A set with an event added holds what it held and whatever shares a bit with that event. -/
theorem EventSet.has_add (k : EventSet) (e e' : Event) :
    (k.add e').has e = true ↔ k.has e = true ∨ e'.mask &&& e.mask ≠ 0 := by
  simp only [EventSet.has, EventSet.add, decide_eq_true_eq, BitVec.and_or_distrib_right, ne_eq]
  rw [← not_and_or]
  exact not_congr BitVec.or_eq_zero_iff

theorem EventSet.has_add_self (k : EventSet) (e : Event) : (k.add e).has e = true :=
  (k.has_add e e).mpr (.inr (by rw [BitVec.and_self]; exact e.mask_ne_zero))

theorem PortRecord.mem_withEvent (r : PortRecord) (it x : Item) (e : Event) :
    x ∈ (r.withEvent it e).attention ↔ x ∈ r.attention ∨ x = it := by
  rw [← PortRecord.join_setPend_add]
  exact PortRecord.mem_join _ it x

/-- An event raised on a group is reported on both ports. -/
theorem Reported.raiseGroup_self (s : State) (p : Port) (g : Fin 8) (e : Event) :
    Reported p (.group g) e (s.raiseGroup g e) := by
  rw [Reported, State.raiseGroup_port]
  refine ⟨?_, (PortRecord.mem_withEvent ..).mpr (.inr rfl)⟩
  simp [PortRecord.withEvent, EventSet.has_add_self]

/-- An event reported stays so when another is raised on a group. -/
theorem Reported.raiseGroup (h : Reported p it e s) (g : Fin 8) (e' : Event) :
    Reported p it e (s.raiseGroup g e') := by
  obtain ⟨held, listed⟩ := h
  rw [Reported, State.raiseGroup_port]
  refine ⟨?_, (PortRecord.mem_withEvent ..).mpr (.inl listed)⟩
  by_cases same : (Item.group g).index = it.index
  · simpa [PortRecord.withEvent, same, EventSet.has_add] using .inl held
  · simpa [PortRecord.withEvent, Fin.val_ne_of_ne same] using held

theorem Reported.modGroup (h : Reported p it e s) (g : Fin 8) (f : Group → Group) :
    Reported p it e (s.modGroup g f) := by
  simpa only [Reported, State.modGroup_port] using h

end GroupEvents

section ReferenceApply

variable {s : State} {g : Fin 8}

/-! ## The apply (R128) -/

theorem State.setThresholds_group (s : State) (g : Fin 8) (r : Reference) :
    (s.setThresholds g r).group g = { s.group g with reference := r } := by
  simp only [State.setThresholds]
  split <;> simp

/-- Thresholds that change are reported on both ports. -/
theorem State.setThresholds_applied {r : Reference}
    (h : (r.tBm, r.tId) ≠ ((s.group g).reference.tBm, (s.group g).reference.tId)) (p : Port) :
    Reported p (.group g) .applied (s.setThresholds g r) := by
  have changed : ¬ ((s.group g).reference.tBm = r.tBm ∧ (s.group g).reference.tId = r.tId) :=
    fun ⟨bm, id⟩ => h (by rw [bm, id])
  simp only [State.setThresholds, if_neg changed]
  exact Reported.raiseGroup_self _ p g .applied

theorem Reported.setThresholds {p : Port} {it : Item} {e : Event} (h : Reported p it e s) (g : Fin 8)
    (r : Reference) : Reported p it e (s.setThresholds g r) := by
  simp only [State.setThresholds]
  split
  · exact h.modGroup g _
  · exact (h.modGroup g _).raiseGroup g .applied

@[simp] theorem applyReference_group (g : Fin 8) (s : State) :
    (applyReference g s).group g = { s.group g with reference := (s.group g).applied } :=
  State.setThresholds_group s g _

theorem Group.applied_of_override_off {k : Group} (h : k.par .override = 0) :
    k.applied = { k.reference with
      sinceApply := 0, tBm := computedBm k.reference.ref (k.par .kBm)
      tId := computedId k.reference.ref (k.par .kId) } := by
  simp only [Group.applied, if_pos h]

theorem Group.applied_of_override_on {k : Group} (h : k.par .override ≠ 0) :
    k.applied = { k.reference with sinceApply := 0 } := by
  simp only [Group.applied, if_neg h]

/-! An apply leaves ref and the lock run alone, and since_apply returns to 0. -/

@[simp] theorem Group.applied_ref (k : Group) : k.applied.ref = k.reference.ref := by
  unfold Group.applied; split <;> rfl

@[simp] theorem Group.applied_locked (k : Group) : k.applied.locked = k.reference.locked := by
  unfold Group.applied; split <;> rfl

@[simp] theorem Group.applied_inRun (k : Group) : k.applied.inRun = k.reference.inRun := by
  unfold Group.applied; split <;> rfl

@[simp] theorem Group.applied_outRun (k : Group) : k.applied.outRun = k.reference.outRun := by
  unfold Group.applied; split <;> rfl

@[simp] theorem Group.applied_sinceApply (k : Group) : k.applied.sinceApply = 0 := by
  unfold Group.applied; split <;> rfl

end ReferenceApply

section Period

variable {s : State} {g : Fin 8} {p : Nat} {r : Reference}

/-! ## A period, by the lock and the band (R124, R126, R127) -/

theorem Reference.inBand_iff (r : Reference) (p : Nat) :
    r.inBand p = true ↔ ((16 * p : Int) - r.ref).natAbs ≤ r.ref / 8 := by simp [Reference.inBand]

/-- The step of ref never passes below 0, so nothing is lost as it is stored. -/
theorem Reference.follow_eq (r : Reference) (p : Nat) :
    (r.follow p : Int) = r.ref + ((16 * p : Int) - r.ref).tdiv 8 := by
  have sign : Int.sign 8 = 1 := rfl
  rw [Reference.follow, Int.tdiv_eq_ediv, sign]
  split <;> omega

/-- A reference with ref moved by a period, its lock and runs as before. -/
@[simp] def Reference.moved (r : Reference) (p : Nat) : Reference := { r with ref := r.follow p }

/-- A group's reference written, and nothing else. -/
def State.withReference (s : State) (g : Fin 8) (r : Reference) : State :=
  s.modGroup g fun k => { k with reference := r }

@[simp] theorem State.withReference_group (s : State) (g : Fin 8) (r : Reference) :
    (s.withReference g r).group g = { s.group g with reference := r } := State.modGroup_group_self s g _

/-- A reference alone written: the group shows it, and no event is raised. -/
theorem State.withReference_quiet {t : State} (h : t = s.withReference g r) :
    (t.group g).reference = r ∧ PortsKept s t := by
  subst h
  exact ⟨by simp, rfl, rfl⟩

/-- The fourth period in a row in band, before any apply: LOCKED, and locked raised (R126). -/
def lockReference (g : Fin 8) (p : Nat) (s : State) : State :=
  (s.withReference g
    { (s.group g).reference.moved p with locked := true, inRun := 4, outRun := 0 }).raiseGroup g .locked

@[simp] theorem lockReference_group (g : Fin 8) (p : Nat) (s : State) :
    (lockReference g p s).group g =
      { s.group g with reference :=
          { (s.group g).reference.moved p with locked := true, inRun := 4, outRun := 0 } } := by
  simp [lockReference]

section Cases

variable (hr : (s.group g).reference = r)
include hr

theorem takePeriod_locked_inBand (hl : r.locked = true) (hb : r.inBand p = true) :
    takePeriod g p s = s.withReference g { r.moved p with outRun := 0 } := by
  subst hr
  simp only [takePeriod, if_pos hl, if_pos hb]
  rfl

theorem takePeriod_locked_outRun (hl : r.locked = true) (hb : ¬ r.inBand p = true) (run : r.outRun + 1 < 3) :
    takePeriod g p s = s.withReference g { r.moved p with outRun := r.outRun + 1 } := by
  subst hr
  simp only [takePeriod, if_pos hl, if_neg hb, ge_iff_le, if_neg (Nat.not_le.mpr run)]
  rfl

theorem takePeriod_locked_unlocks (hl : r.locked = true) (hb : ¬ r.inBand p = true) (run : 3 ≤ r.outRun + 1) :
    takePeriod g p s =
      (s.withReference g { r.moved p with locked := false, inRun := 0, outRun := 0 }).raiseGroup g .unlocked := by
  subst hr
  simp only [takePeriod, if_pos hl, if_neg hb, ge_iff_le, if_pos run]
  rfl

theorem takePeriod_unlocked_outOfBand (hl : ¬ r.locked = true) (hb : ¬ r.inBand p = true) :
    takePeriod g p s = s.withReference g { r.moved p with inRun := 0 } := by
  subst hr
  simp only [takePeriod, if_neg hl, if_neg hb]
  rfl

theorem takePeriod_unlocked_inRun (hl : ¬ r.locked = true) (hb : r.inBand p = true) (run : r.inRun + 1 < 4) :
    takePeriod g p s = s.withReference g { r.moved p with inRun := r.inRun + 1 } := by
  subst hr
  simp only [takePeriod, if_neg hl, if_pos hb, ge_iff_le, if_neg (Nat.not_le.mpr run)]
  rfl

/-- The gate that is read is that of the group as the period finds it: a period writes no parameter. -/
theorem takePeriod_unlocked_locks (hl : ¬ r.locked = true) (hb : r.inBand p = true) (run : 4 ≤ r.inRun + 1) :
    takePeriod g p s =
      if (s.group g).par .gate = 0 then applyReference g (lockReference g p s) else lockReference g p s := by
  have gate : ((lockReference g p s).group g).par .gate = (s.group g).par .gate := by rw [lockReference_group]; rfl
  subst hr
  rw [← gate]
  simp only [takePeriod, if_neg hl, if_pos hb, ge_iff_le, if_pos run]
  rfl

end Cases

/-! ## What a period does to ref, to the runs and to the thresholds -/

theorem takePeriod_ref (g : Fin 8) (p : Nat) (s : State) :
    ((takePeriod g p s).group g).reference.ref = (s.group g).reference.follow p := by
  by_cases hl : (s.group g).reference.locked = true <;> by_cases hb : (s.group g).reference.inBand p = true
  · simp [takePeriod_locked_inBand rfl hl hb]
  · rcases Nat.lt_or_ge ((s.group g).reference.outRun + 1) 3 with run | run
    · simp [takePeriod_locked_outRun rfl hl hb run]
    · simp [takePeriod_locked_unlocks rfl hl hb run]
  · rcases Nat.lt_or_ge ((s.group g).reference.inRun + 1) 4 with run | run
    · simp [takePeriod_unlocked_inRun rfl hl hb run]
    · rw [takePeriod_unlocked_locks rfl hl hb run]
      split <;> simp
  · simp [takePeriod_unlocked_outOfBand rfl hl hb]

/-- A LOCKED reference is never applied by a period (R127). -/
theorem takePeriod_locked_kept (hl : (s.group g).reference.locked = true) :
    let r' := ((takePeriod g p s).group g).reference
    r'.tBm = (s.group g).reference.tBm ∧ r'.tId = (s.group g).reference.tId ∧
      r'.sinceApply = (s.group g).reference.sinceApply := by
  by_cases hb : (s.group g).reference.inBand p = true
  · simp [takePeriod_locked_inBand rfl hl hb]
  · rcases Nat.lt_or_ge ((s.group g).reference.outRun + 1) 3 with run | run
    · simp [takePeriod_locked_outRun rfl hl hb run]
    · simp [takePeriod_locked_unlocks rfl hl hb run]

/-- Of an UNLOCKED reference, out_run returns to 0 as it locks and stays otherwise (R126). -/
theorem takePeriod_unlocked_outRun (hl : ¬ (s.group g).reference.locked = true) :
    ((takePeriod g p s).group g).reference.outRun =
      if (s.group g).reference.inBand p = true ∧ 4 ≤ (s.group g).reference.inRun + 1 then 0
      else (s.group g).reference.outRun := by
  by_cases hb : (s.group g).reference.inBand p = true
  · rcases Nat.lt_or_ge ((s.group g).reference.inRun + 1) 4 with run | run
    · simp [takePeriod_unlocked_inRun rfl hl hb run, Nat.not_le.mpr run]
    · rw [if_pos ⟨hb, run⟩, takePeriod_unlocked_locks rfl hl hb run]
      split <;> simp
  · simp [takePeriod_unlocked_outOfBand rfl hl hb, hb]

/-! ## The fourth period in a row in band (R126, R128) -/

theorem lockReference_reported (g : Fin 8) (p : Nat) (s : State) (q : Port) :
    Reported q (.group g) .locked (lockReference g p s) := Reported.raiseGroup_self _ q g .locked

/-- The apply made as the lock is reached computes the thresholds from ref as the period has just moved it (R126). -/
theorem applied_lockReference (g : Fin 8) (p : Nat) (s : State) :
    let a := ((lockReference g p s).group g).applied
    let r := (s.group g).reference
    a.sinceApply = 0 ∧
      ((s.group g).par .override = 0 → a.tBm = computedBm (r.follow p) ((s.group g).par .kBm) ∧
        a.tId = computedId (r.follow p) ((s.group g).par .kId)) ∧
      ((s.group g).par .override ≠ 0 → a.tBm = r.tBm ∧ a.tId = r.tId) := by
  have par : ((lockReference g p s).group g).par = (s.group g).par := by rw [lockReference_group]; rfl
  refine ⟨Group.applied_sinceApply _, fun off => ?_, fun on => ?_⟩
  · rw [Group.applied_of_override_off (by rwa [par]), par, lockReference_group]
    exact ⟨rfl, rfl⟩
  · rw [Group.applied_of_override_on (by rwa [par]), lockReference_group]
    exact ⟨rfl, rfl⟩

section Locks

variable (hl : ¬ (s.group g).reference.locked = true) (hb : (s.group g).reference.inBand p = true)
  (run : 4 ≤ (s.group g).reference.inRun + 1)
include hl hb run

/-- With or without the apply, the reference is LOCKED with a run of four and locked is raised. -/
theorem takePeriod_locks :
    ((takePeriod g p s).group g).reference.locked = true ∧ ((takePeriod g p s).group g).reference.inRun = 4 ∧
      ∀ q, Reported q (.group g) .locked (takePeriod g p s) := by
  rw [takePeriod_unlocked_locks rfl hl hb run]
  split
  · exact ⟨by simp, by simp, fun q => (lockReference_reported g p s q).setThresholds g _⟩
  · exact ⟨by simp, by simp, lockReference_reported g p s⟩

theorem takePeriod_locks_gated (gate : (s.group g).par .gate ≠ 0) :
    ((takePeriod g p s).group g).reference =
      { (s.group g).reference.moved p with locked := true, inRun := 4, outRun := 0 } := by
  rw [takePeriod_unlocked_locks rfl hl hb run, if_neg gate, lockReference_group]

/-- With gate off the lock makes an apply, which is reported where it changes a threshold. -/
theorem takePeriod_locks_applies (gate : (s.group g).par .gate = 0) :
    let r' := ((takePeriod g p s).group g).reference
    r' = ((lockReference g p s).group g).applied ∧
      ((r'.tBm, r'.tId) ≠ ((s.group g).reference.tBm, (s.group g).reference.tId) →
        ∀ q, Reported q (.group g) .applied (takePeriod g p s)) := by
  rw [takePeriod_unlocked_locks rfl hl hb run, if_pos gate, applyReference_group]
  refine ⟨rfl, fun changed => State.setThresholds_applied ?_⟩
  have kept : ((lockReference g p s).group g).reference.tBm = (s.group g).reference.tBm ∧
      ((lockReference g p s).group g).reference.tId = (s.group g).reference.tId := by
    rw [lockReference_group]
    exact ⟨rfl, rfl⟩
  rwa [kept.1, kept.2]

end Locks

end Period

/-- Settles O30: by the lock, the band and the run, the equation of that case gives the reference and the events. -/
theorem periodsMoveRefAndLock : Obligations.PeriodsMoveRefAndLock := by
  unfold Obligations.PeriodsMoveRefAndLock
  intro g p s k r t r' inBand kept
  have own : (s.group g).reference = r := rfl
  have band : r.inBand p = true ↔ inBand := r.inBand_iff p
  have ref : r'.ref = r.follow p := takePeriod_ref g p s
  obtain ⟨groups, -, circuits, pool, lines, ports⟩ := takePeriod_frame s g p
  refine ⟨by rw [ref, r.follow_eq], fun hl => ?_, fun hl => ?_, groups, circuits, pool, ports, lines⟩
  case refine_1 =>
    replace hl : ¬ r.locked = true := ne_true_of_eq_false hl
    refine ⟨?_, fun out => ?_, fun inb run => ?_, fun inb run => ?_⟩
    · rw [show r'.outRun = _ from takePeriod_unlocked_outRun hl]
      exact if_congr (and_congr_left' band) rfl rfl
    · obtain ⟨(after : r' = _), (quiet : PortsKept s t)⟩ :=
        State.withReference_quiet (takePeriod_unlocked_outOfBand own hl (mt band.mp out))
      simp [kept, after, hl, quiet]
    · obtain ⟨(after : r' = _), (quiet : PortsKept s t)⟩ :=
        State.withReference_quiet (takePeriod_unlocked_inRun own hl (band.mpr inb) run)
      simp [kept, after, hl, quiet]
    · obtain ⟨locked, inRun, reported⟩ := takePeriod_locks hl (band.mpr inb) run
      refine ⟨locked, inRun, reported .A, reported .B, fun gate => ?_, fun gate => ?_⟩
      · have after : r' = _ := takePeriod_locks_gated hl (band.mpr inb) run gate
        simp only [kept, after]
        exact ⟨rfl, rfl, rfl⟩
      · obtain ⟨after, applied⟩ := takePeriod_locks_applies hl (band.mpr inb) run gate
        obtain ⟨since, computed, fixed⟩ := applied_lockReference g p s
        rw [← after] at since computed fixed
        exact ⟨since, fun off => by rw [ref]; exact computed off, fixed,
          fun changed => ⟨applied changed .A, applied changed .B⟩⟩
  case refine_2 =>
    refine ⟨takePeriod_locked_kept hl, fun inb => ?_, fun out run => ?_, fun out run => ?_⟩
    · obtain ⟨(after : r' = _), (quiet : PortsKept s t)⟩ :=
        State.withReference_quiet (takePeriod_locked_inBand own hl (band.mpr inb))
      simp [after, hl, quiet]
    · obtain ⟨(after : r' = _), (quiet : PortsKept s t)⟩ :=
        State.withReference_quiet (takePeriod_locked_outRun own hl (mt band.mp out) run)
      simp [after, hl, quiet]
    · have eq : t = _ := takePeriod_locked_unlocks own hl (mt band.mp out) run
      have after : r' = { r.moved p with locked := false, inRun := 0, outRun := 0 } := by
        rw [show r' = (t.group g).reference from rfl, eq, State.raiseGroup_group, State.withReference_group]
      rw [after, eq]
      exact ⟨rfl, rfl, rfl, Reported.raiseGroup_self _ .A g _, Reported.raiseGroup_self _ .B g _⟩

/-! ## REFERENCE CONTROL SET (R132, R133) -/

section ReferenceSet

variable {ws : List Word}

theorem setReference_group (g : Fin 8) (v : Nat) (s : State) :
    (setReference g v s).group g =
      { s.group g with reference :=
          { (s.group g).reference with ref := max 800 (min 3200 v), locked := false, inRun := 0, outRun := 0 } } := by
  simp only [setReference]
  split <;> simp

/-- The ports take unlocked where the reference was LOCKED, and nothing otherwise. -/
theorem setReference_port (g : Fin 8) (v : Nat) (s : State) (q : Port) :
    (setReference g v s).port q =
      if (s.group g).reference.locked = true then (s.port q).withEvent (.group g) .unlocked else s.port q := by
  simp only [setReference]
  split
  · rw [State.raiseGroup_port, State.modGroup_port]
  · rw [State.modGroup_port]

/-- Clamping to 800 to 3200, case by case. -/
theorem clamp_ref_eq (v : Nat) : max 800 (min 3200 v) = if v < 800 then 800 else if 3200 < v then 3200 else v := by
  split
  · omega
  · split <;> omega

theorem orderReferenceSet_high (p : Port) (s : State) (h : 7 < field (wordAt ws 1) 3 0) :
    orderReferenceSet p ws s = refuse .badGroup s := by
  simp [orderReferenceSet, eightOf_none.mpr h]

theorem orderReferenceSet_of_group (p : Port) (s : State) {g : Fin 8} (h : field (wordAt ws 1) 3 0 = g.val) :
    orderReferenceSet p ws s =
      (setReference g (wordAt ws 2).toNat s,
        oneWord (if (wordAt ws 2).toNat < 800 ∨ 3200 < (wordAt ws 2).toNat then .okClamped else .ok)) := by
  simp [orderReferenceSet, eightOf_some.mpr h]

end ReferenceSet

/-- An order answers the block of its body and leaves the state of its body. -/
theorem answers_block_of_body {kind : OrderKind} {w : OrderWrite} {ws block : List Word} {s t : State}
    (h : OrderReady kind w ws s) (hb : orderBody kind w.port ws (orderStart w s) = (t, block)) :
    Answers (rowOf kind w) w block s t := by
  have taken := exec_orderReady h
  rw [hb] at taken
  exact taken

/-- Settles O45: the body of the order is `setReference` in the state the order starts from, whose groups are those
before. -/
theorem referenceSetStoresRef : Obligations.ReferenceSetStoresRef := by
  unfold Obligations.ReferenceSetStoresRef
  intro w ws s ready v
  refine ⟨fun high => refuses_of_body ready (orderReferenceSet_high w.port _ high), fun g hg => ?_⟩
  intro k
  obtain ⟨circuits, -, pool, lines, -⟩ := orderStart_frame s w
  obtain ⟨-, -, group, -, -⟩ := orderStart_records s w
  obtain ⟨groups', -, circuits', pool', lines', -⟩ := setReference_frame (orderStart w s) g v
  have own := setReference_group g v (orderStart w s)
  have port := setReference_port g v (orderStart w s)
  rw [group] at own port
  refine ⟨_, answers_block_of_body ready (orderReferenceSet_of_group w.port _ hg), by rw [own, clamp_ref_eq],
    fun x hx => (groups' x hx).trans (group x), circuits'.trans circuits, pool.trans pool', lines.trans lines',
    fun unlocked => ?_, fun locked q => ?_⟩
  · have kept : ∀ q, (setReference g v (orderStart w s)).port q = (orderStart w s).port q := fun q => by
      rw [port, if_neg (ne_true_of_eq_false unlocked)]
    exact ⟨kept .A, kept .B⟩
  · rw [port, if_pos locked]

end Sys2Proof.Machine

/-! PROOFS. BLOCK (R164): an order that names a circuit runs its action on that circuit, BLOCK's action by the circuit's
state, and what an IDLE circuit leaves behind when it enters BLOCKED (R24, R167). -/

namespace Sys2Proof.Machine

section Block

variable {s t : State} {c : Fin 96} {ws : List Word}

/-! ## Orders that name a circuit (R164, R166, R171) -/

theorem circuitOrder_high {act : Fin 96 → State → State × List Word} (h : 95 < field (wordAt ws 1) 6 0) :
    circuitOrder act ws s = refuse .badValue s := by
  simp [circuitOrder, circuitOf_none.mpr h]

theorem circuitOrder_of_circuit {act : Fin 96 → State → State × List Word} (h : field (wordAt ws 1) 6 0 = c.val) :
    circuitOrder act ws s = act c s := by
  simp [circuitOrder, circuitOf_some.mpr h]

/-! ## BLOCK by the circuit's state (R164) -/

theorem blockCircuit_of_unequipped (h : (s.circuit c).state = .unequipped) :
    blockCircuit c s = refuse .wrongState s := by
  simp [blockCircuit, h]

theorem blockCircuit_of_blocked (h : (s.circuit c).state = .blocked) : blockCircuit c s = accept s := by
  simp [blockCircuit, h]

theorem blockCircuit_of_idle (h : (s.circuit c).state = .idle) :
    blockCircuit c s = accept (enterBlocked c (leaveIdleList c s)) := by
  simp [blockCircuit, h]

theorem blockCircuit_of_busy (unequipped : (s.circuit c).state ≠ .unequipped)
    (blocked : (s.circuit c).state ≠ .blocked) (idle : (s.circuit c).state ≠ .idle) :
    blockCircuit c s = accept (s.modCircuit c fun r => { r with blockPending := true }) := by
  unfold blockCircuit
  split
  · next state => exact absurd state unequipped
  · next state => exact absurd state idle
  · next state => exact absurd state blocked
  all_goals rfl

/-! ## An IDLE circuit enters BLOCKED (R24, R167) -/

/-- A group parameter that a circuit runs by is told by the circuit's group and that group's parameters. -/
theorem State.par_congr (hc : (t.circuit c).group = (s.circuit c).group) (hg : ∀ g, (t.group g).par = (s.group g).par)
    (p : Param) : t.par c p = s.par c p := by
  simp only [State.par, hc, hg]

theorem State.par_of_group {g : Fin 8} (h : (s.circuit c).group = some g) (p : Param) :
    s.par c p = (s.group g).par p := by
  simp [State.par, h]

theorem orderStart_par (w : OrderWrite) (s : State) (c : Fin 96) (p : Param) : (orderStart w s).par c p = s.par c p := by
  obtain ⟨-, circuit, group, -, -⟩ := orderStart_records s w
  exact State.par_congr (by rw [circuit]) (fun g => by rw [group]) p

theorem leaveIdleList_par (p : Param) : (leaveIdleList c s).par c p = s.par c p :=
  State.par_congr (by rw [leaveIdleList_circuit]) (fun g => by rw [leaveIdleList_group]; split <;> rfl) p

/-- Leaving the idle list changes nothing but the groups. -/
theorem leaveIdleList_frame (c : Fin 96) (s : State) :
    PoolKept s (leaveIdleList c s) ∧ LinesKept s (leaveIdleList c s) ∧ PortsKept s (leaveIdleList c s) := by
  unfold leaveIdleList
  split
  · exact ⟨⟨rfl, rfl, rfl, rfl⟩, ⟨rfl, rfl, rfl, rfl, rfl, rfl, rfl⟩, ⟨rfl, rfl⟩⟩
  · exact ⟨.refl s, .refl s, .refl s⟩

theorem enterBlocked_pool (c : Fin 96) (s : State) : PoolKept s (enterBlocked c s) := ⟨rfl, rfl, rfl, rfl⟩

/-- The circuit that leaves the idle list for BLOCKED times a receive lead recognized ON. -/
theorem enterBlocked_leaveIdleList_circuit {g : Fin 8} (h : (s.circuit c).group = some g) :
    (enterBlocked c (leaveIdleList c s)).circuit c =
      { s.circuit c with
        state := .blocked, sup := .off
        lastOff := if (s.circuit c).sup = .on then some { start := s.timeBase, value := s.par c .sep }
          else (s.circuit c).lastOff
        timer := if (s.filter c).recCond = .on then
          some { start := s.timeBase, value := (s.group g).par .szRec } else none } := by
  obtain ⟨-, ⟨-, time, filters, -⟩, -⟩ := leaveIdleList_frame c s
  have lead : (leaveIdleList c s).leadOn c = s.leadOn c := by
    rw [State.leadOn, State.leadOn, State.filter, State.filter, filters]
  rw [enterBlocked_circuit, if_pos rfl, leaveIdleList_circuit, lead, time, leaveIdleList_par, leaveIdleList_par,
    State.par_of_group h .szRec]
  simp [State.leadOn]

/-- Of the rest, only the idle list of the circuit's group changes. -/
theorem enterBlocked_leaveIdleList_frame {g : Fin 8} (h : (s.circuit c).group = some g) :
    (enterBlocked c (leaveIdleList c s)).group g =
        { s.group g with idle := (s.group g).idle.filter fun d => d ≠ c } ∧
      GroupsKept [g] s (enterBlocked c (leaveIdleList c s)) ∧
      CircuitsKept [c] s (enterBlocked c (leaveIdleList c s)) ∧
      PoolKept s (enterBlocked c (leaveIdleList c s)) ∧ LinesKept s (enterBlocked c (leaveIdleList c s)) ∧
      PortsKept s (enterBlocked c (leaveIdleList c s)) := by
  obtain ⟨pool, lines, ports⟩ := leaveIdleList_frame c s
  obtain ⟨circuits', -, groups', ports', lines'⟩ := enterBlocked_frame (leaveIdleList c s) c 0
  have group : ∀ x, (enterBlocked c (leaveIdleList c s)).group x = (leaveIdleList c s).group x := fun x => by
    simp only [State.group, groups']
  refine ⟨by rw [group, leaveIdleList_group, if_pos h], fun x hx => ?_,
    fun d hd => (circuits' d hd).trans (leaveIdleList_circuit d), pool.trans (enterBlocked_pool c _),
    lines.trans lines', ports.trans ports'⟩
  have other : (s.circuit c).group ≠ some x := by
    rw [h]
    simpa [eq_comm] using hx
  rw [group, leaveIdleList_group, if_neg other]

end Block

/-- Settles O41: the answer by the named circuit's state, in the state the order starts from, whose circuits, groups and
lines are those before. -/
theorem blockActsByState : Obligations.BlockActsByState := by
  unfold Obligations.BlockActsByState
  intro w ws s _ ready
  obtain ⟨-, -, pool, lines, -⟩ := orderStart_frame s w
  obtain ⟨time, circuit, group, -, filter⟩ := orderStart_records s w
  refine ⟨fun high => refuses_of_body ready (circuitOrder_high high), fun c hc => ?_⟩
  have body : orderBody .block w.port ws (orderStart w s) = blockCircuit c (orderStart w s) := circuitOrder_of_circuit hc
  intro k
  refine ⟨fun unequipped => ?_, fun blocked => ?_, fun g idle hg => ?_, fun unequipped blocked idle => ?_⟩
  · exact refuses_of_body ready (body.trans (blockCircuit_of_unequipped (by rw [circuit]; exact unequipped)))
  · exact answers_of_body ready (body.trans (blockCircuit_of_blocked (by rw [circuit]; exact blocked)))
  · have hg' : ((orderStart w s).circuit c).group = some g := by rw [circuit]; exact hg
    have own := enterBlocked_leaveIdleList_circuit hg'
    obtain ⟨group', groups', circuits', pool', lines', ports'⟩ := enterBlocked_leaveIdleList_frame hg'
    rw [circuit, time, filter, group, orderStart_par] at own
    rw [group] at group'
    exact ⟨_, answers_of_body ready (body.trans (blockCircuit_of_idle (by rw [circuit]; exact idle))), own, group',
      fun x hx => (groups' x hx).trans (group x), fun d hd => (circuits' d hd).trans (circuit d), pool.trans pool',
      lines.trans lines', ports'⟩
  · exact answers_of_body ready (body.trans (blockCircuit_of_busy (by rw [circuit]; exact unequipped)
      (by rw [circuit]; exact blocked) (by rw [circuit]; exact idle)))

end Sys2Proof.Machine

/-! PROOFS. WATCH SET and FORCE SET (R181, R182): what each body makes of its words (R184). -/

namespace Sys2Proof.Machine

section TestMatrixOrders

variable {ws : List Word}

/-! ## Codes (R184) -/

theorem edgeOf_code : ∀ x ∈ [(Edge.toOn, 0), (Edge.toOff, 1), (Edge.any, 2)], edgeOf x.2 = some x.1 := by decide

theorem reportToOf_code : ∀ x ∈ [(ReportTo.none, 0), (ReportTo.A, 1), (ReportTo.B, 2), (ReportTo.both, 3)],
    reportToOf x.2 = x.1 := by decide

theorem actionOf_code : ∀ x ∈ [(Action.none, 0), (Action.set, 1), (Action.clear, 2), (Action.toggle, 3)],
    actionOf x.2 = x.1 := by decide

/-! ## WATCH SET (R181) -/

theorem orderWatchSet_refused (p : Port) (s : State)
    (h : 7 < field (wordAt ws 1) 11 8 ∨ 95 < field (wordAt ws 1) 6 0 ∨ 7 < field (wordAt ws 2) 3 0 ∨
      field (wordAt ws 2) 13 12 = 3) : orderWatchSet p ws s = refuse .badValue s := by
  obtain channel | circuit | target | edge := h
  · simp [orderWatchSet, eightOf_none.mpr channel]
  · simp [orderWatchSet, circuitOf_none.mpr circuit]
  · simp [orderWatchSet, eightOf_none.mpr target]
  · simp [orderWatchSet, edge, edgeOf]

theorem orderWatchSet_stores (p : Port) (s : State) {ch target : Fin 8} {c : Fin 96} {edge : Edge} {dest : ReportTo}
    {action : Action} (hch : field (wordAt ws 1) 11 8 = ch.val) (hc : field (wordAt ws 1) 6 0 = c.val)
    (ht : field (wordAt ws 2) 3 0 = target.val) (he : edgeOf (field (wordAt ws 2) 13 12) = some edge)
    (hd : reportToOf (field (wordAt ws 2) 9 8) = dest) (ha : actionOf (field (wordAt ws 2) 5 4) = action) :
    orderWatchSet p ws s =
      accept (s.setWatch ch
        { enable := bitSet (wordAt ws 1) 15, circuit := c, edge := edge, reportTo := dest, action := action
          target := target, matchCount := 0 }) := by
  simp only [orderWatchSet, eightOf_some.mpr hch, circuitOf_some.mpr hc, eightOf_some.mpr ht, he, hd, ha]

/-! ## FORCE SET (R182) -/

theorem orderForceSet_refused (p : Port) (s : State)
    (h : 7 < field (wordAt ws 1) 11 8 ∨ 95 < field (wordAt ws 1) 6 0) : orderForceSet p ws s = refuse .badValue s := by
  obtain channel | circuit := h
  · simp [orderForceSet, eightOf_none.mpr channel]
  · simp [orderForceSet, circuitOf_none.mpr circuit]

theorem orderForceSet_stores (p : Port) (s : State) {ch : Fin 8} {c : Fin 96}
    (hch : field (wordAt ws 1) 11 8 = ch.val) (hc : field (wordAt ws 1) 6 0 = c.val) :
    orderForceSet p ws s =
      accept (s.setForce ch
        { enable := bitSet (wordAt ws 1) 15, circuit := c, value := if bitSet (wordAt ws 1) 14 then .on else .off }) := by
  simp only [orderForceSet, eightOf_some.mpr hch, circuitOf_some.mpr hc]

end TestMatrixOrders

/-- Settles O46: the body refuses a field out of range, and otherwise stores what the words' codes name. -/
theorem watchSetStoresItsFields : Obligations.WatchSetStoresItsFields := by
  unfold Obligations.WatchSetStoresItsFields
  intro w ws s ready w2 w3
  refine ⟨fun bad => refuses_of_body ready (orderWatchSet_refused w.port _ bad), ?_⟩
  intro ch c target edge dest action hch hc ht he hd ha
  exact answers_of_body ready
    (orderWatchSet_stores w.port _ hch hc ht (edgeOf_code _ he) (reportToOf_code _ hd) (actionOf_code _ ha))

/-- Settles O47: the body refuses a number out of range, and otherwise stores the three fields. -/
theorem forceSetStoresItsFields : Obligations.ForceSetStoresItsFields := by
  unfold Obligations.ForceSetStoresItsFields
  intro w ws s ready w2
  exact ⟨fun bad => refuses_of_body ready (orderForceSet_refused w.port _ bad),
    fun ch c hch hc => answers_of_body ready (orderForceSet_stores w.port _ hch hc)⟩

end Sys2Proof.Machine

/-! PROOFS. A recognized transition and the lines (R3 to R6): whatever the circuits, the groups, the pool and the ports make
of it, the receive leads, the test matrix and the levels of the part stay, so that the watch channels take it as it came. -/

namespace Sys2Proof.Machine

section Lines

variable {s t : State} {c : Fin 96}

/-! ## Changes of one record, and events -/

theorem LinesKept.modCircuit (h : LinesKept s t) (c : Fin 96) (f : Circuit → Circuit) :
    LinesKept s (t.modCircuit c f) := h

theorem LinesKept.modGroup (h : LinesKept s t) (g : Fin 8) (f : Group → Group) : LinesKept s (t.modGroup g f) := h

theorem LinesKept.modUnit (h : LinesKept s t) (u : Fin 16) (f : DigitUnit → DigitUnit) :
    LinesKept s (t.modUnit u f) := h

theorem LinesKept.drive (h : LinesKept s t) (c : Fin 96) (cond : Cond) : LinesKept s (t.drive c cond) := h

theorem LinesKept.startTimer (h : LinesKept s t) (c : Fin 96) (n : Nat) : LinesKept s (t.startTimer c n) := h

theorem LinesKept.modPort (h : LinesKept s t) (p : Port) (f : PortRecord → PortRecord) : LinesKept s (t.modPort p f) :=
  h.trans (by simp [LinesKept])

theorem LinesKept.setSlot (h : LinesKept s t) (id : SlotId) (k : Slot) : LinesKept s (t.setSlot id k) :=
  h.modPort id.port _

theorem LinesKept.raiseCircuit (h : LinesKept s t) (c : Fin 96) (e : Event) : LinesKept s (t.raiseCircuit c e) :=
  h.trans (by simp [LinesKept])

theorem LinesKept.raiseAnswered (h : LinesKept s t) (c : Fin 96) (n : Nat) : LinesKept s (t.raiseAnswered c n) :=
  h.trans (by simp [LinesKept])

theorem LinesKept.raiseSlot (h : LinesKept s t) (id : SlotId) (e : Event) : LinesKept s (t.raiseSlot id e) :=
  h.trans (by simp [LinesKept])

/-! ## The pool, the lists and the entries -/

theorem LinesKept.requestUnit (h : LinesKept s t) (c : Fin 96) (cls : UnitClass) :
    LinesKept s (requestUnit c cls t) := by
  obtain ⟨-, -, lines⟩ := requestUnit_frame t c cls
  exact h.trans lines

theorem LinesKept.detachFrom (h : LinesKept s t) (c : Fin 96) : LinesKept s (detachFrom c t) := by
  obtain ⟨-, -, lines⟩ := detachFrom_frame t c
  exact h.trans lines

theorem LinesKept.withdraw (h : LinesKept s t) (c : Fin 96) : LinesKept s (withdraw c t) := h

theorem LinesKept.decideStart (h : LinesKept s t) (u : Fin 16) (c : Fin 96) : LinesKept s (decideStart u c t) := by
  obtain ⟨-, -, -, -, lines⟩ := decideStart_frame t u c
  exact h.trans lines

theorem LinesKept.resume (h : LinesKept s t) (u : Fin 16) (c : Fin 96) : LinesKept s (resume u c t) :=
  decideStart (t := { t.modUnit u fun k => { k with attachTime := t.timeBase } with
    parked := t.parked.filter fun v => v ≠ u }) h u c

theorem LinesKept.breakLink (h : LinesKept s t) (c : Fin 96) : LinesKept s (breakLink c t) := by
  obtain ⟨-, -, -, lines⟩ := breakLink_spec t c
  exact h.trans lines

theorem LinesKept.leaveIdleList (h : LinesKept s t) (c : Fin 96) : LinesKept s (leaveIdleList c t) := by
  obtain ⟨-, lines, -⟩ := leaveIdleList_frame c t
  exact h.trans lines

theorem LinesKept.enterOutSeizing (h : LinesKept s t) (c : Fin 96) (id : SlotId) (digits : List (Fin 10)) (eon : Bool) :
    LinesKept s (enterOutSeizing c id digits eon t) := by
  obtain ⟨-, -, lines⟩ := enterOutSeizing_frame t c id digits eon
  exact h.trans lines

theorem LinesKept.enterPreseize (h : LinesKept s t) (c : Fin 96) : LinesKept s (enterPreseize c t) :=
  ((h.leaveIdleList c).modCircuit c _).drive c .off

theorem LinesKept.enterBlocked (h : LinesKept s t) (c : Fin 96) : LinesKept s (enterBlocked c t) :=
  (h.modCircuit c _).drive c .off

theorem LinesKept.enterIdle (h : LinesKept s t) (c : Fin 96) (g : Fin 8) : LinesKept s (enterIdle c g t) := by
  have idle := ((h.modCircuit c fun k => { k with state := .idle, timer := none }).drive c .off).modGroup g
    fun k => { k with idle := k.idle ++ [c] }
  unfold Machine.enterIdle
  simp only
  split
  · exact idle.enterPreseize c
  · exact idle

theorem LinesKept.serveWaiting (h : LinesKept s t) (c : Fin 96) (g : Fin 8) (id : SlotId) (call : SlotCall)
    (digits : List (Fin 10)) (eon : Bool) : LinesKept s (serveWaiting c g id call digits eon t) :=
  (((h.modGroup g _).setSlot id _).enterOutSeizing c id digits eon).raiseSlot id .seized

theorem LinesKept.becomesIdle (h : LinesKept s t) (c : Fin 96) : LinesKept s (becomesIdle c t) := by
  obtain ⟨-, eq⟩ | ⟨g, -, ⟨-, eq⟩ | ⟨-, ⟨id, rest, call, digits, eon, expiry, -, -, eq⟩ | eq⟩⟩ := becomesIdle_cases t c
  · rw [eq]; exact h
  · rw [eq]; exact (h.modCircuit c _).enterBlocked c
  · rw [eq]; exact h.serveWaiting c g id call digits eon
  · rw [eq]; exact h.enterIdle c g

theorem LinesKept.offerCall (h : LinesKept s t) (c : Fin 96) : LinesKept s (offerCall c t) := by
  cases hg : (t.circuit c).group with
  | none => simpa [Machine.offerCall, hg] using h
  | some g =>
    obtain ⟨t', -, -, -, -, lines, -, eq⟩ := offerCall_cases t c g hg
    rw [eq]
    split
    · exact (h.trans lines).requestUnit c .register
    · exact h.trans lines

/-! ## An outgoing call (R45 to R59) -/

theorem LinesKept.autoClear (h : LinesKept s t) (c : Fin 96) (cause : Cause) (e : Event) :
    LinesKept s (autoClear c cause e t) := by
  obtain ⟨-, lines⟩ := clearForward_frame ((t.modCircuit c fun k => { k with cause := cause }).raiseCircuit c e) c
  exact ((h.modCircuit c _).raiseCircuit c e).trans lines

theorem LinesKept.recognizeAnswer (h : LinesKept s t) (c : Fin 96) : LinesKept s (recognizeAnswer c t) :=
  (((h.detachFrom c).withdraw c).modCircuit c _).raiseAnswered c _

theorem LinesKept.recognizeClearBack (h : LinesKept s t) (c : Fin 96) : LinesKept s (recognizeClearBack c t) :=
  (h.modCircuit c _).raiseCircuit c .clearedBack

theorem LinesKept.recognizeReanswer (h : LinesKept s t) (c : Fin 96) : LinesKept s (recognizeReanswer c t) :=
  (h.modCircuit c _).raiseCircuit c .reanswered

theorem LinesKept.entryTest (h : LinesKept s t) (c : Fin 96) : LinesKept s (entryTest c t) := by
  unfold Machine.entryTest
  simp only
  split
  · have stopped := h.modCircuit c fun k => { k with timer := none }
    split
    · split
      · exact stopped.resume _ c
      · split
        · exact stopped.decideStart _ c
        · exact stopped
      all_goals exact stopped
    · split
      · exact stopped.requestUnit c .sender
      · exact stopped
  · split
    · exact (((h.detachFrom c).withdraw c).modCircuit c _).raiseCircuit c .digitsSent
    · exact h.startTimer c _

theorem LinesKept.proceed (h : LinesKept s t) (c : Fin 96) : LinesKept s (proceed c t) := by
  have tested := ((((h.modCircuit c fun k => { k with timer := none }).raiseCircuit c .proceed).breakLink c).modCircuit c
    fun k => { k with state := .outSending }).entryTest c
  unfold Machine.proceed
  simp only
  split
  · exact tested.recognizeAnswer c
  · exact tested

theorem LinesKept.recognizeGuard (h : LinesKept s t) (c : Fin 96) : LinesKept s (recognizeGuard c t) :=
  ((h.raiseCircuit c .released).modCircuit c _).becomesIdle c

theorem LinesKept.recognizeLateGuard (h : LinesKept s t) (c : Fin 96) : LinesKept s (recognizeLateGuard c t) :=
  (h.raiseCircuit c .lateGuard).becomesIdle c

/-! ## Glare (R88 to R99) -/

theorem LinesKept.failGlare (h : LinesKept s t) (id : SlotId) (call : SlotCall) : LinesKept s (failGlare id call t) :=
  (h.setSlot id _).raiseSlot id .glareFailed

theorem LinesKept.rehunt (h : LinesKept s t) (id : SlotId) (call : SlotCall) (digits : List (Fin 10)) (eon : Bool) :
    LinesKept s (rehunt id call digits eon t) := by
  unfold Machine.rehunt
  split
  · exact (((h.leaveIdleList _).setSlot id _).enterOutSeizing _ id digits eon).raiseSlot id .rehunted
  · split
    · exact ((h.setSlot id _).modGroup _ _).raiseSlot id .glareQueued
    · exact h.failGlare id call

theorem LinesKept.displaceCall (h : LinesKept s t) (c : Fin 96) : LinesKept s (displaceCall c t) := by
  have off := h.modCircuit c fun k => { k with digits := [], eon := false, slot := none }
  unfold Machine.displaceCall
  simp only
  split
  · exact off
  · next id _ =>
    split
    · have forgotten : LinesKept s (forgetSeized id _) := off.modPort id.port _
      split
      · exact forgotten.rehunt id _ _ _
      · exact forgotten.failGlare id _
    all_goals exact off

theorem LinesKept.yieldGlare (h : LinesKept s t) (c : Fin 96) : LinesKept s (yieldGlare c t) :=
  ((((((((h.modCircuit c _).drive c .off).detachFrom c).withdraw c).raiseCircuit c .glareLost).displaceCall c).modCircuit c
    _).offerCall c)

theorem LinesKept.reachAckMax (h : LinesKept s t) (c : Fin 96) : LinesKept s (reachAckMax c t) := by
  unfold Machine.reachAckMax
  split
  · exact h.autoClear c _ _
  · split
    · split
      · split
        · exact (h.modCircuit c _).raiseCircuit c .glareWon
        · exact h.yieldGlare c
      all_goals exact h.autoClear c _ _
    · exact h.autoClear c _ _

/-! ## An incoming call, and a blocked circuit (R71 to R84, R167) -/

theorem LinesKept.loseDigits (h : LinesKept s t) (c : Fin 96) : LinesKept s (loseDigits c t) :=
  ((h.withdraw c).modCircuit c _).raiseCircuit c .digitsLost

theorem LinesKept.receiveDigit (h : LinesKept s t) (c : Fin 96) (d : Fin 10) : LinesKept s (receiveDigit c d t) := by
  unfold Machine.receiveDigit
  split
  · exact ((h.modCircuit c _).startTimer c _).raiseCircuit c .digit
  · exact ((h.raiseCircuit c .digitOverflow).modCircuit c _).detachFrom c

theorem LinesKept.cutAckPulse (h : LinesKept s t) (c : Fin 96) : LinesKept s (cutAckPulse c t) := by
  unfold Machine.cutAckPulse
  split <;> exact h

theorem LinesKept.beginGuard (h : LinesKept s t) (c : Fin 96) (wasOn : Bool) : LinesKept s (beginGuard c wasOn t) := by
  unfold Machine.beginGuard
  split
  · exact (h.drive c .off).startTimer c _
  · split
    · exact h.modCircuit c _
    · exact (h.drive c .on).startTimer c _

theorem LinesKept.recognizeClearForward (h : LinesKept s t) (c : Fin 96) : LinesKept s (recognizeClearForward c t) :=
  (((((((h.detachFrom c).withdraw c).modCircuit c _).cutAckPulse c).raiseCircuit c .clearedForward).modCircuit c
    _).beginGuard c _)

theorem LinesKept.reportFarSeize (h : LinesKept s t) (c : Fin 96) : LinesKept s (reportFarSeize c t) :=
  (h.modCircuit c _).raiseCircuit c .farSeizeBlocked

/-! ## A register (R120 to R122) -/

theorem LinesKept.completeDigit (h : LinesKept s t) (u : Fin 16) : LinesKept s (completeDigit u t) := by
  unfold Machine.completeDigit
  split
  · next c _ =>
    have waiting := h.modUnit u DigitUnit.awaitDigit
    simp only
    split
    · next d _ =>
      have received := waiting.receiveDigit c d
      split
      · next g _ =>
        obtain ⟨-, -, -, -, lines, -⟩ := countDigit_frame (Machine.receiveDigit c d (t.modUnit u DigitUnit.awaitDigit)) g
        exact received.trans lines
      · exact received
    · exact waiting.raiseCircuit c .pulseError
  · exact h

theorem LinesKept.handPeriod (h : LinesKept s t) (c : Fin 96) (start : Option Time) :
    LinesKept s (handPeriod c start t) := by
  unfold Machine.handPeriod
  split
  · next g since _ =>
    simp only
    split
    · obtain ⟨-, -, -, -, lines, -⟩ := takePeriod_frame t g (elapsed t.timeBase since)
      exact h.trans lines
    · exact h
  all_goals exact h

theorem LinesKept.registerOn (h : LinesKept s t) (u : Fin 16) (c : Fin 96) : LinesKept s (registerOn u c t) := by
  unfold Machine.registerOn
  simp only
  split
  · split
    · exact (h.modUnit u _).raiseCircuit c .pulseError
    · exact h.modUnit u _
  all_goals exact h

theorem LinesKept.registerOff (h : LinesKept s t) (u : Fin 16) (c : Fin 96) : LinesKept s (registerOff u c t) := by
  unfold Machine.registerOff
  simp only
  split
  · exact h.modUnit u _
  · exact (h.modUnit u _).handPeriod c _
  all_goals exact h

theorem LinesKept.registerTransition (h : LinesKept s t) (c : Fin 96) (cond : Cond) :
    LinesKept s (registerTransition c cond t) := by
  unfold Machine.registerTransition
  split
  · cases cond with
    | on => exact h.registerOn _ c
    | off => exact h.registerOff _ c
  · exact h

/-! ## The supervision machine (R5, R6) -/

theorem LinesKept.supervisionOn (h : LinesKept s t) (c : Fin 96) : LinesKept s (supervisionOn c t) := by
  unfold Machine.supervisionOn
  simp only
  split
  · split
    · exact h.enterPreseize c
    · exact h
  all_goals exact h

theorem LinesKept.seizingOff (h : LinesKept s t) (c : Fin 96) (width : Nat) (held : Held) :
    LinesKept s (seizingOff c width held t) := by
  have off := h.modCircuit c fun r => { r with presentOn := false }
  unfold Machine.seizingOff
  simp only
  split
  · split <;> exact h
  · split
    · exact off.proceed c
    · exact off

theorem LinesKept.supervisionOff (h : LinesKept s t) (c : Fin 96) (width : Nat) (held : Held) :
    LinesKept s (supervisionOff c width held t) := by
  have off := h.modCircuit c fun r => { r with presentOn := false }
  unfold Machine.supervisionOff
  simp only
  split
  · exact (h.modCircuit c _).becomesIdle c
  · exact h
  · split
    · exact h.loseDigits c
    · exact h
  · exact h.seizingOff c width held
  · split
    · exact off.recognizeGuard c
    · exact off
  · split
    · exact off.recognizeLateGuard c
    · exact off
  all_goals exact h

theorem LinesKept.reachedFirst (h : LinesKept s t) (c : Fin 96) : LinesKept s (reachedFirst c t) := by
  unfold Machine.reachedFirst
  extract_lets t'
  have supervised : LinesKept s t' := by
    unfold t'
    split
    · exact h.offerCall c
    split
    · exact h.reportFarSeize c
    split
    · exact h.reachAckMax c
    split
    · exact h.recognizeAnswer c
    split
    · exact h.recognizeClearBack c
    split
    · exact h.recognizeReanswer c
    split
    · exact h.recognizeClearForward c
    · exact h
  split
  · next u _ =>
    split
    · exact supervised.completeDigit u
    · split <;> exact supervised
  · exact supervised

end Lines

/-- A candidate that is accepted has its stamp, and the watch channels take its transition with the lines as they were. -/
theorem acceptCandidate_eq_watchTransition (c : Fin 96) (s : State) :
    ∃ t, LinesKept (s.setFilter c
        { recCond := oppositeCond (s.filter c).recCond, recTime := s.timeBase, cand := none }) t ∧
      acceptCandidate c s = watchTransition c (oppositeCond (s.filter c).recCond) t := by
  have first := (LinesKept.refl s).reachedFirst c
  unfold acceptCandidate
  simp only
  generalize reachedFirst c s = r at first ⊢
  obtain ⟨reset, time, filters, watches, forces, pending, choices⟩ := first
  have lead : r.filter c = s.filter c := by simp only [State.filter, filters]
  have stamped : LinesKept (s.setFilter c
        { recCond := oppositeCond (s.filter c).recCond, recTime := s.timeBase, cand := none })
      (r.setFilter c { recCond := oppositeCond (s.filter c).recCond, recTime := r.timeBase, cand := none }) := by
    simp [LinesKept, State.setFilter, reset, time, filters, watches, forces, pending, choices]
  rw [lead]
  refine ⟨_, LinesKept.registerTransition ?_ c _, rfl⟩
  split
  · exact (stamped.modCircuit c _).supervisionOn c
  · exact (stamped.modCircuit c _).supervisionOff c _ _

end Sys2Proof.Machine

/-! PROOFS. The watch channels give the force channels their actions (R178, R179). -/

namespace Sys2Proof.Machine

section ForceActions

variable {c : Fin 96} {cond : Cond}

/-! ## The channels that match (R178) -/

theorem WatchChannel.matching_iff (k : WatchChannel) : k.matching c cond = true ↔ WatchMatches k c cond := by
  have edge : k.edge.matches cond = true ↔
      k.edge = .any ∨ (k.edge = .toOn ∧ cond = .on) ∨ (k.edge = .toOff ∧ cond = .off) := by
    cases k.edge <;> cases cond <;> simp [Edge.matches]
  simp [WatchChannel.matching, WatchMatches, edge]

/-- The watch channels that match a transition, in ascending order. -/
def State.matched (s : State) (c : Fin 96) (cond : Cond) : List (Fin 8) :=
  allEight.filter fun w => (s.watch w).matching c cond

theorem State.mem_matched (s : State) (w : Fin 8) : w ∈ s.matched c cond ↔ WatchMatches (s.watch w) c cond := by
  simp [State.matched, allEight, WatchChannel.matching_iff]

/-- A count changes the count of its channel alone. -/
theorem countMatch_watch (w x : Fin 8) (s : State) :
    (countMatch w s).watch x =
      if x = w then { s.watch w with matchCount := min 65535 ((s.watch w).matchCount + 1) } else s.watch x := by
  simp [countMatch, State.setWatch_watch]

/-- Of the test matrix, only the counts of the watch channels may differ. -/
structure SettingsKept (s t : State) : Prop where
  force : ∀ f, t.force f = s.force f
  target : ∀ w, (t.watch w).target = (s.watch w).target
  action : ∀ w, (t.watch w).action = (s.watch w).action

theorem SettingsKept.refl (s : State) : SettingsKept s s := ⟨fun _ => rfl, fun _ => rfl, fun _ => rfl⟩

theorem SettingsKept.countMatch {s t : State} (h : SettingsKept s t) (w : Fin 8) : SettingsKept s (countMatch w t) := by
  refine ⟨fun f => ?_, fun x => ?_, fun x => ?_⟩
  · rw [← h.force f]
    simp [Machine.countMatch]
  · rw [← h.target x, countMatch_watch]
    split <;> simp [*]
  · rw [← h.action x, countMatch_watch]
    split <;> simp [*]

theorem SettingsKept.countMatches (l : List (Fin 8)) (s : State) :
    SettingsKept s (l.foldl (fun s w => Machine.countMatch w s) s) :=
  List.foldlRecOn l _ (.refl s) fun _ h w _ => h.countMatch w

/-! ## The force channels take their actions (R179) -/

/-- The actions that watch channels collect for a force channel. -/
def State.collected (s : State) (l : List (Fin 8)) (f : Fin 8) : List Action :=
  (l.filter fun w => (s.watch w).target = f).map fun w => (s.watch w).action

theorem State.mem_collected {s : State} {l : List (Fin 8)} {f : Fin 8} {a : Action} :
    a ∈ s.collected l f ↔ ∃ w ∈ l, (s.watch w).target = f ∧ (s.watch w).action = a := by
  simp [State.collected, and_assoc]

theorem SettingsKept.collected {s t : State} (h : SettingsKept s t) (l : List (Fin 8)) (f : Fin 8) :
    t.collected l f = s.collected l f := by
  simp only [State.collected, h.target, h.action]

/-- SET comes before CLEAR, and CLEAR before TOGGLE. -/
theorem resolveActions_eq (l : List Action) (value : Cond) :
    resolveActions l value =
      if .set ∈ l then .on else if .clear ∈ l then .off else if .toggle ∈ l then oppositeCond value else value := by
  simp only [resolveActions, List.contains_iff_mem]

/-- One force channel takes the value that its actions are resolved to. -/
def takeActions (l : List (Fin 8)) (s : State) (f : Fin 8) : State :=
  s.setForce f { s.force f with value := resolveActions (s.collected l f) (s.force f).value }

theorem takeActions_collected (l : List (Fin 8)) (s : State) (x f : Fin 8) :
    (takeActions l s x).collected l f = s.collected l f := rfl

theorem takeActions_force_ne (l : List (Fin 8)) (s : State) {x f : Fin 8} (h : f ≠ x) :
    (takeActions l s x).force f = s.force f := State.setForce_force_ne s x _ h

/-- Where each channel takes its actions once, a channel has the value of its own actions at the end, and the value it had
where it is not among them. -/
theorem foldl_takeActions_force (l fs : List (Fin 8)) (f : Fin 8) (once : fs.Nodup) (s : State) :
    (fs.foldl (takeActions l) s).force f =
      if f ∈ fs then { s.force f with value := resolveActions (s.collected l f) (s.force f).value } else s.force f := by
  induction fs generalizing s with
  | nil => simp
  | cons x fs ih =>
    obtain ⟨fresh, once⟩ := List.nodup_cons.mp once
    rw [List.foldl_cons, ih once, takeActions_collected]
    by_cases hx : f = x
    · subst hx
      rw [if_neg fresh, if_pos List.mem_cons_self]
      exact State.setForce_force_self s f _
    · simp [takeActions_force_ne l s hx, hx]

/-- Each force channel takes the one value that the actions of the channels that match are resolved to. -/
theorem watchTransition_force (c : Fin 96) (cond : Cond) (s : State) (f : Fin 8) :
    (watchTransition c cond s).force f =
      { s.force f with value := resolveActions (s.collected (s.matched c cond) f) (s.force f).value } := by
  have counted := SettingsKept.countMatches (s.matched c cond) s
  have every : f ∈ allEight := List.mem_finRange f
  have taken := foldl_takeActions_force (s.matched c cond) allEight f (List.nodup_finRange 8)
    ((s.matched c cond).foldl (fun s w => countMatch w s) s)
  rw [if_pos every, counted.collected, counted.force f] at taken
  exact taken

theorem watchTransition_collects (c : Fin 96) (cond : Cond) (s : State) (f : Fin 8) (a : Action) :
    a ∈ s.collected (s.matched c cond) f ↔
      ∃ w, WatchMatches (s.watch w) c cond ∧ (s.watch w).target = f ∧ (s.watch w).action = a := by
  simp only [State.mem_collected, State.mem_matched]

/-! ## A transition that is due -/

theorem candidateDue_iff {s : State} : candidateDue c s = true ↔ TransitionDue c s := by
  unfold candidateDue TransitionDue
  split <;> simp [*]

theorem exec_recognizedTransition {s : State} (awake : s.resetAsserted = false) (due : TransitionDue c s) :
    exec (.recognizedTransition c.val) s = .next (acceptCandidate c s) := by
  have run : exec (.recognizedTransition c.val) s = onCircuit c.val candidateDue acceptCandidate s := rfl
  rw [run, onCircuit_val, if_pos ⟨awake, candidateDue_iff.mpr due⟩]

end ForceActions

/-- Settles O8: the watch channels take the transition with the test matrix as it was, and each force channel then takes
what its actions are resolved to. -/
theorem forceActionsAreResolved : Obligations.ForceActionsAreResolved := by
  unfold Obligations.ForceActionsAreResolved
  intro c s f awake due got
  obtain ⟨t, ⟨-, -, -, watches, forces, -⟩, accepted⟩ := acceptCandidate_eq_watchTransition c s
  have watch : ∀ w, t.watch w = s.watch w := fun w => by rw [State.watch, watches]; rfl
  have force : t.force f = s.force f := by rw [State.force, forces]; rfl
  have value := watchTransition_force c (oppositeCond (s.filter c).recCond) t f
  have collects : ∀ a, a ∈ t.collected (t.matched c (oppositeCond (s.filter c).recCond)) f ↔ got a := fun a => by
    simp only [watchTransition_collects, watch]
    rfl
  rw [force] at value
  refine ⟨_, exec_recognizedTransition awake due, ?_⟩
  rw [accepted, value]
  simp only [resolveActions_eq, ← collects, true_and]
  refine ⟨fun set => if_pos set, fun set clear => ?_, fun set clear toggle => ?_, fun set clear toggle => ?_⟩
  · rw [if_neg set, if_pos clear]
  · rw [if_neg set, if_neg clear, if_pos toggle]
  · rw [if_neg set, if_neg clear, if_neg toggle]

end Sys2Proof.Machine

/-! PROOFS. What most of the part's acts leave alone of the groups' parameters and references, and of the ports' pending sets,
lists and report reads; and one walk over the commands for the claims on these (R16, R123, R152 to R155). -/

namespace Sys2Proof.Machine

section SameBooks

variable {s t v : State}

/-- Two ports with the same pending sets, list and report read. -/
def PortRecord.SameBooks (r x : PortRecord) : Prop :=
  x.pend = r.pend ∧ x.attention = r.attention ∧ x.report = r.report

/-- Two states whose groups have the same parameters and references, and whose ports have the same pending sets, lists and
report reads. -/
def SameBooks (s t : State) : Prop :=
  (∀ g, (t.group g).params = (s.group g).params ∧ (t.group g).reference = (s.group g).reference) ∧
    s.portA.SameBooks t.portA ∧ s.portB.SameBooks t.portB

theorem PortRecord.SameBooks.refl (r : PortRecord) : r.SameBooks r := ⟨rfl, rfl, rfl⟩

theorem PortRecord.SameBooks.trans {r x y : PortRecord} (h : r.SameBooks x) (h' : x.SameBooks y) : r.SameBooks y :=
  ⟨h'.1.trans h.1, h'.2.1.trans h.2.1, h'.2.2.trans h.2.2⟩

theorem SameBooks.refl (s : State) : SameBooks s s := ⟨fun _ => ⟨rfl, rfl⟩, .refl _, .refl _⟩

theorem SameBooks.trans (h : SameBooks s t) (h' : SameBooks t v) : SameBooks s v :=
  ⟨fun g => ⟨(h'.1 g).1.trans (h.1 g).1, (h'.1 g).2.trans (h.1 g).2⟩, h.2.1.trans h'.2.1, h.2.2.trans h'.2.2⟩

theorem SameBooks.port (h : SameBooks s t) (p : Port) : (s.port p).SameBooks (t.port p) := by
  cases p
  · exact h.2.1
  · exact h.2.2

/-- With the groups and the ports as they were, nothing of the books differs. -/
theorem SameBooks.of_frame (groups : t.groups = s.groups) (ports : PortsKept s t) : SameBooks s t := by
  obtain ⟨a, b⟩ := ports
  exact ⟨fun g => by simp [State.group, groups], a ▸ .refl _, b ▸ .refl _⟩

/-! ## Changes of one record -/

theorem SameBooks.modCircuit (h : SameBooks s t) (c : Fin 96) (f : Circuit → Circuit) :
    SameBooks s (t.modCircuit c f) := h

theorem SameBooks.modUnit (h : SameBooks s t) (u : Fin 16) (f : DigitUnit → DigitUnit) :
    SameBooks s (t.modUnit u f) := h

theorem SameBooks.drive (h : SameBooks s t) (c : Fin 96) (cond : Cond) : SameBooks s (t.drive c cond) := h

theorem SameBooks.startTimer (h : SameBooks s t) (c : Fin 96) (n : Nat) : SameBooks s (t.startTimer c n) := h

theorem SameBooks.modGroup (h : SameBooks s t) (g : Fin 8) {f : Group → Group}
    (hf : ∀ k, (f k).params = k.params ∧ (f k).reference = k.reference) : SameBooks s (t.modGroup g f) := by
  refine ⟨fun x => ?_, h.2⟩
  rw [State.modGroup_group]
  split
  · next hx => subst hx; rw [(hf _).1, (hf _).2]; exact h.1 x
  · exact h.1 x

theorem SameBooks.modPort (h : SameBooks s t) (p : Port) {f : PortRecord → PortRecord}
    (hf : ∀ r : PortRecord, r.SameBooks (f r)) : SameBooks s (t.modPort p f) := by
  cases p
  · exact ⟨h.1, h.2.1.trans (hf _), h.2.2⟩
  · exact ⟨h.1, h.2.1, h.2.2.trans (hf _)⟩

theorem SameBooks.setSlot (h : SameBooks s t) (id : SlotId) (k : Slot) : SameBooks s (t.setSlot id k) :=
  h.modPort id.port fun _ => ⟨rfl, rfl, rfl⟩

/-! ## The pool -/

theorem SameBooks.detach (h : SameBooks s t) (u : Fin 16) : SameBooks s (detach u t) := by
  obtain ⟨groups, ports, -⟩ := detach_frame t u
  exact h.trans (.of_frame groups ports)

theorem SameBooks.detachFrom (h : SameBooks s t) (c : Fin 96) : SameBooks s (detachFrom c t) := by
  obtain ⟨groups, ports, -⟩ := detachFrom_frame t c
  exact h.trans (.of_frame groups ports)

theorem SameBooks.withdraw (h : SameBooks s t) (c : Fin 96) : SameBooks s (withdraw c t) := h

theorem SameBooks.letGo (h : SameBooks s t) (c : Fin 96) : SameBooks s (letGo c t) := h.detachFrom c

theorem SameBooks.requestUnit (h : SameBooks s t) (c : Fin 96) (cls : UnitClass) :
    SameBooks s (requestUnit c cls t) := by
  obtain ⟨groups, ports, -⟩ := requestUnit_frame t c cls
  exact h.trans (.of_frame groups ports)

theorem SameBooks.decideStart (h : SameBooks s t) (u : Fin 16) (c : Fin 96) : SameBooks s (decideStart u c t) := by
  obtain ⟨-, -, groups, ports, -⟩ := decideStart_frame t u c
  exact h.trans (.of_frame groups ports)

theorem SameBooks.beginDigit (h : SameBooks s t) (u : Fin 16) (c : Fin 96) : SameBooks s (beginDigit u c t) := by
  obtain ⟨-, -, groups, ports, -⟩ := beginDigit_frame t u c
  exact h.trans (.of_frame groups ports)

theorem SameBooks.resume (h : SameBooks s t) (u : Fin 16) (c : Fin 96) : SameBooks s (resume u c t) :=
  SameBooks.decideStart (t := { t.modUnit u fun k => { k with attachTime := t.timeBase } with
    parked := t.parked.filter fun v => v ≠ u }) h u c

theorem SameBooks.becomeAvailable (h : SameBooks s t) (u : Fin 16) : SameBooks s (becomeAvailable u t) := by
  obtain ⟨-, -, e⟩ | ⟨e, rest, -, eq⟩ | ⟨e, rest, -, -, eq⟩ := becomeAvailable_cases t u
  · rw [e]; exact h
  · obtain ⟨-, -, groups, ports, -⟩ := attach_frame { t with regQueue := rest } u e.circuit .register
    rw [eq]; exact h.trans (.of_frame groups ports)
  · obtain ⟨-, -, groups, ports, -⟩ := attach_frame { t with sndQueue := rest } u e.circuit .sender
    rw [eq]; exact h.trans (.of_frame groups ports)

theorem SameBooks.unlinkUnit (h : SameBooks s t) (u : Fin 16) : SameBooks s (unlinkUnit u t) := by
  obtain ⟨-, -, -, -, -, -, groups, ports, -⟩ := unlinkUnit_spec t u
  exact h.trans (.of_frame groups ports)

theorem SameBooks.endWithoutEon (h : SameBooks s t) (u : Fin 16) (c : Fin 96) : SameBooks s (endWithoutEon u c t) := by
  unfold Machine.endWithoutEon
  split
  · exact h.detach u
  · exact h

/-! ## Lists, slots and entries -/

theorem SameBooks.leaveIdleList (h : SameBooks s t) (c : Fin 96) : SameBooks s (leaveIdleList c t) := by
  unfold Machine.leaveIdleList
  split
  · exact h.modGroup _ fun _ => ⟨rfl, rfl⟩
  · exact h

theorem SameBooks.leaveQueue (h : SameBooks s t) (g : Fin 8) (id : SlotId) : SameBooks s (leaveQueue g id t) :=
  h.modGroup g fun _ => ⟨rfl, rfl⟩

theorem SameBooks.breakLink (h : SameBooks s t) (c : Fin 96) : SameBooks s (breakLink c t) := by
  unfold Machine.breakLink
  split
  · exact h
  · simp only
    split
    · split
      · exact (h.modCircuit c _).setSlot _ _
      · exact (h.modCircuit c _).setSlot _ _
    all_goals exact h

theorem SameBooks.enterOutSeizing (h : SameBooks s t) (c : Fin 96) (id : SlotId) (digits : List (Fin 10)) (eon : Bool) :
    SameBooks s (enterOutSeizing c id digits eon t) := by
  obtain ⟨groups, ports, -⟩ := enterOutSeizing_frame t c id digits eon
  exact h.trans (.of_frame groups ports)

theorem SameBooks.enterPreseize (h : SameBooks s t) (c : Fin 96) : SameBooks s (enterPreseize c t) :=
  h.leaveIdleList c

theorem SameBooks.enterBlocked (h : SameBooks s t) (c : Fin 96) : SameBooks s (enterBlocked c t) := h

theorem SameBooks.enterIdle (h : SameBooks s t) (c : Fin 96) (g : Fin 8) : SameBooks s (enterIdle c g t) := by
  have placed := h.modGroup g (f := fun k => { k with idle := k.idle ++ [c] }) fun _ => ⟨rfl, rfl⟩
  unfold Machine.enterIdle
  simp only
  split
  · refine SameBooks.enterPreseize ?_ c; exact placed
  · exact placed

theorem SameBooks.releaseForward (h : SameBooks s t) (c : Fin 96) : SameBooks s (releaseForward c t) := by
  unfold Machine.releaseForward
  simp only
  split
  · exact h
  · exact h

theorem SameBooks.clearForward (h : SameBooks s t) (c : Fin 96) : SameBooks s (clearForward c t) :=
  (((h.detachFrom c).withdraw c).breakLink c).releaseForward c

theorem SameBooks.cutAckPulse (h : SameBooks s t) (c : Fin 96) : SameBooks s (cutAckPulse c t) := by
  unfold Machine.cutAckPulse
  split <;> exact h

theorem SameBooks.beginGuard (h : SameBooks s t) (c : Fin 96) (wasOn : Bool) : SameBooks s (beginGuard c wasOn t) := by
  unfold Machine.beginGuard
  split
  · exact h
  · split <;> exact h

end SameBooks

/-! ## The claims on groups and ports -/

/-- A port whose pending seized and rehunted of a slot are taken back, out of its pending set and out of a report read of it in
progress (R96). -/
def PortRecord.forgotten (r : PortRecord) (n : Fin 16) : PortRecord :=
  let drop (k : EventSet) : EventSet := (k.remove .seized).remove .rehunted
  { r.setPend (.slot n) (drop (r.pendOf (.slot n))) with
    report := r.report.map fun k => if k.item = .slot n then { k with events := drop k.events } else k }

theorem forgetSeized_eq (id : SlotId) (s : State) :
    forgetSeized id s = s.modPort id.port fun r => r.forgotten id.num := rfl

/-- A claim on one port is kept by all that happens to the port's pending sets, its list and its report read; the count
discarded with an answer is at most 24 where that is asked for. -/
structure PortRules (bounded : Prop) (Q : PortRecord → Prop) : Prop where
  same : ∀ {r x : PortRecord}, r.SameBooks x → Q r → Q x
  event : ∀ {r : PortRecord} {it : Item} {e : Event}, e ∈ it.events → Q r → Q (r.withEvent it e)
  answered : ∀ {r : PortRecord} {c : Fin 96} {n : Nat}, (bounded → n ≤ 24) → Q r →
    Q ((r.setPend (.circuit c) ((r.pendOf (.circuit c)).addAnswered n)).join (.circuit c))
  forget : ∀ {r : PortRecord} (n : Fin 16), Q r → Q (r.forgotten n)
  merge : ∀ {r : PortRecord} {k : ReportRead}, r.report = some k → Q r →
    Q { r.restore k.item k.events with report := none }
  drop : ∀ {r : PortRecord}, Q r → Q { r with report := none }
  unmerged : ∀ {r : PortRecord}, Q r → Q { r with report := r.report.map fun k => { k with merge := false } }
  advance : ∀ {r : PortRecord} {k : ReportRead} (n : Nat), r.report = some k → Q r →
    Q { r with report := some { k with position := n } }
  begin_ : ∀ {r : PortRecord} (it : Item) (words : List Word) (n : Nat) (merge : Bool), Q r →
    Q { (r.setPend it EventSet.empty).leave it with
        report := some { item := it, words := words, position := n, events := r.pendOf it, merge := merge } }
  discard : ∀ {r : PortRecord} (it : Item), Q r → Q ((r.setPend it EventSet.empty).leave it)
  dropSlotItems : ∀ {r : PortRecord}, Q r → Q r.dropSlotItems
  transfer : ∀ {r x : PortRecord} (c : Fin 96), Q r → Q x →
    Q ((x.setPend (.circuit c) (((r.pendOf (.circuit c)).union (x.pendOf (.circuit c))).add .transferred)).join
        (.circuit c))
  clear : ∀ {r : PortRecord}, Q r →
    Q { r with pend := Vector.replicate 128 EventSet.empty, attention := [] }
  reset : Q PortRecord.reset

/-- What the walk over the machine carries: the rules of the claim on ports, the claim on the groups if it is asked for, and
the claim on both ports. -/
structure Books (refs bounded : Prop) (Q : PortRecord → Prop) (s : State) : Prop where
  rules : PortRules bounded Q
  groups : refs → ReferencesSound s
  ports : ∀ p, Q (s.port p)

section Books

variable {refs bounded : Prop} {Q : PortRecord → Prop} {s t : State} {c : Fin 96} {u : Fin 16}

theorem ReferencesSound.same (h : ReferencesSound s) (same : SameBooks s t) : ReferencesSound t := fun g => by
  obtain ⟨params, reference⟩ := same.1 g
  simp only [Group.par, params, reference]
  exact h g

theorem Books.same (h : Books refs bounded Q s) (same : SameBooks s t) : Books refs bounded Q t :=
  ⟨h.rules, fun hr => (h.groups hr).same same, fun p => h.rules.same (same.port p) (h.ports p)⟩

theorem Books.modPort (h : Books refs bounded Q s) (p : Port) {f : PortRecord → PortRecord} (hf : Q (f (s.port p))) :
    Books refs bounded Q (s.modPort p f) := by
  refine ⟨h.rules, fun hr g => by simpa using h.groups hr g, fun q => ?_⟩
  rw [State.modPort_port]
  split
  · exact hf
  · exact h.ports q

theorem Books.foldl {α : Type} {f : State → α → State}
    (step : ∀ t a, Books refs bounded Q t → Books refs bounded Q (f t a)) (l : List α) :
    ∀ t, Books refs bounded Q t → Books refs bounded Q (l.foldl f t) := by
  induction l with
  | nil => exact fun _ h => h
  | cons a l ih => exact fun t h => ih _ (step t a h)

theorem PortRules.carry {r x : PortRecord} {bounded : Prop} (h : PortRules bounded Q) (hr : Q r) (same : r.SameBooks x) :
    Q x := h.same same hr

/-! ## Events (R153, R154) -/

theorem Books.raiseAt (h : Books refs bounded Q s) (p : Port) {it : Item} {e : Event} (fits : e ∈ it.events) :
    Books refs bounded Q (s.raiseAt p it e) := by
  refine h.modPort p (f := fun r => (r.setPend it ((r.pendOf it).add e)).join it) ?_
  rw [PortRecord.join_setPend_add]
  exact h.rules.event fits (h.ports p)

theorem Books.raiseBoth (h : Books refs bounded Q s) {it : Item} {e : Event} (fits : e ∈ it.events) :
    Books refs bounded Q (s.raiseBoth it e) := (h.raiseAt .A fits).raiseAt .B fits

theorem Books.raiseCircuit (h : Books refs bounded Q s) (c : Fin 96) {e : Event}
    (fits : e ∈ (Item.circuit c).events) : Books refs bounded Q (s.raiseCircuit c e) := by
  unfold State.raiseCircuit
  split
  · exact h.raiseAt _ fits
  · exact h.raiseBoth fits

theorem Books.raiseAnswered (h : Books refs bounded Q s) (c : Fin 96) {n : Nat} (short : bounded → n ≤ 24) :
    Books refs bounded Q (s.raiseAnswered c n) := by
  have one : ∀ {t}, Books refs bounded Q t → ∀ p, Books refs bounded Q (t.raiseWith p (.circuit c) (·.addAnswered n)) :=
    fun k p => k.modPort p (k.rules.answered short (k.ports p))
  unfold State.raiseAnswered
  split
  · exact one h _
  · exact one (one h _) _

theorem Books.raiseSlot (h : Books refs bounded Q s) (id : SlotId) {e : Event}
    (fits : e ∈ (Item.slot id.num).events) : Books refs bounded Q (s.raiseSlot id e) := h.raiseAt _ fits

theorem Books.raiseGroup (h : Books refs bounded Q s) (g : Fin 8) {e : Event} (fits : e ∈ (Item.group g).events) :
    Books refs bounded Q (s.raiseGroup g e) := h.raiseBoth fits

theorem Books.raiseMatched (h : Books refs bounded Q s) (w : Fin 8) (dest : ReportTo) :
    Books refs bounded Q (s.raiseMatched w dest) := by
  unfold State.raiseMatched
  split
  · exact h
  · exact h.raiseAt _ (by simp [Item.events])
  · exact h.raiseAt _ (by simp [Item.events])
  · exact h.raiseBoth (by simp [Item.events])

/-! ## The reference (R123 to R135) -/

/-- A group's parameters and reference within their values. -/
def Group.Sound (k : Group) : Prop := (∀ p : Param, p.admits (k.par p)) ∧ k.reference.Sound

/-- One group changed, which stays sound. -/
theorem Books.modGroup (h : Books refs bounded Q s) (g : Fin 8) {f : Group → Group}
    (hf : (s.group g).Sound → (f (s.group g)).Sound) : Books refs bounded Q (s.modGroup g f) := by
  refine ⟨h.rules, fun hr x => ?_, fun p => by simpa using h.ports p⟩
  rw [State.modGroup_group]
  split
  · next hx => subst hx; exact hf (h.groups hr x)
  · exact h.groups hr x

theorem Group.Sound.withReference {k : Group} {r : Reference} (h : k.Sound) (hr : r.Sound) :
    ({ k with reference := r } : Group).Sound := ⟨h.1, hr⟩

/-- An apply leaves the thresholds within their bounds (R128). -/
theorem Group.Sound.applied {k : Group} (h : k.Sound) : k.applied.Sound := by
  obtain ⟨lo, hi, -, bmLo, bmHi, idLo, idHi, runs⟩ := h.2
  have bm := computedBm_bounds k.reference.ref (k.par .kBm)
  have id := computedId_bounds k.reference.ref (k.par .kId)
  refine ⟨by simpa using lo, by simpa using hi, by simp, ?_⟩
  simp only [Group.applied_locked, Group.applied_inRun, Group.applied_outRun]
  by_cases ho : k.par .override = 0
  · rw [Group.applied_of_override_off ho]; exact ⟨bm.1, bm.2, id.1, id.2, runs⟩
  · rw [Group.applied_of_override_on ho]; exact ⟨bmLo, bmHi, idLo, idHi, runs⟩

theorem Books.setThresholds (h : Books refs bounded Q s) (g : Fin 8) {r : Reference}
    (hr : (s.group g).Sound → r.Sound) : Books refs bounded Q (s.setThresholds g r) := by
  have stored := h.modGroup g (f := fun k => { k with reference := r }) fun hk => hk.withReference (hr hk)
  unfold State.setThresholds
  simp only
  split
  · exact stored
  · exact stored.raiseGroup g (by simp [Item.events])

theorem Books.applyReference (h : Books refs bounded Q s) (g : Fin 8) : Books refs bounded Q (applyReference g s) :=
  h.setThresholds g Group.Sound.applied

/-- A reference that takes a period from 50 to 200, with the runs that its lock allows, is sound. -/
theorem Reference.Sound.moved {r : Reference} {p : Nat} (h : r.Sound) (hp : 50 ≤ p ∧ p ≤ 200) {locked : Bool}
    {inRun outRun : Nat} (runs : if locked then inRun = 4 ∧ outRun ≤ 2 else inRun ≤ 3 ∧ outRun = 0) :
    ({ r with ref := r.follow p, locked := locked, inRun := inRun, outRun := outRun } : Reference).Sound := by
  obtain ⟨lo, hi, count, bmLo, bmHi, idLo, idHi, -⟩ := h
  obtain ⟨lo', hi'⟩ := Reference.follow_bounds r p ⟨lo, hi⟩ hp
  exact ⟨lo', hi', count, bmLo, bmHi, idLo, idHi, runs⟩

theorem Books.takePeriod (h : Books refs bounded Q s) (g : Fin 8) {p : Nat} (hp : 50 ≤ p ∧ p ≤ 200) :
    Books refs bounded Q (takePeriod g p s) := by
  have moves : ∀ {locked : Bool} {inRun outRun : Nat},
      ((s.group g).reference.Sound → if locked then inRun = 4 ∧ outRun ≤ 2 else inRun ≤ 3 ∧ outRun = 0) →
      Books refs bounded Q (s.modGroup g fun k =>
        { k with reference :=
            { (s.group g).reference with
              ref := (s.group g).reference.follow p, locked := locked, inRun := inRun, outRun := outRun } }) :=
    fun runs => h.modGroup g fun hk => hk.withReference (hk.2.moved hp (runs hk.2))
  have held : (s.group g).reference.Sound →
      if (s.group g).reference.locked then (s.group g).reference.inRun = 4 ∧ (s.group g).reference.outRun ≤ 2
      else (s.group g).reference.inRun ≤ 3 ∧ (s.group g).reference.outRun = 0 := fun hr => hr.2.2.2.2.2.2.2
  unfold Machine.takePeriod
  simp only
  split
  · next locked =>
    rw [if_pos locked] at held
    split
    · exact moves fun hr => by simp [locked, held hr]
    · split
      · exact (moves (locked := false) fun hr => by simp).raiseGroup g (by simp [Item.events])
      · next run => exact moves fun hr => by have := held hr; simp [locked]; omega
  · next locked =>
    rw [if_neg locked] at held
    split
    · split
      · have locks := (moves (locked := true) (inRun := 4) (outRun := 0) fun hr => by simp).raiseGroup g (e := .locked)
          (by simp [Item.events])
        split
        · exact locks.applyReference g
        · exact locks
      · next run => exact moves fun hr => by have := held hr; simp [locked]; omega
    · exact moves fun hr => by simp [locked, held hr]

theorem Books.countDigit (h : Books refs bounded Q s) (g : Fin 8) : Books refs bounded Q (countDigit g s) := by
  have counted := h.modGroup g
    (f := fun k =>
      { k with reference := { k.reference with sinceApply := min 64 ((s.group g).reference.sinceApply + 1) } })
    fun hk => hk.withReference ⟨hk.2.1, hk.2.2.1, by simp, hk.2.2.2.2⟩
  unfold Machine.countDigit
  simp only
  split
  · exact counted.applyReference g
  · exact counted

theorem Books.configureReference (h : Books refs bounded Q s) (g : Fin 8) (old : Group) :
    Books refs bounded Q (configureReference g old s) := by
  unfold Machine.configureReference
  simp only
  split
  · exact h.applyReference g
  · split
    · refine h.setThresholds g fun hk => ?_
      obtain ⟨par, lo, hi, count, -, -, -, -, runs⟩ := hk
      obtain ⟨bmLo, bmHi, -⟩ := par .ovrBm
      obtain ⟨idLo, idHi, -⟩ := par .ovrId
      exact ⟨lo, hi, count, bmLo, bmHi, idLo, idHi, runs⟩
    · exact h

theorem Books.setReference (h : Books refs bounded Q s) (g : Fin 8) (v : Nat) :
    Books refs bounded Q (setReference g v s) := by
  have stored := h.modGroup g
    (f := fun k =>
      { k with reference :=
          { k.reference with ref := max 800 (min 3200 v), locked := false, inRun := 0, outRun := 0 } })
    fun hk => by
      obtain ⟨par, -, -, count, bmLo, bmHi, idLo, idHi, -⟩ := hk
      exact ⟨par, by simp, by simp, count, bmLo, bmHi, idLo, idHi, by simp⟩
  unfold Machine.setReference
  simp only
  split
  · exact stored.raiseGroup g (by simp [Item.events])
  · exact stored

theorem Param.all_index (p : Param) : Param.all[p.index.val]? = some p := by cases p <;> rfl

theorem Param.index_injective : Function.Injective Param.index := fun p q e => by
  have same := Param.all_index p
  rw [e, Param.all_index q] at same
  exact (Option.some.inj same).symm

/-- Storing a clamped value keeps every parameter within its range. -/
theorem storeParams_admits (k : GroupChange) (params : Params) (h : ∀ p : Param, p.admits params[p.index]) (p : Param) :
    p.admits (storeParams k params)[p.index] := by
  unfold storeParams
  generalize k.params = l
  induction l generalizing params with
  | nil => exact h p
  | cons x l ih =>
    refine ih _ fun q => ?_
    by_cases hx : q = x.1
    · subst hx; simpa using Param.clamp_admits x.1 x.2
    · have hi : x.1.index.val ≠ q.index.val := fun e => hx (Param.index_injective (Fin.ext e)).symm
      simpa [Fin.getElem_fin, Vector.getElem_set_ne _ _ hi] using h q

theorem Group.Sound.storeGroup {k : Group} (h : k.Sound) (change : GroupChange) : (storeGroup change k).Sound :=
  ⟨fun p => storeParams_admits change k.params h.1 p, h.2⟩

end Books

end Sys2Proof.Machine

/-! PROOFS. The walk over the commands for the claims on groups and ports: what each act raises is an event of its item, and
whatever else it does to the books is one of the rules (`PortRules`). -/

namespace Sys2Proof.Machine

/-- The claims on the fields of the records alone, if they are asked for. -/
def Claims.fieldsIf (b : Prop) : Claims := { rest := False, digits := False, fields := b, counted := fun _ => True }

theorem Claims.not_pool_fieldsIf {b : Prop} : ¬ (Claims.fieldsIf b).pool := fun h => h.elim False.elim False.elim

section Walk

variable {refs bounded : Prop} {Q : PortRecord → Prop} {s t : State} {c : Fin 96} {u : Fin 16}

/-! ## The hunt (R24 to R34) -/

theorem Books.serveWaiting (h : Books refs bounded Q s) (c : Fin 96) (g : Fin 8) (id : SlotId) (call : SlotCall)
    (digits : List (Fin 10)) (eon : Bool) : Books refs bounded Q (serveWaiting c g id call digits eon s) := by
  have taken := (((SameBooks.refl s).modGroup g (f := fun k => { k with queue := k.queue.tail })
    fun _ => ⟨rfl, rfl⟩).setSlot id (.seizing call c)).enterOutSeizing c id digits eon
  exact (h.same taken).raiseSlot id (by simp [Item.events])

theorem Books.becomesIdle (h : Books refs bounded Q s) (c : Fin 96) : Books refs bounded Q (becomesIdle c s) := by
  obtain ⟨-, e⟩ | ⟨g, -, ⟨-, e⟩ | ⟨-, ⟨id, rest, call, digits, eon, expiry, -, -, e⟩ | e⟩⟩ := becomesIdle_cases s c
  · rw [e]; exact h
  · rw [e]; exact h.same ((SameBooks.refl s).modCircuit c _ |>.enterBlocked c)
  · rw [e]; exact h.serveWaiting c g id call digits eon
  · rw [e]; exact h.same ((SameBooks.refl s).enterIdle c g)

theorem Books.offerCall (h : Books refs bounded Q s) (c : Fin 96) : Books refs bounded Q (offerCall c s) := by
  unfold Machine.offerCall
  split
  · exact h
  next g _ =>
  simp only
  split
  all_goals
    have moved : SameBooks s (match (s.group g).distribution with
        | .alternate => s.modGroup g fun k => { k with nextPort := otherPort k.nextPort }
        | .fixedA | .fixedB => s) := by
      split
      · exact (SameBooks.refl s).modGroup g fun _ => ⟨rfl, rfl⟩
      all_goals exact SameBooks.refl s
    have offered := (h.same (moved.modCircuit c fun k =>
      { k with state := .inSeized, owner := s.offerOwner (s.group g).offerPort, timer := none })).raiseCircuit c
        (e := .offered) (by simp [Item.events])
  · exact offered.same ((SameBooks.refl _).requestUnit c .register)
  · exact offered

theorem Books.expireSlot (h : Books refs bounded Q s) (id : SlotId) : Books refs bounded Q (expireSlot id s) := by
  unfold Machine.expireSlot
  split
  · next call _ _ _ _ =>
    exact (h.same (((SameBooks.refl s).leaveQueue call.group id).setSlot id _)).raiseSlot id (by simp [Item.events])
  all_goals exact h

/-! ## Outgoing calls (R40 to R61) -/

theorem Books.autoClear {cause : Cause} {e : Event} (h : Books refs bounded Q s) (c : Fin 96)
    (fits : e ∈ (Item.circuit c).events) : Books refs bounded Q (autoClear c cause e s) := by
  have marked := (h.same ((SameBooks.refl s).modCircuit c fun k => { k with cause := cause })).raiseCircuit c fits
  exact marked.same ((SameBooks.refl _).clearForward c)

/-- An answer raises at most 24 digits discarded where its circuit holds at most 24. -/
theorem Books.recognizeAnswer (h : Books refs bounded Q s)
    (short : bounded → ((letGo c s).circuit c).digits.length ≤ 24) : Books refs bounded Q (recognizeAnswer c s) := by
  refine (h.same (((SameBooks.refl s).letGo c).modCircuit c _)).raiseAnswered c fun hb => ?_
  exact (Nat.sub_le _ _).trans (short hb)

theorem Books.recognizeClearBack (h : Books refs bounded Q s) (c : Fin 96) :
    Books refs bounded Q (recognizeClearBack c s) :=
  (h.same ((SameBooks.refl s).modCircuit c _)).raiseCircuit c (by simp [Item.events])

theorem Books.recognizeReanswer (h : Books refs bounded Q s) (c : Fin 96) :
    Books refs bounded Q (recognizeReanswer c s) :=
  (h.same ((SameBooks.refl s).modCircuit c _)).raiseCircuit c (by simp [Item.events])

theorem Books.entryTest (h : Books refs bounded Q s) (c : Fin 96) : Books refs bounded Q (entryTest c s) := by
  have same := SameBooks.refl s
  unfold Machine.entryTest
  simp only
  split
  · split
    · next u _ =>
      split
      · exact h.same ((same.modCircuit c _).resume u c)
      · split
        · exact h.same ((same.modCircuit c _).decideStart u c)
        · exact h.same (same.modCircuit c _)
      all_goals exact h.same (same.modCircuit c _)
    · split
      · exact h.same ((same.modCircuit c _).requestUnit c .sender)
      · exact h.same (same.modCircuit c _)
  · split
    · exact (h.same (((same.detachFrom c).withdraw c).modCircuit c _)).raiseCircuit c (by simp [Item.events])
    · exact h.same (same.startTimer c _)

/-- Within the fields of the records a circuit holds at most 24 digits. -/
theorem Kept.short (k : Kept (.fieldsIf bounded) s) (c : Fin 96) :
    bounded → ((Machine.letGo c s).circuit c).digits.length ≤ 24 := fun hb => ((k.letGo c).fields hb).1 c |>.1

theorem Kept.setState (k : Kept (.fieldsIf bounded) s) (c : Fin 96) (st : CircuitState) :
    Kept (.fieldsIf bounded) (s.modCircuit c fun k => { k with state := st }) :=
  ⟨fun hp => absurd hp Claims.not_pool_fieldsIf, False.elim, False.elim,
    fun hb => (k.fields hb).modCircuit ((k.fields hb).1 c)⟩

theorem Books.proceed (h : Books refs bounded Q s) (k : Kept (.fieldsIf bounded) s) (c : Fin 96) :
    Books refs bounded Q (proceed c s) := by
  have raised := (h.same ((SameBooks.refl s).modCircuit c fun k => { k with timer := none })).raiseCircuit c
    (e := .proceed) (by simp [Item.events])
  have tested := (raised.same (((SameBooks.refl _).breakLink c).modCircuit c fun k =>
    { k with state := .outSending })).entryTest c
  have sending := (((k.alike (Alike.stopTimer c)).raiseCircuit c .proceed).breakLink c).setState c .outSending
  have kept := sending.entryTest (c := c) fun hp => absurd hp Claims.not_pool_fieldsIf
  unfold Machine.proceed
  simp only
  split
  · exact tested.recognizeAnswer (kept.short c)
  · exact tested

theorem Books.expireGuardWait (h : Books refs bounded Q s) (c : Fin 96) : Books refs bounded Q (expireGuardWait c s) := by
  have raised := (h.same ((SameBooks.refl s).modCircuit c fun k => { k with cause := .guardFailed })).raiseCircuit c
    (e := .guardFailed) (by simp [Item.events])
  exact raised.same (((SameBooks.refl _).modCircuit c _).drive c .off)

theorem Books.recognizeGuard (h : Books refs bounded Q s) (c : Fin 96) : Books refs bounded Q (recognizeGuard c s) := by
  have raised := h.raiseCircuit c (e := .released) (by simp [Item.events])
  exact (raised.same ((SameBooks.refl _).modCircuit c _)).becomesIdle c

theorem Books.recognizeLateGuard (h : Books refs bounded Q s) (c : Fin 96) :
    Books refs bounded Q (recognizeLateGuard c s) :=
  (h.raiseCircuit c (e := .lateGuard) (by simp [Item.events])).becomesIdle c

/-! ## Glare (R88 to R99) -/

theorem Books.failGlare (h : Books refs bounded Q s) (id : SlotId) (call : SlotCall) :
    Books refs bounded Q (failGlare id call s) :=
  (h.same ((SameBooks.refl s).setSlot id _)).raiseSlot id (by simp [Item.events])

theorem Books.rehunt (h : Books refs bounded Q s) (id : SlotId) (call : SlotCall) (digits : List (Fin 10)) (eon : Bool) :
    Books refs bounded Q (rehunt id call digits eon s) := by
  have same := SameBooks.refl s
  unfold Machine.rehunt
  split
  · next d _ =>
    exact (h.same (((same.leaveIdleList d).setSlot id _).enterOutSeizing d id digits eon)).raiseSlot id
      (by simp [Item.events])
  · split
    · exact (h.same ((same.setSlot id _).modGroup call.group
        (f := fun k => { k with queue := id :: k.queue }) fun _ => ⟨rfl, rfl⟩)).raiseSlot id (by simp [Item.events])
    · exact h.failGlare id call

theorem Books.forgetSeized (h : Books refs bounded Q s) (id : SlotId) : Books refs bounded Q (forgetSeized id s) := by
  rw [forgetSeized_eq]
  exact h.modPort id.port (h.rules.forget id.num (h.ports id.port))

theorem Books.displaceCall (h : Books refs bounded Q s) (c : Fin 96) : Books refs bounded Q (displaceCall c s) := by
  have cleared := h.same ((SameBooks.refl s).modCircuit c fun k => { k with digits := [], eon := false, slot := none })
  unfold Machine.displaceCall
  simp only
  split
  · exact cleared
  · next id _ =>
    split
    · split
      · exact (cleared.forgetSeized id).rehunt id _ _ _
      · exact (cleared.forgetSeized id).failGlare id _
    all_goals exact cleared

theorem Books.yieldGlare (h : Books refs bounded Q s) (c : Fin 96) : Books refs bounded Q (yieldGlare c s) := by
  have off := h.same (((SameBooks.refl s).modCircuit c fun k => { k with timer := none }).drive c .off |>.letGo c)
  have displaced := (off.raiseCircuit c (e := .glareLost) (by simp [Item.events])).displaceCall c
  exact (displaced.same ((SameBooks.refl _).modCircuit c _)).offerCall c

theorem Books.holdGlare (h : Books refs bounded Q s) (c : Fin 96) : Books refs bounded Q (holdGlare c s) :=
  (h.same ((SameBooks.refl s).modCircuit c _)).raiseCircuit c (by simp [Item.events])

theorem Books.reachAckMax (h : Books refs bounded Q s) (c : Fin 96) : Books refs bounded Q (reachAckMax c s) := by
  have failed : ∀ cause, Books refs bounded Q (Machine.autoClear c cause .seizeFailed s) :=
    fun _ => h.autoClear c (by simp [Item.events])
  unfold Machine.reachAckMax
  split
  · exact failed _
  split
  · split
    · split
      · exact h.holdGlare c
      · exact h.yieldGlare c
    all_goals exact failed _
  · exact failed _

/-! ## Incoming calls (R64 to R87) -/

theorem Books.congestRegister (h : Books refs bounded Q s) (c : Fin 96) : Books refs bounded Q (congestRegister c s) :=
  (h.same ((SameBooks.refl s).withdraw c)).raiseCircuit c (by simp [Item.events])

theorem Books.loseDigits (h : Books refs bounded Q s) (c : Fin 96) : Books refs bounded Q (loseDigits c s) :=
  (h.same (((SameBooks.refl s).withdraw c).modCircuit c _)).raiseCircuit c (by simp [Item.events])

theorem Books.holdCall (h : Books refs bounded Q s) (c : Fin 96) : Books refs bounded Q (holdCall c s) :=
  h.same (((SameBooks.refl s).modCircuit c _).detachFrom c)

theorem Books.receiveDigit (h : Books refs bounded Q s) (c : Fin 96) (d : Fin 10) :
    Books refs bounded Q (receiveDigit c d s) := by
  unfold Machine.receiveDigit
  split
  · exact (h.same (((SameBooks.refl s).modCircuit c _).startTimer c _)).raiseCircuit c (by simp [Item.events])
  · exact (h.raiseCircuit c (e := .digitOverflow) (by simp [Item.events])).holdCall c

theorem Books.timeOutDigits (h : Books refs bounded Q s) (c : Fin 96) : Books refs bounded Q (timeOutDigits c s) :=
  (h.raiseCircuit c (e := .digitTimeout) (by simp [Item.events])).holdCall c

theorem Books.endAckPulse (h : Books refs bounded Q s) (c : Fin 96) : Books refs bounded Q (endAckPulse c s) := by
  unfold Machine.endAckPulse
  simp only
  split
  all_goals exact h.same (SameBooks.refl s)

theorem Books.answerCall (h : Books refs bounded Q s) (c : Fin 96) : Books refs bounded Q (answerCall c s) := by
  have passed := ((SameBooks.refl s).modCircuit c fun k => { k with state := .inAnswered, timer := none }).detachFrom c
  unfold Machine.answerCall
  simp only
  split
  · exact h.same passed
  · exact h.same passed

theorem Books.clearBackCall (h : Books refs bounded Q s) (c : Fin 96) : Books refs bounded Q (clearBackCall c s) := by
  unfold Machine.clearBackCall
  simp only
  split
  all_goals exact h.same (SameBooks.refl s)

theorem Books.recognizeClearForward (h : Books refs bounded Q s) (c : Fin 96) :
    Books refs bounded Q (recognizeClearForward c s) := by
  have cut := (((SameBooks.refl s).letGo c).modCircuit c fun k => { k with timer := none, ansDue := none }).cutAckPulse c
  have raised := (h.same cut).raiseCircuit c (e := .clearedForward) (by simp [Item.events])
  exact raised.same (((SameBooks.refl _).modCircuit c _).beginGuard c _)

theorem Books.endGuard (h : Books refs bounded Q s) (c : Fin 96) : Books refs bounded Q (endGuard c s) :=
  (h.same ((SameBooks.refl s).drive c .off |>.modCircuit c _)).becomesIdle c

theorem Books.reportFarSeize (h : Books refs bounded Q s) (c : Fin 96) : Books refs bounded Q (reportFarSeize c s) :=
  (h.same ((SameBooks.refl s).modCircuit c _)).raiseCircuit c (by simp [Item.events])

/-! ## Pulsing (R117 to R122) -/

theorem Books.startDigit (h : Books refs bounded Q s) (u : Fin 16) : Books refs bounded Q (startDigit u s) := by
  unfold Machine.startDigit
  split
  · exact h.same ((SameBooks.refl s).beginDigit u _)
  · exact h

theorem Books.endDigit (h : Books refs bounded Q s) (u : Fin 16) (c : Fin 96) : Books refs bounded Q (endDigit u c s) := by
  have counted := (SameBooks.refl s).modCircuit c fun k =>
    { k with sent := k.sent + 1, lastBrkEnd := s.timeBase, idSend := s.par c .idSend }
  unfold Machine.endDigit
  simp only
  split
  · exact h.same (counted.modUnit u _)
  · split
    · exact (h.same ((counted.detach u).modCircuit c _)).raiseCircuit c (by simp [Item.events])
    · exact h.same ((counted.startTimer c _).endWithoutEon u c)

theorem Books.endBreak (h : Books refs bounded Q s) (u : Fin 16) : Books refs bounded Q (endBreak u s) := by
  unfold Machine.endBreak
  split
  · split
    · exact h.same ((SameBooks.refl s).modUnit u _)
    · exact h.endDigit u _
  · exact h

theorem Books.endMake (h : Books refs bounded Q s) (u : Fin 16) : Books refs bounded Q (endMake u s) := by
  unfold Machine.endMake
  split
  · exact h.same ((SameBooks.refl s).modUnit u _)
  · exact h

theorem Books.markLong (h : Books refs bounded Q s) (u : Fin 16) : Books refs bounded Q (markLong u s) :=
  h.same ((SameBooks.refl s).modUnit u _)

theorem Books.completeDigit (h : Books refs bounded Q s) (u : Fin 16) : Books refs bounded Q (completeDigit u s) := by
  have waits := h.same ((SameBooks.refl s).modUnit u DigitUnit.awaitDigit)
  unfold Machine.completeDigit
  split
  · next c _ =>
    simp only
    split
    · split
      · exact (waits.receiveDigit c _).countDigit _
      · exact waits.receiveDigit c _
    · exact waits.raiseCircuit c (by simp [Item.events])
  · exact h

theorem Books.handPeriod (h : Books refs bounded Q s) (c : Fin 96) (start : Option Time) :
    Books refs bounded Q (handPeriod c start s) := by
  unfold Machine.handPeriod
  split
  · simp only
    split
    · next within => exact h.takePeriod _ within.2
    · exact h
  all_goals exact h

theorem Books.registerOff (h : Books refs bounded Q s) (u : Fin 16) (c : Fin 96) :
    Books refs bounded Q (registerOff u c s) := by
  unfold Machine.registerOff
  simp only
  split
  · exact h.same ((SameBooks.refl s).modUnit u _)
  · exact (h.same ((SameBooks.refl s).modUnit u _)).handPeriod c _
  all_goals exact h

theorem Books.registerOn (h : Books refs bounded Q s) (u : Fin 16) (c : Fin 96) :
    Books refs bounded Q (registerOn u c s) := by
  unfold Machine.registerOn
  simp only
  split
  · split
    · exact (h.same ((SameBooks.refl s).modUnit u _)).raiseCircuit c (by simp [Item.events])
    · exact h.same ((SameBooks.refl s).modUnit u _)
  all_goals exact h

theorem Books.registerTransition (h : Books refs bounded Q s) (c : Fin 96) (cond : Cond) :
    Books refs bounded Q (registerTransition c cond s) := by
  unfold Machine.registerTransition
  split
  · split
    · exact h.registerOn _ c
    · exact h.registerOff _ c
  · exact h

/-! ## The receive path (R3 to R6, R178, R179) -/

theorem Books.countMatch (h : Books refs bounded Q s) (w : Fin 8) : Books refs bounded Q (countMatch w s) :=
  Books.raiseMatched (s := s.setWatch w _) (h.same (SameBooks.refl s)) w _

theorem Books.watchTransition (h : Books refs bounded Q s) (c : Fin 96) (cond : Cond) :
    Books refs bounded Q (watchTransition c cond s) := by
  have setForce : ∀ {t : State} {f k}, Books refs bounded Q t → Books refs bounded Q (t.setForce f k) :=
    fun ht => ht.same (SameBooks.refl _)
  unfold Machine.watchTransition
  simp only
  exact Books.foldl (fun _ _ => setForce) _ _ (Books.foldl (fun _ w ht => ht.countMatch w) _ _ h)

theorem Books.supervisionOn (h : Books refs bounded Q s) (c : Fin 96) : Books refs bounded Q (supervisionOn c s) := by
  have same := SameBooks.refl s
  unfold Machine.supervisionOn
  simp only
  split
  · split
    · exact h.same (same.enterPreseize c)
    · exact h
  all_goals exact h.same same

theorem Books.seizingOff (h : Books refs bounded Q s) (k : Kept (.fieldsIf bounded) s) (c : Fin 96) (width : Nat)
    (held : Held) : Books refs bounded Q (seizingOff c width held s) := by
  have off := h.same ((SameBooks.refl s).modCircuit c fun r => { r with presentOn := false })
  unfold Machine.seizingOff
  simp only
  split
  · split
    all_goals exact off.same (SameBooks.refl _)
  · split
    · exact off.proceed (k.alike (Alike.setPresentOn c _)) c
    · exact off

theorem Books.supervisionOff (h : Books refs bounded Q s) (k : Kept (.fieldsIf bounded) s) (c : Fin 96) (width : Nat)
    (held : Held) : Books refs bounded Q (supervisionOff c width held s) := by
  have same := SameBooks.refl s
  have off := h.same ((SameBooks.refl s).modCircuit c fun r => { r with presentOn := false })
  unfold Machine.supervisionOff
  simp only
  split
  · exact (h.same (same.modCircuit c _)).becomesIdle c
  · exact h.same (same.modCircuit c _)
  · split
    · exact h.loseDigits c
    · exact h
  · exact h.seizingOff k c width held
  · split
    · exact off.recognizeGuard c
    · exact off
  · split
    · exact off.recognizeLateGuard c
    · exact off
  all_goals exact h

theorem Books.reachedFirst (h : Books refs bounded Q s) (k : Kept (.fieldsIf bounded) s) (c : Fin 96) :
    Books refs bounded Q (reachedFirst c s) := by
  unfold Machine.reachedFirst
  extract_lets t'
  have supervised : Books refs bounded Q t' := by
    unfold t'
    split
    · exact h.offerCall c
    split
    · exact h.reportFarSeize c
    split
    · exact h.reachAckMax c
    split
    · exact h.recognizeAnswer (k.short c)
    split
    · exact h.recognizeClearBack c
    split
    · exact h.recognizeReanswer c
    split
    · exact h.recognizeClearForward c
    · exact h
  split
  · split
    · exact supervised.completeDigit _
    · split
      · exact supervised.markLong _
      · exact supervised
  · exact supervised

theorem Books.acceptCandidate (h : Books refs bounded Q s) (k : Kept (.fieldsIf bounded) s) (c : Fin 96) :
    Books refs bounded Q (acceptCandidate c s) := by
  have first := h.reachedFirst k c
  have kept := k.reachedFirst (c := c) False.elim
  unfold Machine.acceptCandidate
  simp only
  refine (Books.registerTransition ?_ c _).watchTransition c _
  split
  · refine Books.supervisionOn ?_ c
    exact first.same (SameBooks.refl _)
  · refine Books.supervisionOff ?_ ?_ c _ _
    · exact first.same (SameBooks.refl _)
    · exact (kept.alike (Alike.setFilter c _)).alike
        (Alike.modCircuit ⟨rfl, rfl, rfl, rfl, rfl, rfl, rfl, rfl, rfl, rfl⟩)

theorem Books.beginCandidate (h : Books refs bounded Q s) (c : Fin 96) :
    Books refs bounded Q (beginCandidate c s) := h.same (SameBooks.refl s)

theorem Books.changeRaw (h : Books refs bounded Q s) (k : Kept (.fieldsIf bounded) s) (c : Fin 96) :
    Books refs bounded Q (changeRaw c s) := by
  unfold Machine.changeRaw
  split
  · exact h.beginCandidate c
  · split
    · exact (h.acceptCandidate k c).beginCandidate c
    · exact h.same (SameBooks.refl s)

end Walk

end Sys2Proof.Machine

/-! PROOFS. The walk over the commands for the claims on groups and ports, continued: the orders, the working of a port, PEN,
the restart and the reset; and the claims of the references, the lists and the events (R16, R123, R152 to R155). -/

namespace Sys2Proof.Machine

section Orders

variable {refs bounded : Prop} {Q : PortRecord → Prop} {s t : State} {p : Port}

/-! ## The call orders (R35 to R38, R49, R50, R57, R77 to R81) -/

theorem Books.orderSeize (h : Books refs bounded Q s) (p : Port) (ws : List Word) :
    Books refs bounded Q (orderSeize p ws s).1 := by
  have same := SameBooks.refl s
  have seizes : ∀ id call digits eon, Books refs bounded Q (seizeCircuit id call digits eon s).1 := fun id call _ _ => by
    unfold Machine.seizeCircuit
    split
    · next c _ => exact h.same (((same.leaveIdleList c).setSlot id _).enterOutSeizing c id _ _)
    · split
      · exact h.same ((same.setSlot id _).modGroup call.group (f := fun k => { k with queue := k.queue ++ [id] })
          fun _ => ⟨rfl, rfl⟩)
      · exact h
  unfold Machine.orderSeize
  simp only
  split
  · exact h
  split
  · exact h
  split
  · exact h
  split
  · exact h
  split
  · exact h
  split
  · exact h
  · exact seizes _ _ _ _

theorem Books.extendDigits (h : Books refs bounded Q s) (c : Fin 96) (digits : List (Fin 10)) (eon : Bool) :
    Books refs bounded Q (extendDigits c digits eon s) := by
  have extended := (SameBooks.refl s).modCircuit c fun k => { k with digits := k.digits ++ digits, eon := k.eon || eon }
  unfold Machine.extendDigits
  simp only
  split
  · split
    · exact h.same (extended.requestUnit c .sender)
    · exact h.same extended
  · exact (h.same extended).entryTest c

theorem Books.orderAddDigits (h : Books refs bounded Q s) (p : Port) (ws : List Word) :
    Books refs bounded Q (orderAddDigits p ws s).1 := by
  unfold Machine.orderAddDigits
  simp only
  split
  · exact h
  split
  · exact h
  split
  · exact h
  split
  · exact h
  split
  · exact h
  · exact h.extendDigits _ _ _

theorem Books.ownedOrder {allowed : CircuitState → Bool} {act : Fin 96 → State → State} (h : Books refs bounded Q s)
    (acts : ∀ c, Books refs bounded Q (act c s)) (p : Port) (ws : List Word) :
    Books refs bounded Q (ownedOrder allowed act p ws s).1 := by
  unfold Machine.ownedOrder
  split
  · exact h
  split
  · exact h
  split
  · exact h
  · exact acts _

theorem Books.orderCancel (h : Books refs bounded Q s) (p : Port) (ws : List Word) :
    Books refs bounded Q (orderCancel p ws s).1 := by
  unfold Machine.orderCancel
  simp only
  split
  · exact h
  next n _ =>
  generalize (if bitSet (wordAt ws 1) 7 then Port.B else Port.A) = named
  split
  · exact h
  split
  · next call _ _ _ _ =>
    have freed := h.same (((SameBooks.refl s).leaveQueue call.group { port := p, num := n }).setSlot
      { port := p, num := n } .free)
    exact freed.modPort p (f := fun r => (r.setPend (.slot n) EventSet.empty).leave (.slot n))
      (freed.rules.discard _ (freed.ports p))
  all_goals exact h

/-! ## The maintenance orders (R21 to R23, R115, R132, R133, R164 to R182) -/

theorem Books.configureGroup (h : Books refs bounded Q s) (g : Fin 8) (k : GroupChange) :
    Books refs bounded Q (configureGroup g k s) := by
  have unparked : ∀ {t} old, Books refs bounded Q t → Books refs bounded Q (unparkGroup g old t) := fun old ht => by
    unfold Machine.unparkGroup
    simp only
    split
    · exact Books.foldl (fun t u ht => ht.same ((SameBooks.refl t).detach u)) _ _ ht
    · exact ht
  have turned : ∀ {t} old, Books refs bounded Q t → Books refs bounded Q (turnIncoming g old t) := fun old ht => by
    unfold Machine.turnIncoming
    split
    · exact Books.foldl (fun t c ht => ht.same ((SameBooks.refl t).enterPreseize c)) _ _ ht
    · exact ht
  exact turned _ ((unparked _ (h.modGroup g fun hk => hk.storeGroup k)).configureReference g _)

theorem Books.orderConfigureGroup (h : Books refs bounded Q s) (p : Port) (ws : List Word) :
    Books refs bounded Q (orderConfigureGroup p ws s).1 := by
  unfold Machine.orderConfigureGroup
  split
  · exact h
  split
  · exact h
  split
  · exact h
  split
  · exact h
  · exact h.configureGroup _ _

theorem Books.assignCircuit (h : Books refs bounded Q s) (c : Fin 96) (group : Option (Fin 8)) (trunkNo : Nat) :
    Books refs bounded Q (assignCircuit c group trunkNo s) := by
  unfold Machine.assignCircuit
  simp only
  split
  · split
    all_goals exact h.same (SameBooks.refl s)
  · exact h.same (SameBooks.refl s)

theorem Books.orderAssignCircuit (h : Books refs bounded Q s) (p : Port) (ws : List Word) :
    Books refs bounded Q (orderAssignCircuit p ws s).1 := by
  have placed : ∀ c group trunkNo, Books refs bounded Q
      (if (s.circuit c).state ≠ .unequipped ∧ (s.circuit c).state ≠ .blocked then refuse .wrongState s
        else accept (Machine.assignCircuit c group trunkNo s)).1 := fun c group trunkNo => by
    split
    · exact h
    · exact h.assignCircuit c group trunkNo
  unfold Machine.orderAssignCircuit
  simp only
  split
  · exact h
  split
  · exact h
  split
  · exact placed _ _ _
  split
  · exact h
  split
  · exact h
  · exact placed _ _ _

theorem Books.circuitOrder {act : Fin 96 → State → State × List Word} (h : Books refs bounded Q s)
    (acts : ∀ c, Books refs bounded Q (act c s).1) (ws : List Word) : Books refs bounded Q (circuitOrder act ws s).1 := by
  unfold Machine.circuitOrder
  split
  · exact h
  · exact acts _

theorem Books.blockCircuit (h : Books refs bounded Q s) (c : Fin 96) : Books refs bounded Q (blockCircuit c s).1 := by
  unfold Machine.blockCircuit
  split
  · exact h
  · exact h.same (((SameBooks.refl s).leaveIdleList c).enterBlocked c)
  · exact h
  all_goals exact h.same (SameBooks.refl s)

theorem Books.unblockCircuit (h : Books refs bounded Q s) (c : Fin 96) :
    Books refs bounded Q (unblockCircuit c s).1 := by
  unfold Machine.unblockCircuit
  split
  · exact (h.same ((SameBooks.refl s).modCircuit c _)).becomesIdle c
  · exact h.same (SameBooks.refl s)

theorem Books.resetFault (h : Books refs bounded Q s) (c : Fin 96) : Books refs bounded Q (resetFault c s).1 := by
  unfold Machine.resetFault
  split
  · exact h.becomesIdle c
  · exact h

theorem Books.unitOrder {act : Fin 16 → State → State} (h : Books refs bounded Q s)
    (acts : ∀ u, SameBooks s (act u s)) (ws : List Word) : Books refs bounded Q (unitOrder act ws s).1 := by
  unfold Machine.unitOrder
  split
  · exact h
  · exact h.same (acts _)

theorem SameBooks.takeUnitOut (u : Fin 16) (s : State) : SameBooks s (takeUnitOut u s) := by
  have same := SameBooks.refl s
  unfold Machine.takeUnitOut
  split
  · exact same
  · exact same
  · exact (same.unlinkUnit u).modUnit u _
  all_goals exact same

theorem SameBooks.bringUnitIn (u : Fin 16) (s : State) : SameBooks s (bringUnitIn u s) := by
  have same := SameBooks.refl s
  unfold Machine.bringUnitIn
  split
  · exact (same.modUnit u _).becomeAvailable u
  all_goals exact same

theorem Books.orderReferenceApply (h : Books refs bounded Q s) (p : Port) (ws : List Word) :
    Books refs bounded Q (orderReferenceApply p ws s).1 := by
  unfold Machine.orderReferenceApply
  split
  · exact h
  split
  · exact h.applyReference _
  · exact h

theorem Books.orderReferenceSet (h : Books refs bounded Q s) (p : Port) (ws : List Word) :
    Books refs bounded Q (orderReferenceSet p ws s).1 := by
  unfold Machine.orderReferenceSet
  simp only
  split
  · exact h
  · exact h.setReference _ _

theorem Books.orderWatchSet (h : Books refs bounded Q s) (p : Port) (ws : List Word) :
    Books refs bounded Q (orderWatchSet p ws s).1 := by
  unfold Machine.orderWatchSet
  simp only
  split
  · exact h.same (SameBooks.refl s)
  · exact h

theorem Books.orderForceSet (h : Books refs bounded Q s) (p : Port) (ws : List Word) :
    Books refs bounded Q (orderForceSet p ws s).1 := by
  unfold Machine.orderForceSet
  simp only
  split
  · exact h.same (SameBooks.refl s)
  · exact h

/-! ## RESTART CALLS and device reset -/

theorem SameBooks.restartCircuit (h : SameBooks s t) (c : Fin 96) : SameBooks s (restartCircuit c t) := by
  have cleared := h.modCircuit c fun k => { k with unit := none, unitReq := none, slot := none }
  unfold Machine.restartCircuit
  simp only
  split
  case h_1 | h_2 | h_3 | h_4 | h_5 => exact cleared.releaseForward c
  case h_6 | h_7 | h_8 | h_9 | h_10 => exact cleared.cutAckPulse c
  all_goals exact cleared

theorem Books.emptyAtRestart (h : Books refs bounded Q s) : Books refs bounded Q (emptyAtRestart s) := by
  have restarted (r : PortRecord) (hr : Q r) : Q r.restarted :=
    h.rules.carry (h.rules.clear (h.rules.unmerged hr)) ⟨rfl, rfl, rfl⟩
  refine ⟨h.rules, fun hr g => ?_, fun p => ?_⟩
  · rw [emptyAtRestart_group]
    exact h.groups hr g
  · cases p
    · exact restarted _ (h.ports .A)
    · exact restarted _ (h.ports .B)

theorem Books.orderRestartCalls (h : Books refs bounded Q s) (p : Port) (ws : List Word) :
    Books refs bounded Q (orderRestartCalls p ws s).1 := by
  unfold Machine.orderRestartCalls accept
  dsimp only
  exact Books.foldl (f := fun s c => restartCircuit c s) (fun t c ht => ht.same ((SameBooks.refl t).restartCircuit c))
    allCircuits _ h.emptyAtRestart

theorem Group.reset_sound : Group.reset.Sound :=
  ⟨fun p => by cases p <;> (unfold Param.admits; decide), by unfold Reference.Sound; decide⟩

theorem State.reset_group (g : Fin 8) : State.reset.group g = Group.reset := by simp [State.reset, State.group]

theorem State.reset_referencesSound : ReferencesSound State.reset := fun g => by
  rw [State.reset_group]; exact Group.reset_sound

/-- After either edge of RESET the groups are at their reset values, and so are the books of the ports. -/
theorem Books.of_reset (rules : PortRules bounded Q) (groups : s.groups = State.reset.groups)
    (ports : PortRecord.reset.SameBooks s.portA ∧ PortRecord.reset.SameBooks s.portB) : Books refs bounded Q s := by
  refine ⟨rules, fun _ => State.reset_referencesSound.same ⟨fun g => by simp [State.group, groups], ports⟩, fun p => ?_⟩
  cases p
  · exact rules.same ports.1 rules.reset
  · exact rules.same ports.2 rules.reset

/-! ## The working of a port (R136 to R143, R156 to R159) -/

theorem Books.abandonReport (h : Books refs bounded Q s) (p : Port) : Books refs bounded Q (abandonReport p s) := by
  unfold Machine.abandonReport
  split
  · exact h
  · next k hk =>
    split
    · exact h.modPort p (h.rules.merge hk (h.ports p))
    · exact h.modPort p (h.rules.drop (h.ports p))

theorem Books.samePort (h : Books refs bounded Q s) (p : Port) {f : PortRecord → PortRecord}
    (hf : ∀ r : PortRecord, r.SameBooks (f r)) : Books refs bounded Q (s.modPort p f) :=
  h.same ((SameBooks.refl s).modPort p hf)

theorem PortRecord.SameBooks.abandonOrder (r : PortRecord) : r.SameBooks r.abandonOrder := by
  unfold PortRecord.abandonOrder
  split <;> exact .refl r

theorem PortRecord.SameBooks.setSelect (r : PortRecord) (sel : Select) (level : Bool) :
    r.SameBooks (r.setSelect sel level) := by cases sel <;> exact .refl r

theorem Books.answerResultRead (h : Books refs bounded Q s) (p : Port) : Books refs bounded Q (answerResultRead p s) :=
  ((h.samePort p PortRecord.SameBooks.abandonOrder).abandonReport p).samePort p fun r => .refl r

theorem Books.beginReport (h : Books refs bounded Q s) (p : Port) (it : Item) :
    Books refs bounded Q (beginReport p it s) := by
  have settled : SameBooks s (settleSlot p it s) := by
    unfold Machine.settleSlot
    split
    · split
      · exact (SameBooks.refl s).setSlot _ _
      all_goals exact SameBooks.refl s
    all_goals exact SameBooks.refl s
  have pend : ((settleSlot p it s).port p).pendOf it = (s.port p).pendOf it := by
    simp [PortRecord.pendOf, (settled.port p).1]
  have began := h.same settled
  unfold Machine.beginReport
  simp only
  refine began.modPort p ?_
  unfold PortRecord.presentReport
  simp only
  split
  · exact h.rules.carry (h.rules.drop (h.rules.discard it (began.ports p))) ⟨rfl, rfl, rfl⟩
  · rw [← pend]
    exact h.rules.carry (h.rules.begin_ it _ _ _ (began.ports p)) ⟨rfl, rfl, rfl⟩

theorem Books.answerReportRead (h : Books refs bounded Q s) (p : Port) : Books refs bounded Q (answerReportRead p s) := by
  have quiet := h.samePort p (f := fun r => { r.abandonOrder with resultPos := 1 }) PortRecord.SameBooks.abandonOrder
  unfold Machine.answerReportRead
  simp only
  split
  · next k hk =>
    refine quiet.modPort p ?_
    unfold PortRecord.presentReport
    simp only
    split
    · exact h.rules.carry (h.rules.drop (quiet.ports p)) ⟨rfl, rfl, rfl⟩
    · exact h.rules.carry (h.rules.advance _ hk (quiet.ports p)) ⟨rfl, rfl, rfl⟩
  · split
    · exact quiet.beginReport p _
    · exact quiet.samePort p fun r => .refl r

theorem Books.answerReportWrite (h : Books refs bounded Q s) (p : Port) :
    Books refs bounded Q (answerReportWrite p s) := h.samePort p PortRecord.SameBooks.abandonOrder

theorem Books.orderBody (h : Books refs bounded Q s) (kind : OrderKind) (p : Port) (ws : List Word) :
    Books refs bounded Q (orderBody kind p ws s).1 := by
  have same := SameBooks.refl s
  cases kind with
  | seize => exact h.orderSeize p ws
  | addDigits => exact h.orderAddDigits p ws
  | clear => exact h.ownedOrder (fun c => h.same (same.clearForward c)) p ws
  | cancel => exact h.orderCancel p ws
  | answer => exact h.ownedOrder (fun c => h.answerCall c) p ws
  | clearBack => exact h.ownedOrder (fun c => h.clearBackCall c) p ws
  | releaseRegister => exact h.ownedOrder (fun c => h.holdCall c) p ws
  | readCircuit => unfold Machine.orderBody orderReadCircuit; simp only; split <;> exact h
  | readGroup => unfold Machine.orderBody orderReadGroup; simp only; split <;> exact h
  | readUnit => unfold Machine.orderBody orderReadUnit; simp only; split <;> exact h
  | configureGroup => exact h.orderConfigureGroup p ws
  | assignCircuit => exact h.orderAssignCircuit p ws
  | block => exact h.circuitOrder h.blockCircuit ws
  | unblock => exact h.circuitOrder h.unblockCircuit ws
  | resetCircuit => exact h.circuitOrder h.resetFault ws
  | unitServiceOff => exact h.unitOrder (fun u => SameBooks.takeUnitOut u s) ws
  | unitServiceOn => exact h.unitOrder (fun u => SameBooks.bringUnitIn u s) ws
  | referenceControlApply => exact h.orderReferenceApply p ws
  | referenceControlSet => exact h.orderReferenceSet p ws
  | watchSet => exact h.orderWatchSet p ws
  | forceSet => exact h.orderForceSet p ws
  | restartCalls => exact h.orderRestartCalls p ws

theorem Books.takeOrder (h : Books refs bounded Q s) (kind : OrderKind) (p : Port) (w : Word) (mperm : Bool) :
    Books refs bounded Q (takeOrder kind (Machine.orderBody kind) p w mperm s) := by
  have ready := h.abandonReport p
  unfold Machine.takeOrder
  simp only
  split
  · exact ready.samePort p fun r => .refl r
  · exact ((ready.samePort p (f := fun r => { r with assembly := .empty }) fun r => .refl r).orderBody
      kind p _).samePort p fun r => .refl r

theorem Books.takeWord (h : Books refs bounded Q s) (p : Port) (w : Word) : Books refs bounded Q (takeWord p w s) := by
  have ready := h.abandonReport p
  unfold Machine.takeWord
  simp only
  split
  · exact ready.samePort p fun r => .refl r
  · exact ready.samePort p fun r => .refl r

theorem Books.assertSelect {sel : Select} {beside : Bool} {act : State → State} (h : Books refs bounded Q s)
    (acts : ∀ t, Books refs bounded Q t → Books refs bounded Q (act t)) :
    Books refs bounded Q (assertSelect p sel beside act s) := by
  have stands := h.samePort p fun r => PortRecord.SameBooks.setSelect r sel true
  unfold Machine.assertSelect
  simp only
  split
  · exact h
  · split
    · exact stands.samePort p fun r => PortRecord.SameBooks.setSelect r _ true
    · split
      · exact acts _ stands
      · exact stands

theorem Books.orderWrite (h : Books refs bounded Q s) (kind : OrderKind) (w : OrderWrite) :
    Books refs bounded Q (orderWrite kind (Machine.orderBody kind) w s) := by
  unfold Machine.orderWrite
  split
  · exact h.assertSelect fun t ht => ht.takeOrder kind _ _ _
  · exact h

theorem Books.plainWrite (h : Books refs bounded Q s) (w : OrderWrite) : Books refs bounded Q (plainWrite w s) := by
  unfold Machine.plainWrite
  split
  · exact h.assertSelect fun t ht => ht.takeWord _ _
  · exact h

theorem Books.beginOther (h : Books refs bounded Q s) (p : Port) (d : Deassertion) :
    Books refs bounded Q (beginOther p d s) := by
  unfold Machine.beginOther
  split
  · unfold answerOrderWrite
    split
    · exact h.takeOrder _ _ _ _
    · exact h.takeWord _ _
  · exact h.answerReportWrite p
  · exact h.answerResultRead p
  · exact h.answerReportRead p

theorem Books.deassertSelect (h : Books refs bounded Q s) (p : Port) (d : Deassertion) :
    Books refs bounded Q (deassertSelect p d s) := by
  have freed := h.samePort p (f := fun r => r.released d.select) fun r => PortRecord.SameBooks.setSelect r _ false
  unfold Machine.deassertSelect
  simp only
  split
  · split
    · exact freed.beginOther p d
    · exact freed
  · exact h

/-! ## The PEN lines (R148 to R150) -/

theorem Books.transferAll (h : Books refs bounded Q s) (x y : Port) : Books refs bounded Q (transferAll x y s) := by
  refine Books.foldl (fun t c ht => ?_) _ _ h
  have lost := (ht.same ((SameBooks.refl t).modCircuit c fun k => { k with owner := some y })).modPort x
    (f := fun r => (r.setPend (.circuit c) EventSet.empty).leave (.circuit c))
    (h.rules.discard _ (ht.ports x))
  exact lost.modPort y (f := fun r => (r.setPend (.circuit c)
    ((((t.port x).pendOf (.circuit c)).union (r.pendOf (.circuit c))).add .transferred)).join (.circuit c))
    (h.rules.transfer c (ht.ports x) (lost.ports y))

theorem SameBooks.dropSlot (id : SlotId) (s : State) : SameBooks s (dropSlot id s) := by
  have same := SameBooks.refl s
  unfold Machine.dropSlot
  split
  · exact same
  · next call _ _ _ _ => exact (same.leaveQueue call.group id).setSlot id _
  · exact (same.modCircuit _ _).setSlot id _
  · exact same.setSlot id _

theorem Books.fallPen (h : Books refs bounded Q s) (x : Port) : Books refs bounded Q (fallPen x s) := by
  have dropped : Books refs bounded Q (allSixteen.foldl (fun s n => Machine.dropSlot { port := x, num := n } s)
      (Machine.abandonReport x (s.modPort x fun r => { r with enabled := false }))) :=
    Books.foldl (fun t n ht => ht.same (SameBooks.dropSlot _ t)) _ _ ((h.samePort x (f := fun r => { r with enabled := false }) fun r => .refl r).abandonReport x)
  have emptied := dropped.modPort x (h.rules.dropSlotItems (dropped.ports x))
  unfold Machine.fallPen
  simp only
  split
  · exact emptied.transferAll x _
  · exact emptied

theorem Books.risePen (h : Books refs bounded Q s) (x : Port) : Books refs bounded Q (risePen x s) := by
  have enabled := h.samePort x (f := fun r => { r with enabled := true }) fun r => .refl r
  unfold Machine.risePen
  simp only
  split
  · exact enabled
  · refine Books.transferAll ?_ _ x
    split
    · exact enabled.abandonReport _
    · exact enabled

end Orders

section Commands

variable {P : State → Prop} {refs bounded : Prop} {Q : PortRecord → Prop} {s t : State}

/-! ## Commands -/

/-- A predicate holds in the state that an outcome leads to. -/
def Leads (P : State → Prop) (o : Host.Outcome State Fault Refusal) : Prop := ∀ t, o = .next t → P t

theorem Leads.of (h : P t) : Leads P (.next t) := fun _ e => Host.Outcome.next.inj e ▸ h

theorem Leads.unlessReset {act : State → State} (h : P s) (acts : P (act s)) : Leads P (unlessReset act s) := by
  refine .of ?_
  split
  · exact h
  · exact acts

/-- A step on a circuit keeps what its act keeps at the instants at which it is due. -/
theorem Leads.onCircuit {due : Fin 96 → State → Bool} {act : Fin 96 → State → State} (h : P s)
    (acts : ∀ c, due c s = true → P (act c s)) (n : Nat) : Leads P (onCircuit n due act s) := by
  unfold Machine.onCircuit
  split
  · next c _ =>
    refine .unlessReset h ?_
    split
    · next hd => exact acts c hd
    · exact h
  · exact fun _ e => nomatch e

theorem Leads.onUnit {due : Fin 16 → State → Bool} {act : Fin 16 → State → State} (h : P s)
    (acts : ∀ u, due u s = true → P (act u s)) (n : Nat) : Leads P (onUnit n due act s) := by
  unfold Machine.onUnit
  split
  · next u _ =>
    refine .unlessReset h ?_
    split
    · next hd => exact acts u hd
    · exact h
  · exact fun _ e => nomatch e

theorem Leads.slotExpiry (h : P s) (acts : ∀ id, slotExpiryDue id s = true → P (expireSlot id s)) (p : Port) (n : Nat) :
    Leads P (execSlotExpiry p n s) := by
  unfold Machine.execSlotExpiry
  split
  · refine .unlessReset h ?_
    split
    · next hd => exact acts _ hd
    · exact h
  · exact fun _ e => nomatch e

theorem Leads.deviceReset (h : P s) (asserted : P (assertReset s)) (released : ∀ leads a b, P (resetWith leads a b s))
    (edge : ResetEdge) (penA penB : Bool) : Leads P (execDeviceReset edge penA penB s) := by
  unfold Machine.execDeviceReset
  split
  · exact .of asserted
  · refine .of ?_
    split
    · exact released _ _ _
    · exact h

theorem Leads.penFall {p : Port} (h : P s) (falls : (s.port p).enabled = true → P (fallPen p s)) :
    Leads P (execPenFall p s) := by
  unfold Machine.execPenFall
  refine .unlessReset h ?_
  split
  · next hp => exact falls hp
  · exact h

theorem Leads.penRise {p : Port} (h : P s) (rises : (s.port p).enabled = false → P (risePen p s)) :
    Leads P (execPenRise p s) := by
  unfold Machine.execPenRise
  refine .unlessReset h ?_
  split
  · exact h
  · next hp => exact rises (by simpa using hp)

theorem Leads.orderRow {kind : OrderKind} {w : OrderWrite} (h : P s)
    (writes : P (orderWrite kind (Machine.orderBody kind) w s)) : Leads P (exec (rowOf kind w) s) := by
  rw [exec_rowOf]
  exact .unlessReset h writes

/-- A step keeps a predicate that every command keeps, and that the time, the choices made and the queue of commands do not
touch. -/
theorem Leads.step (untouched : ∀ {s : State} time pending choices, P s →
      P { s with timeBase := time, pending := pending, choices := choices })
    (commands : ∀ {t : State} (i : Instr), P t → Leads P (exec i t)) (h : P s) : Leads P (step s) := by
  unfold Machine.step
  split
  · next i rest _ => exact commands i (untouched s.timeBase rest s.choices h)
  · unfold Machine.passTime
    split
    · next i t hp =>
      refine commands i ?_
      unfold pickDue at hp
      split at hp
      · cases hp
      · obtain ⟨-, rfl⟩ := Prod.mk.inj (Option.some.inj hp)
        exact h
      · obtain ⟨-, rfl⟩ := Prod.mk.inj (Option.some.inj hp)
        exact untouched s.timeBase s.pending (s.choices + 1) h
    · exact .unlessReset h (untouched (s.timeBase + 1) s.pending s.choices h)

theorem Books.expireAckWait (h : Books refs bounded Q s) (c : Fin 96) : Books refs bounded Q (expireAckWait c s) :=
  h.autoClear c (by simp [Item.events])

theorem Books.expireStall (h : Books refs bounded Q s) (c : Fin 96) : Books refs bounded Q (expireStall c s) :=
  h.autoClear c (by simp [Item.events])

theorem Books.expireCbLimit (h : Books refs bounded Q s) (c : Fin 96) : Books refs bounded Q (expireCbLimit c s) :=
  h.autoClear c (by simp [Item.events])

theorem Books.expireSenderWait (h : Books refs bounded Q s) (c : Fin 96) :
    Books refs bounded Q (expireSenderWait c s) := by
  unfold Machine.expireSenderWait
  simp only
  split
  · exact (h.same ((SameBooks.refl s).withdraw c)).autoClear c (by simp [Item.events])
  · exact (h.same ((SameBooks.refl s).withdraw c)).autoClear c (by simp [Item.events])

theorem Books.assertReset (rules : PortRules bounded Q) (s : State) : Books refs bounded Q (assertReset s) :=
  .of_reset rules rfl ⟨.refl _, .refl _⟩

theorem Books.resetWith (rules : PortRules bounded Q) (leads : BitVec 96) (penA penB : Bool) (s : State) :
    Books refs bounded Q (resetWith leads penA penB s) :=
  .of_reset rules rfl ⟨⟨rfl, rfl, rfl⟩, ⟨rfl, rfl, rfl⟩⟩

/-- Every command keeps the claims on groups and ports. -/
theorem Books.exec (h : Books refs bounded Q s) (k : Kept (.fieldsIf bounded) s) (i : Instr) :
    Leads (Books refs bounded Q) (exec i s) := by
  have same := SameBooks.refl s
  cases i with
  | deviceReset edge penA penB => exact .deviceReset h (.assertReset h.rules s) (fun _ _ _ => .resetWith h.rules _ _ _ s) _ _ _
  | rawLeadChange lead cond => exact .onCircuit h (fun c _ => h.changeRaw k c) lead
  | recognizedTransition n => exact .onCircuit h (fun c _ => h.acceptCandidate k c) n
  | seizureRecognized n => exact .onCircuit h (fun c _ => h.offerCall c) n
  | ackMaxReached n => exact .onCircuit h (fun c _ => h.reachAckMax c) n
  | ackWaitExpiry n => exact .onCircuit h (fun c _ => h.expireAckWait c) n
  | prePauseExpiry n => exact .onCircuit h (fun c _ => h.proceed k c) n
  | seizeHoldEnd n => exact .onCircuit h (fun c _ => h.same ((same.drive c .off).startTimer c _)) n
  | guardWaitExpiry n => exact .onCircuit h (fun c _ => h.expireGuardWait c) n
  | stallExpiry n => exact .onCircuit h (fun c _ => h.expireStall c) n
  | cbLimitExpiry n => exact .onCircuit h (fun c _ => h.expireCbLimit c) n
  | senderWaitExpiry n => exact .onCircuit h (fun c _ => h.expireSenderWait c) n
  | registerCongestion n => exact .onCircuit h (fun c _ => h.congestRegister c) n
  | answerRecognized n => exact .onCircuit h (fun c _ => h.recognizeAnswer (k.short c)) n
  | clearBackRecognized n => exact .onCircuit h (fun c _ => h.recognizeClearBack c) n
  | reanswerRecognized n => exact .onCircuit h (fun c _ => h.recognizeReanswer c) n
  | clearForwardRecognized n => exact .onCircuit h (fun c _ => h.recognizeClearForward c) n
  | ackPulseEnd n => exact .onCircuit h (fun c _ => h.endAckPulse c) n
  | ackPulseStart n => exact .onCircuit h (fun c _ => h.same ((same.modCircuit c _).drive c .on)) n
  | answerDue n => exact .onCircuit h (fun c _ => h.same ((same.modCircuit c _).drive c .on)) n
  | digitTimeout n => exact .onCircuit h (fun c _ => h.timeOutDigits c) n
  | guardSepEnd n => exact .onCircuit h (fun c _ => h.same ((same.drive c .on).startTimer c _)) n
  | guardEnd n => exact .onCircuit h (fun c _ => h.endGuard c) n
  | farSeizeBlocked n => exact .onCircuit h (fun c _ => h.reportFarSeize c) n
  | slotExpiry p n => exact .slotExpiry h (fun id _ => h.expireSlot id) p n
  | parkLimitExpiry n => exact .onUnit h (fun u _ => h.same (same.detach u)) n
  | senderStart n => exact .onUnit h (fun u _ => h.startDigit u) n
  | senderBreakEnd n => exact .onUnit h (fun u _ => h.endBreak u) n
  | senderMakeEnd n => exact .onUnit h (fun u _ => h.endMake u) n
  | senderPauseEnd n => exact .onUnit h (fun u _ => h.startDigit u) n
  | longBreak n => exact .onUnit h (fun u _ => h.markLong u) n
  | digitComplete n => exact .onUnit h (fun u _ => h.completeDigit u) n
  | seize w => exact .orderRow h (h.orderWrite .seize w)
  | addDigits w => exact .orderRow h (h.orderWrite .addDigits w)
  | clear w => exact .orderRow h (h.orderWrite .clear w)
  | cancel w => exact .orderRow h (h.orderWrite .cancel w)
  | releaseRegister w => exact .orderRow h (h.orderWrite .releaseRegister w)
  | answer w => exact .orderRow h (h.orderWrite .answer w)
  | clearBack w => exact .orderRow h (h.orderWrite .clearBack w)
  | readCircuit w => exact .orderRow h (h.orderWrite .readCircuit w)
  | readGroup w => exact .orderRow h (h.orderWrite .readGroup w)
  | readUnit w => exact .orderRow h (h.orderWrite .readUnit w)
  | configureGroup w => exact .orderRow h (h.orderWrite .configureGroup w)
  | assignCircuit w => exact .orderRow h (h.orderWrite .assignCircuit w)
  | block w => exact .orderRow h (h.orderWrite .block w)
  | unblock w => exact .orderRow h (h.orderWrite .unblock w)
  | resetCircuit w => exact .orderRow h (h.orderWrite .resetCircuit w)
  | unitServiceOff w => exact .orderRow h (h.orderWrite .unitServiceOff w)
  | unitServiceOn w => exact .orderRow h (h.orderWrite .unitServiceOn w)
  | referenceControlApply w => exact .orderRow h (h.orderWrite .referenceControlApply w)
  | referenceControlSet w => exact .orderRow h (h.orderWrite .referenceControlSet w)
  | watchSet w => exact .orderRow h (h.orderWrite .watchSet w)
  | forceSet w => exact .orderRow h (h.orderWrite .forceSet w)
  | restartCalls w => exact .orderRow h (h.orderWrite .restartCalls w)
  | orderWord w => exact .unlessReset h (h.plainWrite w)
  | reportChannelWrite a data => exact .unlessReset h (h.assertSelect fun t ht => ht.answerReportWrite a.port)
  | resultRead a => exact .unlessReset h (h.assertSelect fun t ht => ht.answerResultRead a.port)
  | reportRead a => exact .unlessReset h (h.assertSelect fun t ht => ht.answerReportRead a.port)
  | selectDeassert p d => exact .unlessReset h (h.deassertSelect p d)
  | penFall p => exact .penFall h fun _ => h.fallPen p
  | penRise p => exact .penRise h fun _ => h.risePen p

/-- Every step keeps the claims on groups and ports. -/
theorem Books.step (h : Books refs bounded Q s) (fields : bounded → FieldsSound s) (e : step s = .next t) :
    Books refs bounded Q t := by
  have carried : Books refs bounded Q s ∧ (bounded → FieldsSound s) := ⟨h, fields⟩
  refine (Leads.step (P := fun s => Books refs bounded Q s ∧ (bounded → FieldsSound s)) ?_ ?_ carried t e).1
  · exact fun _ _ _ hs => ⟨hs.1.same ⟨fun _ => ⟨rfl, rfl⟩, .refl _, .refl _⟩, hs.2⟩
  · intro t i ht v hv
    have k : Kept (.fieldsIf bounded) t :=
      ⟨fun hp => absurd hp Claims.not_pool_fieldsIf, False.elim, False.elim, ht.2⟩
    exact ⟨ht.1.exec k i v hv, (k.exec False.elim i v hv).fields⟩

end Commands

end Sys2Proof.Machine

/-! PROOFS. The references stay within their values, the attention lists without duplicates, and the events within their items
(R16, R123 to R128, R152 to R155). -/

namespace Sys2Proof.Machine

section Claims

/-! ## The parameters and the references (R16, R123 to R128) -/

/-- No claim on the ports. -/
theorem PortRules.nothing : PortRules False fun _ => True := by
  constructor <;> intros <;> trivial

/-- Settles O55: every act that writes a group's parameters or its reference keeps both within their values. -/
theorem referencesStaySound : Obligations.ReferencesStaySound := fun _ _ h e =>
  (Books.step (refs := True) ⟨.nothing, fun _ => h, fun _ => trivial⟩ False.elim e).groups trivial

/-! ## A port's pending sets -/

theorem Item.index_injective : Function.Injective Item.index := by
  intro x y h
  cases x <;> cases y <;> simp only [Item.index, Fin.mk.injEq] at h
  case circuit.circuit => exact congrArg _ (Fin.ext h)
  case slot.slot => exact congrArg _ (Fin.ext (by omega))
  case group.group => exact congrArg _ (Fin.ext (by omega))
  case watch.watch => exact congrArg _ (Fin.ext (by omega))
  all_goals omega

theorem PortRecord.setPend_pendOf (r : PortRecord) (it x : Item) (k : EventSet) :
    (r.setPend it k).pendOf x = if x = it then k else r.pendOf x := by
  unfold PortRecord.setPend PortRecord.pendOf
  by_cases same : x = it
  · subst same; simp
  · have away : it.index.val ≠ x.index.val := fun e => same (Item.index_injective (Fin.ext e)).symm
    simp [same, Vector.getElem_set_ne _ _ away]

/-- A port whose pending sets of some of its slots are emptied. -/
theorem PortRecord.emptied_pendOf (l : List (Fin 16)) (r : PortRecord) (x : Item) :
    (l.foldl (fun r n => r.setPend (.slot n) EventSet.empty) r).pendOf x =
      if ∃ n ∈ l, x = .slot n then EventSet.empty else r.pendOf x := by
  induction l generalizing r with
  | nil => simp
  | cons n l ih =>
    rw [List.foldl_cons, ih, PortRecord.setPend_pendOf]
    by_cases later : ∃ m ∈ l, x = .slot m
    · simp [later]
    · by_cases now : x = .slot n <;> simp [later, now]

/-- Emptying the pending sets of slots changes the pending sets alone. -/
theorem PortRecord.emptied_eq (l : List (Fin 16)) (r : PortRecord) :
    ∃ pend, l.foldl (fun r n => r.setPend (.slot n) EventSet.empty) r = { r with pend := pend } := by
  induction l generalizing r with
  | nil => exact ⟨r.pend, rfl⟩
  | cons n l ih => exact ih _

/-- Whether an item is no slot. -/
def Item.notSlot : Item → Bool
  | .slot _ => false
  | .circuit _ | .group _ | .watch _ => true

theorem PortRecord.dropSlotItems_eq (r : PortRecord) :
    ∃ pend, r.dropSlotItems = { r with pend := pend, attention := r.attention.filter Item.notSlot } := by
  obtain ⟨pend, e⟩ := PortRecord.emptied_eq allSixteen r
  exact ⟨pend, by
    unfold PortRecord.dropSlotItems
    simp only [e]
    congr 2⟩

theorem PortRecord.dropSlotItems_pendOf (r : PortRecord) (x : Item) :
    r.dropSlotItems.pendOf x = if x.notSlot then r.pendOf x else EventSet.empty := by
  have emptied := PortRecord.emptied_pendOf allSixteen r x
  unfold PortRecord.dropSlotItems
  dsimp only [PortRecord.pendOf] at *
  rw [emptied]
  cases x <;> simp [Item.notSlot, allSixteen]

/-! ## The attention lists (R155) -/

/-- An attention list takes an item in only where it is not on it. -/
theorem PortRules.nodup : PortRules False fun r => r.attention.Nodup where
  same same h := same.2.1 ▸ h
  event := fun {r it e} _ h => by
    rw [← PortRecord.join_setPend_add]; exact PortRecord.join_nodup _ it h
  answered _ h := PortRecord.join_nodup _ _ h
  forget _ h := h
  merge := fun {r k} _ h => by
    unfold PortRecord.restore
    exact List.nodup_cons.mpr ⟨by simp [PortRecord.leave], PortRecord.leave_nodup (r.setPend k.item _) k.item h⟩
  drop h := h
  unmerged h := h
  advance _ _ h := h
  begin_ it _ _ _ h := PortRecord.leave_nodup (PortRecord.setPend _ it EventSet.empty) it h
  discard it h := PortRecord.leave_nodup (PortRecord.setPend _ it EventSet.empty) it h
  dropSlotItems := fun {r} h => by
    obtain ⟨pend, e⟩ := PortRecord.dropSlotItems_eq r
    rw [e]
    exact h.filter _
  transfer c _ h := PortRecord.join_nodup _ _ h
  clear _ := List.nodup_nil
  reset := List.nodup_nil

theorem AttentionSound.step {s t : State} (h : AttentionSound s) (e : step s = .next t) : AttentionSound t :=
  (Books.step (refs := False) ⟨.nodup, False.elim, h⟩ False.elim e).ports

/-- A list without duplicates holds at most the 128 items of a port. -/
theorem attention_length_le {l : List Item} (h : l.Nodup) : l.length ≤ 128 := by
  have bound := (h.map Item.index_injective).length_le_card
  simpa using bound

/-! ## The events of the items (R152, R154) -/

/-- What a port holds of events fits their items. -/
def PortRecord.EventsFit (r : PortRecord) : Prop :=
  (∀ it, (r.pendOf it).Fits it) ∧ ∀ k, r.report = some k → k.events.Fits k.item

theorem EventSet.Fits.empty (it : Item) : EventSet.empty.Fits it := ⟨by simp [EventSet.empty], by simp [EventSet.empty]⟩

theorem Event.bit_lt (e : Event) : e.bit < 32 := by cases e <;> decide

theorem Event.mask_getLsbD {e : Event} {i : Nat} (h : e.mask.getLsbD i = true) : e.bit = i := by
  simp only [Event.mask, BitVec.getLsbD_ofNat, Bool.and_eq_true, Nat.testBit_two_pow, decide_eq_true_eq] at h
  exact h.2

variable {k x : EventSet} {it : Item} {e : Event}

theorem EventSet.Fits.add (h : k.Fits it) (fits : e ∈ it.events) : (k.add e).Fits it := by
  refine ⟨fun i hi => ?_, h.2⟩
  rcases Bool.or_eq_true _ _ |>.mp (BitVec.getLsbD_or ▸ hi) with held | new
  · exact h.1 i held
  · exact ⟨e, fits, Event.mask_getLsbD new⟩

theorem EventSet.Fits.addAnswered {c : Fin 96} (h : k.Fits (.circuit c)) {n : Nat} (hn : n ≤ 24) :
    (k.addAnswered n).Fits (.circuit c) :=
  ⟨(h.add (e := .answered) (by simp [Item.events])).1, hn⟩

theorem EventSet.Fits.union (h : k.Fits it) (hx : x.Fits it) : (k.union x).Fits it := by
  refine ⟨fun i hi => ?_, ?_⟩
  · rcases Bool.or_eq_true _ _ |>.mp (BitVec.getLsbD_or ▸ hi) with held | held
    · exact h.1 i held
    · exact hx.1 i held
  · unfold EventSet.union
    dsimp only
    split
    · exact h.2
    · exact hx.2

theorem EventSet.Fits.remove (h : k.Fits it) (e : Event) : (k.remove e).Fits it := by
  refine ⟨fun i hi => h.1 i ?_, h.2⟩
  simp only [EventSet.remove, BitVec.getLsbD_and, Bool.and_eq_true] at hi
  exact hi.1

variable {r : PortRecord}

theorem PortRecord.EventsFit.setPend (h : r.EventsFit) (hk : k.Fits it) : (r.setPend it k).EventsFit := by
  refine ⟨fun x => ?_, h.2⟩
  rw [PortRecord.setPend_pendOf]
  split
  · next same => exact same ▸ hk
  · exact h.1 x

/-- Every event is raised on an item of its kind, and what is handed on, restored or taken back stays within the item. -/
theorem PortRules.eventsFit : PortRules True PortRecord.EventsFit where
  same same h := by
    obtain ⟨pend, -, report⟩ := same
    unfold PortRecord.EventsFit PortRecord.pendOf
    rw [pend, report]
    exact h
  event fits h := h.setPend ((h.1 _).add fits)
  answered short h := h.setPend ((h.1 _).addAnswered (short trivial))
  forget n h := by
    refine ⟨(h.setPend (it := .slot n) (((h.1 _).remove .seized).remove .rehunted)).1, fun k hk => ?_⟩
    obtain ⟨read, hr, rfl⟩ := Option.map_eq_some_iff.mp hk
    split
    · exact ((h.2 read hr).remove .seized).remove .rehunted
    · exact h.2 read hr
  merge hk h := ⟨(h.setPend ((h.1 _).union (h.2 _ hk))).1, fun _ e => nomatch e⟩
  drop h := ⟨h.1, fun _ e => nomatch e⟩
  unmerged h := ⟨h.1, fun k hk => by
    obtain ⟨read, hr, rfl⟩ := Option.map_eq_some_iff.mp hk
    exact h.2 read hr⟩
  advance := fun {r k} n hk h => ⟨h.1, fun x hx => by
    cases hx
    exact h.2 k hk⟩
  begin_ it words n merge h := ⟨(h.setPend (.empty it)).1, fun x hx => by
    cases hx
    exact h.1 it⟩
  discard it h := h.setPend (.empty it)
  dropSlotItems := fun {r} h => by
    obtain ⟨pend, e⟩ := PortRecord.dropSlotItems_eq r
    refine ⟨fun it => ?_, ?_⟩
    · rw [PortRecord.dropSlotItems_pendOf]
      split
      · exact h.1 it
      · exact .empty it
    · rw [e]; exact h.2
  transfer c h hx := hx.setPend (((h.1 _).union (hx.1 _)).add (by simp [Item.events]))
  clear h := ⟨fun it => by simpa [PortRecord.pendOf] using EventSet.Fits.empty it, h.2⟩
  reset := ⟨fun it => by simpa [PortRecord.reset, PortRecord.pendOf] using EventSet.Fits.empty it, fun _ e => nomatch e⟩

theorem EventsSound.step {s t : State} (fields : FieldsSound s) (h : EventsSound s) (e : step s = .next t) :
    EventsSound t :=
  (Books.step (refs := False) ⟨.eventsFit, False.elim, h⟩ (fun _ => fields) e).ports

/-- Settles O56: a list takes in only what is not on it, and every act raises events of the item's own kinds. -/
theorem attentionListsStaySound : Obligations.AttentionListsStaySound :=
  ⟨fun _ _ h e => h.step e, fun _ p h => attention_length_le (h p), fun _ _ fields h e => h.step fields e⟩

end Claims

end Sys2Proof.Machine

/-! PROOFS. The slots' invariant is not inductive on its own (R31, R48, R110): `PoolSound` lets a sender of a circuit in
OUT_SEIZING be in any substate, so a state that meets both invariants may have such a sender end its circuit's last digit;
the circuit then enters OUT_WAIT_ANSWER with its slot still linked. -/

namespace Sys2Proof.Machine

section SlotsRefuted

/-- A circuit in OUT_SEIZING, linked to slot A0, with one digit to send, end of number set, and unit 0 as its sender. -/
def earlySender.trunk : Circuit :=
  { Circuit.reset with
    state := .outSeizing, group := some 0, owner := some .A, callDir := .outgoing, digits := [1], eon := true
    unit := some 0, slot := some ⟨.A, 0⟩ }

/-- Its sender, whose last break of that digit ends now. -/
def earlySender.sender : DigitUnit :=
  { DigitUnit.reset with state := .sender .inBreak, circuit := some 0, count := 1, pulses := 1, subEnd := some 0 }

/-- The call of slot A0. -/
def earlySender.call : SlotCall := { tag := 0, group := 0, wait := 0, glareCount := 0 }

/-- Port A with its slot A0 linked to circuit 0. -/
def earlySender.port : PortRecord :=
  { PortRecord.reset with enabled := true, slots := PortRecord.reset.slots.set 0 (.seizing earlySender.call 0) }

/-- The part after reset with that circuit, that sender and that slot, the sender's break about to end. -/
def earlySender : State :=
  { State.reset with
    circuits := State.reset.circuits.set 0 earlySender.trunk
    units := State.reset.units.set 0 earlySender.sender
    portA := earlySender.port
    pending := [.senderBreakEnd 0] }

theorem earlySender_circuit (c : Fin 96) :
    earlySender.circuit c = if c = 0 then earlySender.trunk else Circuit.reset := by
  rcases eq_or_ne c 0 with rfl | hc
  · rfl
  · have apart : ¬ (0 : Nat) = c.val := fun e => hc (Fin.ext e.symm)
    simp [earlySender, State.circuit, State.reset, apart, hc]

theorem earlySender_unit (u : Fin 16) :
    earlySender.unit u = if u = 0 then earlySender.sender else DigitUnit.reset := by
  rcases eq_or_ne u 0 with rfl | hu
  · rfl
  · have apart : ¬ (0 : Nat) = u.val := fun e => hu (Fin.ext e.symm)
    simp [earlySender, State.unit, State.reset, apart, hu]

theorem earlySender_group (g : Fin 8) : earlySender.group g = Group.reset := State.reset_group g

theorem earlySender_slot (id : SlotId) :
    earlySender.slot id = if id = ⟨.A, 0⟩ then .seizing earlySender.call 0 else .free := by
  obtain ⟨p, n⟩ := id
  cases p
  · rcases eq_or_ne n 0 with rfl | hn
    · rfl
    · have apart : ¬ (0 : Nat) = n.val := fun e => hn (Fin.ext e.symm)
      simp [earlySender, earlySender.port, State.slot, State.port, PortRecord.reset, apart, hn]
  · simp [earlySender, State.slot, State.port, State.reset, PortRecord.reset]

theorem earlySender_poolSound : PoolSound earlySender := by
  constructor
  case linked =>
    intro u c
    rw [earlySender_unit, earlySender_circuit]
    rcases eq_or_ne u 0 with rfl | hu <;> rcases eq_or_ne c 0 with rfl | hc <;>
      simp [*, Ne.symm, earlySender.trunk, earlySender.sender, DigitUnit.reset, Circuit.reset]
  case senders =>
    intro u c _
    rw [earlySender_unit, earlySender_circuit]
    rcases eq_or_ne u 0 with rfl | hu
    · rintro ⟨rfl⟩
      exact .inl rfl
    · simp [hu, DigitUnit.reset]
  case idleLists =>
    intro g c
    rw [earlySender_group, earlySender_circuit]
    rcases eq_or_ne c 0 with rfl | hc <;> simp_all [Group.reset, earlySender.trunk, Circuit.reset]
  case requests =>
    intro c r
    rw [earlySender_circuit]
    rcases eq_or_ne c 0 with rfl | hc <;> simp_all [earlySender.trunk, Circuit.reset]
  case idleOnce => intro g; rw [earlySender_group]; exact List.nodup_nil
  case noneFree => exact fun h => absurd rfl h
  case registerEntries => exact fun _ h => nomatch h
  case senderEntries => exact fun _ h => nomatch h
  case queuedOnce => exact List.nodup_nil
  case parkedOnce => exact List.nodup_nil
  all_goals
    intro u
    simp only [earlySender_unit]
    rcases eq_or_ne u 0 with rfl | hu <;>
      simp_all [earlySender.sender, DigitUnit.reset, earlySender, State.reset, UnitState.isSender, UnitState.isRegister]

theorem earlySender_slotsSound : SlotsSound earlySender := by
  constructor
  case waiting =>
    intro g id
    rw [earlySender_group, earlySender_slot]
    rcases eq_or_ne id ⟨.A, 0⟩ with rfl | hid <;> simp_all [Group.reset]
  case waitingOnce => intro g; rw [earlySender_group]; exact List.nodup_nil
  case noneIdle => intro g h; rw [earlySender_group] at h; exact absurd rfl h
  case linked =>
    intro c id
    rw [earlySender_circuit, earlySender_slot]
    rcases eq_or_ne id ⟨.A, 0⟩ with rfl | hid <;> rcases eq_or_ne c 0 with rfl | hc <;>
      simp [*, Ne.symm, earlySender.trunk, Circuit.reset]
  case seizing =>
    intro c id
    rw [earlySender_circuit, earlySender_slot]
    rcases eq_or_ne c 0 with rfl | hc <;> simp_all [earlySender.trunk, Circuit.reset, eq_comm]
    rintro rfl
    simp [earlySender.call]
  case disabledFree =>
    intro p n
    rw [earlySender_slot]
    cases p <;> simp [earlySender, earlySender.port, State.port]

/-- The sender's break ends the circuit's last digit: the circuit goes on to OUT_WAIT_ANSWER, its slot as it was. -/
theorem earlySender_step : ∃ t, step earlySender = .next t ∧ (t.circuit 0).state = .outWaitAnswer ∧
    (t.circuit 0).slot = some ⟨.A, 0⟩ :=
  ⟨_, rfl, by decide, by decide⟩

/-- Refutes O58: in `earlySender` both invariants hold, and the end of the last digit's last break takes the circuit out of
OUT_SEIZING without breaking its slot's link. -/
theorem not_slotsStaySound : ¬ Obligations.SlotsStaySound := by
  intro h
  obtain ⟨t, stepped, state, slot⟩ := earlySender_step
  have sound := h earlySender t earlySender_poolSound earlySender_slotsSound stepped
  exact absurd (sound.seizing 0 _ slot).1 (by simp [state])

end SlotsRefuted

end Sys2Proof.Machine

/-! PROOFS. The agreement of the idle lists, the units, the unit request queue and the parked list (R24, R102 to R106, R111), and
what the operations of the pool do to it, at every instant within a step. -/

namespace Sys2Proof.Machine

/-! ## The agreement within a step -/

/-- What is in flux within a step: a unit that is FREE in its record while requests wait, an idle circuit that is on no idle
list, and a circuit whose request has no entry in the queue. -/
structure Exempt where
  spare : Option (Fin 16) := none
  out : Option (Fin 96) := none
  asking : Option (Fin 96) := none

/-- The part of `PoolSound` that `Staffed` does not hold, but for what is in flux. -/
structure Manned (e : Exempt) (s : State) : Prop where
  staffed : Staffed s
  listed : ∀ g c, e.out ≠ some c → (s.circuit c).state = .idle → (s.circuit c).group = some g → c ∈ (s.group g).idle
  idleOnce : ∀ g, (s.group g).idle.Nodup
  entered : ∀ c r, e.asking ≠ some c → (s.circuit c).unitReq = some r →
    { circuit := c, time := r.time } ∈ (if r.cls = .register then s.regQueue else s.sndQueue)
  noneFree : s.regQueue ++ s.sndQueue ≠ [] →
    (∀ u, e.spare ≠ some u → (s.unit u).state ≠ .free) ∧ s.parked = []
  parkedList : ∀ u, u ∈ s.parked ↔ (s.unit u).state = .sender .parked
  parkedOnce : s.parked.Nodup
  attached : ∀ u, (s.unit u).state.isSender = true ∨ (s.unit u).state.isRegister = true →
    (s.unit u).circuit.isSome = true

section Manned

variable {e : Exempt} {s t : State} {c : Fin 96} {u : Fin 16}

theorem PoolSound.manned (h : PoolSound s) : Manned {} s where
  staffed := h.staffed
  listed g c _ idle group := (h.idleLists g c).mpr ⟨idle, group⟩
  idleOnce := h.idleOnce
  entered c r _ := h.requests c r
  noneFree busy := ⟨fun u _ => (h.noneFree busy).1 u, (h.noneFree busy).2⟩
  parkedList := h.parkedList
  parkedOnce := h.parkedOnce
  attached := h.attached

theorem Manned.sound (h : Manned {} s) : PoolSound s where
  idleLists g c := ⟨h.staffed.idle g c, fun ⟨idle, group⟩ => h.listed g c (by simp) idle group⟩
  idleOnce := h.idleOnce
  linked := h.staffed.linked
  unattached u hu := by
    rcases hu with hu | hu <;>
      exact h.staffed.unattached (by simp [hu, UnitState.isSender]) (by simp [hu, UnitState.isRegister])
  senders u c sends hc := (h.staffed.crew u c hc).of_sender sends
  registers u c receives hc := (h.staffed.crew u c hc).of_register receives
  registerEntries := h.staffed.registerEntries
  senderEntries := h.staffed.senderEntries
  queuedOnce := h.staffed.queuedOnce
  requests c r := h.entered c r (by simp)
  noneFree busy := ⟨fun u => (h.noneFree busy).1 u (by simp), (h.noneFree busy).2⟩
  parkedList := h.parkedList
  parkedOnce := h.parkedOnce
  attached := h.attached

/-! ## What the agreement does not see -/

theorem Manned.alike (h : Manned e s) (a : Alike s t) (parked : t.parked = s.parked) : Manned e t where
  staffed := h.staffed.alike a
  listed g c hc := by
    rw [(a.circuit c).state, (a.circuit c).called.group, (a.group g).idle]
    exact h.listed g c hc
  idleOnce g := by rw [(a.group g).idle]; exact h.idleOnce g
  entered c r hc := by
    rw [(a.circuit c).unitReq, a.regQueue, a.sndQueue]
    exact h.entered c r hc
  noneFree busy := by
    rw [a.regQueue, a.sndQueue] at busy
    obtain ⟨free, empty⟩ := h.noneFree busy
    exact ⟨fun u hu => by rw [(a.unit u).state]; exact free u hu, parked.trans empty⟩
  parkedList u := by rw [parked, (a.unit u).state]; exact h.parkedList u
  parkedOnce := parked ▸ h.parkedOnce
  attached u := by rw [(a.unit u).state, (a.unit u).circuit]; exact h.attached u

/-- Two units with the same circuit, which are of the same kind: sender or not, register or not, FREE, parked. -/
structure DigitUnit.SameKind (k r : DigitUnit) : Prop where
  circuit : r.circuit = k.circuit
  sender : r.state.isSender = k.state.isSender
  register : r.state.isRegister = k.state.isRegister
  free : r.state = .free ↔ k.state = .free
  parked : r.state = .sender .parked ↔ k.state = .sender .parked

theorem DigitUnit.SameKind.refl (k : DigitUnit) : k.SameKind k := ⟨rfl, rfl, rfl, .rfl, .rfl⟩

theorem CrewFits.congr {us vs : UnitState} {cs : CircuitState} (h : CrewFits us cs) (sender : vs.isSender = us.isSender)
    (register : vs.isRegister = us.isRegister) : CrewFits vs cs := by
  unfold CrewFits at *
  rw [sender, register]
  exact h

theorem Staffed.modUnit {f : DigitUnit → DigitUnit} (h : Staffed s) (circuit : (f (s.unit u)).circuit = (s.unit u).circuit)
    (crew : ∀ x, (s.unit u).circuit = some x → CrewFits (f (s.unit u)).state (s.circuit x).state) :
    Staffed (s.modUnit u f) := by
  have kept : ∀ v, ((s.modUnit u f).unit v).circuit = (s.unit v).circuit := fun v => by
    rw [State.modUnit_unit]
    split
    · next hv => subst hv; exact circuit
    · rfl
  refine ⟨h.idle, fun v x => ?_, fun v x hx => ?_, h.requests, h.registerEntries, h.senderEntries, h.queuedOnce⟩
  · rw [kept]; exact h.linked v x
  · rw [kept] at hx
    rw [State.modUnit_unit]
    split
    · next hv => subst hv; exact crew x hx
    · exact h.crew v x hx

theorem Manned.modUnit {f : DigitUnit → DigitUnit} (h : Manned e s) (kind : (s.unit u).SameKind (f (s.unit u))) :
    Manned e (s.modUnit u f) := by
  have same : ∀ v, (s.unit v).SameKind ((s.modUnit u f).unit v) := fun v => by
    rw [State.modUnit_unit]
    split
    · next hv => subst hv; exact kind
    · exact .refl _
  exact
    { staffed := h.staffed.modUnit kind.circuit fun x hx => (h.staffed.crew u x hx).congr kind.sender kind.register
      listed := h.listed
      idleOnce := h.idleOnce
      entered := h.entered
      noneFree := fun busy =>
        ⟨fun v hv => mt (same v).free.mp ((h.noneFree busy).1 v hv), (h.noneFree busy).2⟩
      parkedList := fun v => (h.parkedList v).trans (same v).parked.symm
      parkedOnce := h.parkedOnce
      attached := fun v => by rw [(same v).sender, (same v).register, (same v).circuit]; exact h.attached v }

/-! ## Changes of one circuit -/

/-- A circuit of which the pool and the hunt hold nothing takes a state other than IDLE. -/
theorem Manned.moveState {f : Circuit → Circuit} (h : Manned { e with out := some c } s) (apart : Apart c s)
    (unit : (f (s.circuit c)).unit = (s.circuit c).unit) (unitReq : (f (s.circuit c)).unitReq = (s.circuit c).unitReq)
    (state : (f (s.circuit c)).state ≠ .idle) : Manned e (s.modCircuit c f) where
  staffed := h.staffed.modCircuit_apart apart unit unitReq
  listed g x _ idle group := by
    by_cases hx : x = c
    · subst hx; simp [state] at idle
    · rw [State.modCircuit_circuit_ne s c f hx] at idle group
      exact h.listed g x (by simpa using Ne.symm hx) idle group
  idleOnce := h.idleOnce
  entered x r hx hr := by
    refine h.entered x r hx ?_
    by_cases hc : x = c
    · subst hc; rwa [State.modCircuit_circuit_self, unitReq] at hr
    · rwa [State.modCircuit_circuit_ne s c f hc] at hr
  noneFree := h.noneFree
  parkedList := h.parkedList
  parkedOnce := h.parkedOnce
  attached := h.attached

/-- To claim less. -/
theorem Manned.out (h : Manned e s) (none_ : e.out = none) (c : Fin 96) : Manned { e with out := some c } s :=
  { h with listed := fun g x _ => h.listed g x (by simp [none_]) }

theorem Manned.asking (h : Manned e s) (none_ : e.asking = none) (c : Fin 96) : Manned { e with asking := some c } s :=
  { h with entered := fun x r _ => h.entered x r (by simp [none_]) }

theorem Manned.spare (h : Manned e s) (none_ : e.spare = none) (u : Fin 16) : Manned { e with spare := some u } s :=
  { h with noneFree := fun busy => ⟨fun v _ => (h.noneFree busy).1 v (by simp [none_]), (h.noneFree busy).2⟩ }

/-- A circuit in a call changes its state within what its unit and its request allow. -/
theorem Manned.modCall {f : Circuit → Circuit} (h : Manned e s)
    (state : (f (s.circuit c)).state = (s.circuit c).state ∨
      ((s.circuit c).state.sends ∧ (f (s.circuit c)).state.sends))
    (group : (f (s.circuit c)).group = (s.circuit c).group) (unit : (f (s.circuit c)).unit = (s.circuit c).unit)
    (unitReq : (f (s.circuit c)).unitReq = (s.circuit c).unitReq) : Manned e (s.modCircuit c f) where
  staffed := h.staffed.modCircuit_call state group unit unitReq
  listed g x hx idle hg := by
    by_cases hc : x = c
    · subst hc
      rw [State.modCircuit_circuit_self] at idle hg
      rcases state with state | ⟨-, sends⟩
      · exact h.listed g x hx (state ▸ idle) (group ▸ hg)
      · rw [idle] at sends; simp [CircuitState.sends] at sends
    · rw [State.modCircuit_circuit_ne s c f hc] at idle hg
      exact h.listed g x hx idle hg
  idleOnce := h.idleOnce
  entered x r hx hr := by
    refine h.entered x r hx ?_
    by_cases hc : x = c
    · subst hc; rwa [State.modCircuit_circuit_self, unitReq] at hr
    · rwa [State.modCircuit_circuit_ne s c f hc] at hr
  noneFree := h.noneFree
  parkedList := h.parkedList
  parkedOnce := h.parkedOnce
  attached := h.attached

/-! ## Requests (R105, R108) -/

/-- A circuit out of the queue takes a request, or loses the one it has. -/
theorem Staffed.setRequest (h : Staffed s) (r : Option UnitReq) (unqueued : ∀ x ∈ s.regQueue ++ s.sndQueue, x.circuit ≠ c)
    (asks : r ≠ none → (∃ cls, AsksFor cls (s.circuit c).state) ∧ (s.circuit c).unit = none) :
    Staffed (s.modCircuit c fun k => { k with unitReq := r }) := by
  have kept : ∀ x, ((s.modCircuit c fun k => { k with unitReq := r }).circuit x).state = (s.circuit x).state ∧
      ((s.modCircuit c fun k => { k with unitReq := r }).circuit x).unit = (s.circuit x).unit ∧
      ((s.modCircuit c fun k => { k with unitReq := r }).circuit x).group = (s.circuit x).group := fun x => by
    rw [State.modCircuit_circuit]
    split
    · next hx => subst hx; exact ⟨rfl, rfl, rfl⟩
    · exact ⟨rfl, rfl, rfl⟩
  refine ⟨fun g x => ?_, fun v x => ?_, fun v x => ?_, fun x hx => ?_, fun y hy => ?_, fun y hy => ?_, h.queuedOnce⟩
  · rw [(kept x).1, (kept x).2.2]; exact h.idle g x
  · rw [(kept x).2.1]; exact h.linked v x
  · rw [(kept x).1]; exact h.crew v x
  · rw [(kept x).1, (kept x).2.1]
    by_cases hxc : x = c
    · subst hxc; exact asks (by simpa using hx)
    · rw [State.modCircuit_circuit_ne s c _ hxc] at hx; exact h.requests x hx
  · rw [State.modCircuit_circuit_ne s c _ (unqueued y (List.mem_append_left _ hy))]; exact h.registerEntries y hy
  · rw [State.modCircuit_circuit_ne s c _ (unqueued y (List.mem_append_right _ hy))]; exact h.senderEntries y hy

theorem Staffed.setQueues (h : Staffed s) {reg snd : List QueueEntry} (hr : reg.Sublist s.regQueue)
    (hs : snd.Sublist s.sndQueue) : Staffed { s with regQueue := reg, sndQueue := snd } :=
  ⟨h.idle, h.linked, h.crew, h.requests, fun x hx => h.registerEntries x (hr.subset hx),
    fun x hx => h.senderEntries x (hs.subset hx), h.queuedOnce.sublist ((hr.append hs).map _)⟩

theorem Manned.withdraw (h : Manned e s) (c : Fin 96) : Manned e (withdraw c s) := by
  obtain ⟨circ, reg, snd, -⟩ := withdraw_spec s c
  have still : (Machine.withdraw c s).regQueue ++ (Machine.withdraw c s).sndQueue ≠ [] → s.regQueue ++ s.sndQueue ≠ [] :=
    fun busy empty => busy (by rw [reg, snd, ← List.filter_append, empty]; rfl)
  have kept : ∀ x, ((Machine.withdraw c s).circuit x).state = (s.circuit x).state ∧
      ((Machine.withdraw c s).circuit x).group = (s.circuit x).group := fun x => by
    rw [circ]
    split
    · next hx => subst hx; exact ⟨rfl, rfl⟩
    · exact ⟨rfl, rfl⟩
  refine ⟨?_, fun g x hx => ?_, h.idleOnce, fun x r hx hr => ?_, fun busy => h.noneFree (still busy), h.parkedList,
    h.parkedOnce, h.attached⟩
  · refine (h.staffed.setQueues (reg := s.regQueue.filter fun x => x.circuit ≠ c)
      (snd := s.sndQueue.filter fun x => x.circuit ≠ c) List.filter_sublist List.filter_sublist).setRequest none
      (fun x hx => ?_) fun hn => absurd rfl hn
    rw [← List.filter_append] at hx
    simpa using (List.mem_filter.mp hx).2
  · rw [(kept x).1, (kept x).2]; exact h.listed g x hx
  · rw [circ] at hr
    split at hr
    · cases hr
    · next hxc =>
      have entry := h.entered x r hx hr
      rw [reg, snd]
      split <;> rename_i cls <;> simp only [cls, if_true, if_false] at entry <;>
        exact List.mem_filter.mpr ⟨entry, by simpa using hxc⟩

/-! ## Attachment (R104) -/

theorem CrewFits.ne_free {us : UnitState} {cs : CircuitState} (h : CrewFits us cs) : us ≠ .free := by
  rintro rfl
  simp [CrewFits, UnitState.isSender, UnitState.isRegister] at h

/-- A unit that is in flux serves a circuit that is. -/
structure Closes (e : Exempt) (u : Fin 16) (c : Fin 96) : Prop where
  spare : ∀ v, e.spare = some v → v = u
  asking : ∀ x, e.asking = some x → x = c
  out : e.out = none

theorem Manned.linkUnit {cls : UnitClass} {fu : DigitUnit → DigitUnit} {fc : Circuit → Circuit} (h : Manned e s)
    (closes : Closes e u c) (serves : Serves u c cls s) (links : Links u c cls fu fc)
    (was : (s.unit u).state ≠ .sender .parked) (unparked : ∀ k, (fu k).state ≠ .sender .parked) :
    Manned {} (linkUnit u c fu fc s) := by
  have own : (Machine.linkUnit u c fu fc s).circuit c = fc (s.circuit c) := by simp [Machine.linkUnit]
  have circ : ∀ x, x ≠ c → (Machine.linkUnit u c fu fc s).circuit x = s.circuit x := fun x hx => by
    simp [Machine.linkUnit, State.modCircuit_circuit_ne, hx]
  have unit : ∀ v, (Machine.linkUnit u c fu fc s).unit v = if v = u then fu (s.unit u) else s.unit v := fun v => by
    simp [Machine.linkUnit, State.modUnit_unit]
  refine ⟨h.staffed.linkUnit serves links, fun g x _ idle group => ?_, h.idleOnce, fun x r _ hr => ?_,
    fun busy => ⟨fun v _ => ?_, (h.noneFree busy).2⟩, fun v => ?_, h.parkedOnce, fun v hv => ?_⟩
  · by_cases hx : x = c
    · subst hx
      rw [own, links.state] at idle
      cases cls with
      | register => cases idle
      | sender => exact absurd idle serves.asks.ne_idle
    · rw [circ x hx] at idle group
      exact h.listed g x (by simp [closes.out]) idle group
  · by_cases hx : x = c
    · subst hx; simp [own, links.unitReq] at hr
    · rw [circ x hx] at hr
      exact h.entered x r (fun ha => hx (closes.asking x ha)) hr
  · rw [unit]
    split
    · exact (links.crew (s.unit u) _ serves.asks).ne_free
    · next hv => exact (h.noneFree busy).1 v fun hs => hv (closes.spare v hs)
  · rw [unit]
    split
    · next hv =>
      subst hv
      exact ⟨fun hp => absurd ((h.parkedList v).mp hp) was, fun hp => absurd hp (unparked _)⟩
    · exact h.parkedList v
  · rw [unit] at hv ⊢
    split at hv
    · next hvu => simp [hvu, links.circuit]
    · next hvu => rw [if_neg hvu]; exact h.attached v hv

/-! ## A sender's start (R47, R117) -/

/-- The beginning of a digit writes one unit, which is in its break. -/
theorem beginDigit_modUnit (u : Fin 16) (c : Fin 96) (s : State) :
    (beginDigit u c s = s ∧ (s.circuit c).digitLeft = false) ∨
      ∃ f, beginDigit u c s = s.modUnit u f ∧ ∀ k, (f k).circuit = k.circuit ∧ (f k).state = .sender .inBreak := by
  unfold beginDigit
  split
  · exact .inr ⟨_, rfl, fun _ => ⟨rfl, rfl⟩⟩
  · next hd => exact .inl ⟨rfl, by simpa [Circuit.digitLeft] using hd⟩

/-- With a digit left, the decision of the start instant writes one unit, which waits for it or begins. -/
theorem decideStart_modUnit (u : Fin 16) (c : Fin 96) (s : State) (left : (s.circuit c).digitLeft = true) :
    ∃ f, decideStart u c s = s.modUnit u f ∧
      ∀ k, (f k).circuit = k.circuit ∧ ((f k).state = .sender .inBreak ∨ (f k).state = .sender .waitStart) := by
  unfold decideStart
  simp only
  split
  · obtain ⟨-, none_⟩ | ⟨f, eq, kept⟩ := beginDigit_modUnit u c s
    · simp [none_] at left
    · exact ⟨f, eq, fun k => ⟨(kept k).1, .inl (kept k).2⟩⟩
  · exact ⟨_, rfl, fun _ => ⟨rfl, .inr rfl⟩⟩

/-- A sender that is not parked. -/
def UnitState.sending (st : UnitState) : Prop := st.isSender = true ∧ st ≠ .sender .parked

/-- A sender that is not parked, before and after. -/
theorem DigitUnit.SameKind.of_sending {k r : DigitUnit} (circuit : r.circuit = k.circuit) (was : k.state.sending)
    (now : r.state.sending) : k.SameKind r := by
  obtain ⟨was, unparked⟩ := was
  obtain ⟨now, unparked'⟩ := now
  refine ⟨circuit, now.trans was.symm, ?_, ?_, by simp [unparked, unparked']⟩
  · cases hk : k.state <;> cases hr : r.state <;> simp_all [UnitState.isSender, UnitState.isRegister]
  · cases hk : k.state <;> cases hr : r.state <;> simp_all [UnitState.isSender]

theorem UnitState.sending_of_start {st : UnitState} (h : st = .sender .inBreak ∨ st = .sender .waitStart) : st.sending := by
  rcases h with rfl | rfl <;> exact ⟨rfl, by simp⟩

theorem Manned.beginDigit (h : Manned e s) (sends : (s.unit u).state.sending) (c : Fin 96) :
    Manned e (beginDigit u c s) := by
  obtain ⟨eq, -⟩ | ⟨f, eq, kept⟩ := beginDigit_modUnit u c s
  · rw [eq]; exact h
  · rw [eq]
    exact h.modUnit (.of_sending (kept _).1 sends (UnitState.sending_of_start (.inl (kept _).2)))

theorem Manned.decideStart (h : Manned e s) (sends : (s.unit u).state.sending) (left : (s.circuit c).digitLeft = true) :
    Manned e (decideStart u c s) := by
  obtain ⟨f, eq, kept⟩ := decideStart_modUnit u c s left
  rw [eq]
  exact h.modUnit (.of_sending (kept _).1 sends (UnitState.sending_of_start (kept _).2))

theorem Alike.acknowledge (c : Fin 96) : Alike s (acknowledge c s) := by
  unfold Machine.acknowledge
  simp only
  split
  · exact Alike.modCircuit ⟨rfl, rfl, rfl, rfl, rfl, rfl, rfl, rfl, rfl, rfl⟩
  · exact (Alike.modCircuit (c := c) (f := fun k =>
      { k with ackPulse := .running, ackEnd := some (timeAfter s.timeBase (s.par c .ackSend)), timer := none })
      ⟨rfl, rfl, rfl, rfl, rfl, rfl, rfl, rfl, rfl, rfl⟩).trans (Alike.drive .on)

theorem acknowledge_parked (c : Fin 96) (s : State) : (acknowledge c s).parked = s.parked := by
  unfold acknowledge
  simp only
  split <;> rfl

/-- An attachment serves the request of its circuit (R104). -/
theorem Manned.attach {cls : UnitClass} (h : Manned e s) (closes : Closes e u c) (serves : Serves u c cls s)
    (was : (s.unit u).state ≠ .sender .parked) : Manned {} (attach u c cls s) := by
  unfold Machine.attach
  simp only
  cases cls with
  | sender =>
    unfold attachSender
    simp only [State.modUnit_modCircuit_modUnit]
    have linked := h.linkUnit closes serves (fu := fun k =>
      { k with circuit := some c, attachTime := s.timeBase, state := .sender .waitStart, count := 0, subEnd := none })
      (fc := fun k => { k with unit := some u, unitReq := none })
      { circuit := fun _ => rfl, crew := fun _ _ asks => .inl ⟨rfl, asks⟩, count := fun _ => rfl
        pulses := fun _ => rfl, rests := fun _ => by simp [UnitState.midDigit]
        called := fun _ => ⟨rfl, rfl, rfl, rfl, rfl, rfl, rfl⟩, unit := fun _ => rfl, unitReq := fun _ => rfl
        state := fun _ => rfl } was (fun _ => by simp)
    split
    · next left =>
      exact linked.decideStart (UnitState.sending_of_start (by simp [Machine.linkUnit])) left.2
    · exact linked
  | register =>
    unfold attachRegister
    simp only [State.modUnit_modCircuit_modUnit]
    have linked := h.linkUnit closes serves (fu := fun k =>
      { k with circuit := some c, attachTime := s.timeBase, state := .register .waitDigit, count := 0, brkStart := none
               prevBrkStart := none, longBrk := false, subEnd := none })
      (fc := fun k => { k with unit := some u, unitReq := none, state := .inReceiving })
      { circuit := fun _ => rfl, crew := fun _ _ _ => .inr ⟨rfl, rfl⟩, count := fun _ => rfl
        pulses := fun _ => rfl, rests := fun _ => by simp [UnitState.midDigit]
        called := fun _ => ⟨rfl, rfl, rfl, rfl, rfl, rfl, rfl⟩, unit := fun _ => rfl, unitReq := fun _ => rfl
        state := fun _ => rfl } was (fun _ => by simp)
    simp only [Machine.linkUnit, State.modCircuit_modCircuit] at linked ⊢
    split
    · exact linked.alike (.acknowledge c) (acknowledge_parked c _)
    · exact linked.alike (.startTimer _) rfl

/-! ## Detachment (R107, R109) -/

/-- A unit's circuit and the unit part; the unit is in flux. -/
theorem Manned.unlinkUnit (h : Manned e s) (none_ : e.spare = none) (u : Fin 16) :
    Manned { e with spare := some u } (unlinkUnit u s) := by
  obtain ⟨own, others, -, park, reg, snd, groups, -⟩ := unlinkUnit_spec s u
  have kept := fun x => unlinkUnit_circuit_called (s := s) (u := u) x
  have group : ∀ g, (Machine.unlinkUnit u s).group g = s.group g := fun g => by simp [State.group, groups]
  refine ⟨h.staffed.unlinkUnit u, fun g x hx => ?_, fun g => ?_, fun x r hx => ?_, fun busy => ⟨fun v hv => ?_, ?_⟩,
    fun v => ?_, ?_, fun v hv => ?_⟩
  · rw [(kept x).2.1, (kept x).1.group, group]; exact h.listed g x hx
  · rw [group]; exact h.idleOnce g
  · rw [(kept x).2.2, reg, snd]; exact h.entered x r hx
  · rw [others v (fun hvu => hv (by rw [hvu]))]
    exact (h.noneFree (by rwa [reg, snd] at busy)).1 v (by simp [none_])
  · rw [park, (h.noneFree (by rwa [reg, snd] at busy)).2]; rfl
  · rw [park]
    by_cases hv : v = u
    · subst hv; simp [own, DigitUnit.detached]
    · simp [others v hv, hv, h.parkedList]
  · rw [park]; exact h.parkedOnce.filter _
  · by_cases hvu : v = u
    · subst hvu; simp [own, DigitUnit.detached, UnitState.isSender, UnitState.isRegister] at hv
    · rw [others v hvu] at hv ⊢; exact h.attached v hv

/-- A unit in flux goes out of service. -/
theorem Manned.retire {f : DigitUnit → DigitUnit} (h : Manned { e with spare := some u } s) (free : (s.unit u).state = .free)
    (circuit : (f (s.unit u)).circuit = (s.unit u).circuit) (state : (f (s.unit u)).state = .outOfService) : Manned e (s.modUnit u f) := by
  have unattached : (s.unit u).circuit = none :=
    h.staffed.unattached (by simp [free, UnitState.isSender]) (by simp [free, UnitState.isRegister])
  refine ⟨h.staffed.modUnit circuit fun x hx => by simp [unattached] at hx, h.listed, h.idleOnce, h.entered,
    fun busy => ⟨fun v _ => ?_, (h.noneFree busy).2⟩, fun v => ?_, h.parkedOnce, fun v hv => ?_⟩
  · rw [State.modUnit_unit]
    split
    · simp [state]
    · next hv => exact (h.noneFree busy).1 v (by simpa using Ne.symm hv)
  · rw [State.modUnit_unit]
    split
    · next hv => subst hv; simp [state, h.parkedList, free]
    · exact h.parkedList v
  · rw [State.modUnit_unit] at hv ⊢
    split at hv
    · simp [state, UnitState.isSender, UnitState.isRegister] at hv
    · next hvu => rw [if_neg hvu]; exact h.attached v hv

/-- A unit out of service comes back; it is in flux. -/
theorem Manned.bringBack (h : Manned {} s) (oos : (s.unit u).state = .outOfService) :
    Manned { spare := some u } (s.modUnit u fun k => { k with state := .free }) := by
  have unattached : (s.unit u).circuit = none :=
    h.staffed.unattached (by simp [oos, UnitState.isSender]) (by simp [oos, UnitState.isRegister])
  refine ⟨h.staffed.modUnit rfl fun x hx => by simp [unattached] at hx, h.listed, h.idleOnce, h.entered,
    fun busy => ⟨fun v hv => ?_, (h.noneFree busy).2⟩, fun v => ?_, h.parkedOnce, fun v hv => ?_⟩
  · rw [State.modUnit_unit_ne s u _ (by simpa using Ne.symm hv)]
    exact (h.noneFree busy).1 v (by simp)
  · rw [State.modUnit_unit]
    split
    · next hv => subst hv; simp [h.parkedList, oos]
    · exact h.parkedList v
  · rw [State.modUnit_unit] at hv ⊢
    split at hv
    · simp [UnitState.isSender, UnitState.isRegister] at hv
    · next hvu => rw [if_neg hvu]; exact h.attached v hv

/-- The head of a class leaves the queue; its circuit is in flux. -/
theorem Manned.dequeue {x : QueueEntry} {reg snd : List QueueEntry} (h : Manned e s) (none_ : e.asking = none)
    (heads : (s.regQueue = x :: reg ∧ snd = s.sndQueue) ∨ (reg = s.regQueue ∧ s.sndQueue = x :: snd)) :
    Manned { e with asking := some x.circuit } { s with regQueue := reg, sndQueue := snd } := by
  have regSub : reg.Sublist s.regQueue := by
    rcases heads with ⟨e, -⟩ | ⟨e, -⟩ <;> rw [e]
    exact List.sublist_cons_self _ _
  have sndSub : snd.Sublist s.sndQueue := by
    rcases heads with ⟨-, e⟩ | ⟨-, e⟩ <;> rw [e]
    exact List.sublist_cons_self _ _
  have head : ∀ {y : QueueEntry}, y.circuit ≠ x.circuit → (y ∈ s.regQueue → y ∈ reg) ∧ (y ∈ s.sndQueue → y ∈ snd) :=
    fun {y} hy => by
      have away : y ≠ x := fun e => hy (by rw [e])
      rcases heads with ⟨hr, hs⟩ | ⟨hr, hs⟩
      · exact ⟨fun hm => by simpa [hr, away] using hm, fun hm => hs ▸ hm⟩
      · exact ⟨fun hm => hr ▸ hm, fun hm => by simpa [hs, away] using hm⟩
  refine ⟨h.staffed.setQueues regSub sndSub, h.listed, h.idleOnce, fun c r hc hr => ?_, fun busy => h.noneFree fun empty => ?_,
    h.parkedList, h.parkedOnce, h.attached⟩
  · have entry := h.entered c r (by simp [none_]) hr
    have other : c ≠ x.circuit := fun e => hc (by rw [e])
    split at entry
    · next cls => rw [if_pos cls]; exact (head other).1 entry
    · next cls => rw [if_neg cls]; exact (head other).2 entry
  · exact busy (List.sublist_nil.mp (empty ▸ regSub.append sndSub))

/-- With nothing waiting a unit in flux stays FREE. -/
theorem Manned.unspare (h : Manned { e with spare := some u } s) (reg : s.regQueue = []) (snd : s.sndQueue = []) :
    Manned e s :=
  { h with noneFree := fun busy => absurd (by rw [reg, snd]; rfl) busy }

theorem Staffed.head_unqueued {x : QueueEntry} {l : List QueueEntry} (once : ((x :: l).map (·.circuit)).Nodup) :
    ∀ y ∈ l, y.circuit ≠ x.circuit := fun y hy same => by
  rw [List.map_cons, List.nodup_cons] at once
  exact once.1 (same ▸ List.mem_map_of_mem hy)

/-- A FREE unit in flux serves the head of the queue, or stays FREE (R107). -/
theorem Manned.becomeAvailable (h : Manned { spare := some u } s) (free : (s.unit u).state = .free) :
    Manned {} (becomeAvailable u s) := by
  have unattached : (s.unit u).circuit = none :=
    h.staffed.unattached (by simp [free, UnitState.isSender]) (by simp [free, UnitState.isRegister])
  have once := h.staffed.queuedOnce
  have serves : ∀ {x : QueueEntry} {reg snd : List QueueEntry} {cls : UnitClass},
      (s.regQueue = x :: reg ∧ snd = s.sndQueue) ∨ (reg = s.regQueue ∧ s.sndQueue = x :: snd) →
      AsksFor cls (s.circuit x.circuit).state ∧ (s.circuit x.circuit).unit = none ∧
        (s.circuit x.circuit).unitReq ≠ none → (∀ y ∈ reg ++ snd, y.circuit ≠ x.circuit) →
      Manned {} (Machine.attach u x.circuit cls { s with regQueue := reg, sndQueue := snd }) := fun heads asks away =>
    (h.dequeue rfl heads).attach ⟨by simp, by simp, rfl⟩ ⟨unattached, asks.2.1, asks.1, away⟩
      (show (s.unit u).state ≠ _ by simp [free])
  obtain ⟨reg, snd, eq⟩ | ⟨x, rest, reg, eq⟩ | ⟨x, rest, reg, snd, eq⟩ := becomeAvailable_cases s u
  · rw [eq]; exact h.unspare reg snd
  · rw [eq]
    rw [reg] at once
    exact serves (.inl ⟨reg, rfl⟩) (h.staffed.registerEntries x (by simp [reg])) (Staffed.head_unqueued once)
  · rw [eq]
    rw [reg, snd] at once
    exact serves (.inr ⟨rfl, snd⟩) (h.staffed.senderEntries x (by simp [snd]))
      (by rw [reg]; exact Staffed.head_unqueued once)

/-- A detached unit goes out of service or serves the queue (R109). -/
theorem Manned.detach_of_unlinked (h : Manned { spare := some u } (Machine.unlinkUnit u s)) : Manned {} (detach u s) := by
  have free : ((Machine.unlinkUnit u s).unit u).state = .free := by rw [(unlinkUnit_spec s u).1]; rfl
  unfold Machine.detach
  simp only
  split
  · exact h.retire free rfl rfl
  · exact h.becomeAvailable free

theorem Manned.detach (h : Manned {} s) (u : Fin 16) : Manned {} (detach u s) := (h.unlinkUnit rfl u).detach_of_unlinked

theorem Manned.detachFrom (h : Manned {} s) (c : Fin 96) : Manned {} (detachFrom c s) := by
  unfold Machine.detachFrom
  split
  · exact h.detach _
  · exact h

theorem Manned.letGo (h : Manned {} s) (c : Fin 96) : Manned {} (letGo c s) := (h.detachFrom c).withdraw c

/-- A circuit let go of, which is not idle, is apart. -/
theorem Manned.letGo_apart (h : Manned {} s) (idle : (s.circuit c).state ≠ .idle) : Apart c (Machine.letGo c s) := by
  have own := h.staffed.letGo_circuit (c := c)
  refine ⟨by rw [own], by rw [own], fun g hg => ?_⟩
  have rests := ((h.letGo c).staffed.idle g c hg).1
  rw [own] at rests
  exact idle rests

/-- A state that no unit serves and that asks for none, before the detachment of the circuit's unit: it comes to the same
after it. -/
theorem Manned.moveState_detachFrom {f : Circuit → Circuit} (h : Manned {} s) (blind : UnitBlind f)
    (unitReq : (s.circuit c).unitReq = none) (idle : (s.circuit c).state ≠ .idle)
    (kept : ∀ k : Circuit, (f k).unit = k.unit ∧ (f k).unitReq = k.unitReq ∧ (f k).state ≠ .idle) :
    Manned {} (Machine.detachFrom c (s.modCircuit c f)) := by
  have notIdle : ∀ g, c ∉ (s.group g).idle := fun g hg => idle (h.staffed.idle g c hg).1
  unfold Machine.detachFrom
  rw [State.modCircuit_circuit_self, (kept _).1]
  cases hu : (s.circuit c).unit with
  | none => exact (h.out rfl c).moveState ⟨hu, unitReq, notIdle⟩ (kept _).1 (kept _).2.1 (kept _).2.2
  | some u =>
    obtain ⟨-, -, circ, -, -, -, groups, -⟩ := unlinkUnit_spec s u
    have own : (Machine.unlinkUnit u s).circuit c = { s.circuit c with unit := none } := by
      rw [circ, if_pos ((h.staffed.linked u c).mpr hu)]
    refine Manned.detach_of_unlinked ?_
    rw [unlinkUnit_modCircuit blind]
    refine ((h.unlinkUnit rfl u).out rfl c).moveState ⟨by rw [own], by rw [own]; exact unitReq, fun g => ?_⟩
      (kept _).1 (kept _).2.1 (kept _).2.2
    simpa [State.group, groups] using notIdle g

/-! ## Requests that are served, or wait (R105) -/

/-- A unit that is FREE, or a sender that is parked, leaves nothing waiting. -/
theorem Manned.none_waits (h : Manned {} s) (ready : (∃ u, (s.unit u).state = .free) ∨ s.parked ≠ []) :
    s.regQueue = [] ∧ s.sndQueue = [] := by
  by_contra busy
  obtain ⟨free, empty⟩ := h.noneFree (by simpa [← List.append_eq_nil_iff] using busy)
  rcases ready with ⟨u, hu⟩ | parked
  · exact free u (by simp) hu
  · exact parked empty

theorem Manned.setRequest (h : Manned e s) (r : Option UnitReq) (none_ : e.asking = none)
    (unqueued : ∀ x ∈ s.regQueue ++ s.sndQueue, x.circuit ≠ c)
    (asks : r ≠ none → (∃ cls, AsksFor cls (s.circuit c).state) ∧ (s.circuit c).unit = none) :
    Manned { e with asking := some c } (s.modCircuit c fun k => { k with unitReq := r }) where
  staffed := h.staffed.setRequest r unqueued asks
  listed g x hx := by
    rw [State.modCircuit_circuit]
    split
    · next hc => subst hc; exact h.listed g x hx
    · exact h.listed g x hx
  idleOnce := h.idleOnce
  entered x r' hx hr := by
    rw [State.modCircuit_circuit_ne s c _ (by simpa using Ne.symm hx)] at hr
    exact h.entered x r' (by simp [none_]) hr
  noneFree := h.noneFree
  parkedList := h.parkedList
  parkedOnce := h.parkedOnce
  attached := h.attached

/-- The queues with an entry at the tail of its class. -/
theorem enqueue_perm (c : Fin 96) (cls : UnitClass) (s : State) :
    ((enqueue c cls s).regQueue ++ (enqueue c cls s).sndQueue).Perm
      ({ circuit := c, time := s.timeBase } :: (s.regQueue ++ s.sndQueue)) := by
  cases cls
  · simp [enqueue]
  · simp [enqueue, ← List.append_assoc]

theorem Staffed.enqueue {cls : UnitClass} (h : Staffed s) (request : (s.circuit c).unitReq ≠ none)
    (unit : (s.circuit c).unit = none) (asks : AsksFor cls (s.circuit c).state)
    (unqueued : ∀ x ∈ s.regQueue ++ s.sndQueue, x.circuit ≠ c) : Staffed (enqueue c cls s) := by
  have once : (((Machine.enqueue c cls s).regQueue ++ (Machine.enqueue c cls s).sndQueue).map (·.circuit)).Nodup := by
    refine ((enqueue_perm c cls s).map _).nodup_iff.mpr (List.nodup_cons.mpr ⟨fun hc => ?_, h.queuedOnce⟩)
    obtain ⟨x, hx, same⟩ := List.mem_map.mp hc
    exact unqueued x hx same
  cases cls with
  | register =>
    refine ⟨h.idle, h.linked, h.crew, h.requests, fun x hx => ?_, h.senderEntries, once⟩
    rcases List.mem_append.mp hx with hx | hx
    · exact h.registerEntries x hx
    · obtain rfl := List.mem_singleton.mp hx
      exact ⟨asks, unit, request⟩
  | sender =>
    refine ⟨h.idle, h.linked, h.crew, h.requests, h.registerEntries, fun x hx => ?_, once⟩
    rcases List.mem_append.mp hx with hx | hx
    · exact h.senderEntries x hx
    · obtain rfl := List.mem_singleton.mp hx
      exact ⟨asks, unit, request⟩

/-- A request that no unit serves joins the queue with the instant it was made. -/
theorem Manned.enqueue {r : UnitReq} (h : Manned { asking := some c } s)
    (request : (s.circuit c).unitReq = some r) (made : r.time = s.timeBase)
    (unit : (s.circuit c).unit = none) (asks : AsksFor r.cls (s.circuit c).state)
    (unqueued : ∀ x ∈ s.regQueue ++ s.sndQueue, x.circuit ≠ c) (free : ∀ u, (s.unit u).state ≠ .free)
    (parked : s.parked = []) : Manned {} (enqueue c r.cls s) := by
  have staffed := h.staffed.enqueue (by simp [request]) unit asks unqueued
  have old : ∀ x r', (s.circuit x).unitReq = some r' → x ≠ c →
      { circuit := x, time := r'.time } ∈ (if r'.cls = .register then s.regQueue else s.sndQueue) := fun x r' hr hx =>
    h.entered x r' (by simpa using Ne.symm hx) hr
  unfold Machine.enqueue at *
  cases hcls : r.cls with
  | register =>
    rw [hcls] at staffed
    refine ⟨staffed, h.listed, h.idleOnce, fun x r' _ hr => ?_, fun _ => ⟨fun u _ => free u, parked⟩,
      h.parkedList, h.parkedOnce, h.attached⟩
    by_cases hx : x = c
    · subst hx
      obtain rfl : r' = r := by simpa using hr.symm.trans request
      simp [hcls, made]
    · have entry := old x r' hr hx
      split at entry
      · next cls => rw [if_pos cls]; exact List.mem_append_left _ entry
      · next cls => rw [if_neg cls]; exact entry
  | sender =>
    rw [hcls] at staffed
    refine ⟨staffed, h.listed, h.idleOnce, fun x r' _ hr => ?_, fun _ => ⟨fun u _ => free u, parked⟩,
      h.parkedList, h.parkedOnce, h.attached⟩
    by_cases hx : x = c
    · subst hx
      obtain rfl : r' = r := by simpa using hr.symm.trans request
      simp [hcls, made]
    · have entry := old x r' hr hx
      split at entry
      · next cls => rw [if_pos cls]; exact entry
      · next cls => rw [if_neg cls]; exact List.mem_append_left _ entry

/-- A request takes a FREE unit, the sender parked earliest, or a place in the queue (R105). -/
theorem Manned.requestUnit {cls : UnitClass} (h : Manned {} s) (may : MayAsk c cls s) : Manned {} (requestUnit c cls s) := by
  have unqueued := h.staffed.not_queued may.unitReq
  have requested := h.setRequest (some { cls := cls, time := s.timeBase, wait := s.requestWait c cls }) rfl unqueued
    fun _ => ⟨⟨cls, may.asks⟩, may.unit⟩
  obtain ⟨u, hu, eq⟩ | ⟨u, rest, -, parked, eq⟩ | ⟨free, parked, eq⟩ := requestUnit_cases s c cls
  · rw [eq]
    have free := (State.freeUnit_some s hu).1
    refine requested.attach ⟨by simp, by simp, rfl⟩ ⟨?_, by simpa using may.unit, by simpa using may.asks, unqueued⟩
      (show (s.unit u).state ≠ _ by simp [free])
    exact h.staffed.unattached (by simp [free, UnitState.isSender]) (by simp [free, UnitState.isRegister])
  · rw [eq]
    obtain ⟨own, -, circ, -, reg, snd, -⟩ := unlinkUnit_spec (s.modCircuit c fun k =>
      { k with unitReq := some { cls := cls, time := s.timeBase, wait := s.requestWait c cls } }) u
    refine (requested.unlinkUnit rfl u).attach ⟨by simp, by simp, rfl⟩ ⟨?_, ?_, ?_, ?_⟩ ?_
    · rw [own]; rfl
    · rw [requested.staffed.unlinkUnit_unit]; simp [may.unit]
    · rw [(unlinkUnit_circuit_called c).2.1]; simpa using may.asks
    · rw [reg, snd]; exact unqueued
    · rw [own]; simp [DigitUnit.detached]
  · rw [eq]
    exact requested.enqueue (r := { cls := cls, time := s.timeBase, wait := s.requestWait c cls }) (by simp) rfl
      (by simpa using may.unit) (by simpa using may.asks) unqueued (State.freeUnit_none s |>.mp free) parked

/-! ## Parking (R110, R114) -/

/-- One sender changes, and stays a sender; the parked list follows. -/
theorem Manned.resend {f : DigitUnit → DigitUnit} {l : List (Fin 16)} (h : Manned {} s)
    (was : (s.unit u).state.isSender = true) (now : (f (s.unit u)).state.isSender = true)
    (circuit : (f (s.unit u)).circuit = (s.unit u).circuit) (once : l.Nodup)
    (list : ∀ v, v ∈ l ↔ ((s.modUnit u f).unit v).state = .sender .parked)
    (waits : s.regQueue ++ s.sndQueue ≠ [] → l = []) : Manned {} { s.modUnit u f with parked := l } := by
  have staffed := h.staffed.modUnit circuit fun x hx => .inl ⟨now, (h.staffed.crew u x hx).of_sender was⟩
  refine ⟨⟨staffed.idle, staffed.linked, staffed.crew, staffed.requests, staffed.registerEntries, staffed.senderEntries,
    staffed.queuedOnce⟩, h.listed, h.idleOnce, h.entered, fun busy => ⟨fun v _ => ?_, waits busy⟩, list, once, fun v => ?_⟩
  · refine (show ((s.modUnit u f).unit v).state ≠ _ from ?_)
    rw [State.modUnit_unit]
    split
    · intro free; rw [free] at now; cases now
    · exact (h.noneFree busy).1 v (by simp)
  · refine (show ((s.modUnit u f).unit v).state.isSender = true ∨ ((s.modUnit u f).unit v).state.isRegister = true →
      ((s.modUnit u f).unit v).circuit.isSome = true from ?_)
    rw [State.modUnit_unit]
    split
    · exact fun _ => circuit ▸ h.attached u (.inl was)
    · exact h.attached v

/-- A sender parks while nothing waits. -/
theorem Manned.park (h : Manned {} s) (sends : (s.unit u).state.sending) (c : Fin 96) (reg : s.regQueue = [])
    (snd : s.sndQueue = []) : Manned {} (park u c s) := by
  have away : u ∉ s.parked := fun hu => sends.2 ((h.parkedList u).mp hu)
  refine h.resend sends.1 rfl rfl (List.nodup_append.mpr ⟨h.parkedOnce, by simp, fun a ha b hb e => ?_⟩) (fun v => ?_)
    fun busy => absurd (by simp [reg, snd]) busy
  · exact away (by simpa [← List.mem_singleton.mp hb, ← e] using ha)
  · rw [State.modUnit_unit]
    by_cases hv : v = u
    · simp [hv]
    · simp [hv, h.parkedList]

theorem State.modUnit_setParked (s : State) (u : Fin 16) (f f' : DigitUnit → DigitUnit) (l : List (Fin 16)) :
    State.modUnit { s.modUnit u f with parked := l } u f' = { s.modUnit u (fun k => f' (f k)) with parked := l } := by
  simp [State.modUnit, State.unit]

/-- A parked sender resumes with a digit left. -/
theorem Manned.resume (h : Manned {} s) (parked : (s.unit u).state = .sender .parked)
    (left : (s.circuit c).digitLeft = true) : Manned {} (resume u c s) := by
  obtain ⟨f, eq, kept⟩ := decideStart_modUnit u c { s.modUnit u fun k => { k with attachTime := s.timeBase } with
    parked := s.parked.filter fun v => v ≠ u } left
  have start := UnitState.sending_of_start (kept { s.unit u with attachTime := s.timeBase }).2
  rw [show Machine.resume u c s = _ from eq.trans (State.modUnit_setParked s u _ f _)]
  refine h.resend (by simp [parked, UnitState.isSender]) start.1 (kept _).1 (h.parkedOnce.filter _) (fun v => ?_)
    fun busy => by rw [(h.noneFree busy).2]; rfl
  rw [State.modUnit_unit]
  by_cases hv : v = u
  · simp [hv, start.2]
  · simp [hv, h.parkedList]

theorem Manned.endWithoutEon (h : Manned {} s) (sends : (s.unit u).state.sending) (c : Fin 96) :
    Manned {} (endWithoutEon u c s) := by
  unfold Machine.endWithoutEon
  split
  · exact h.detach u
  · next stays =>
    simp only [not_or, not_not] at stays
    exact h.park sends c stays.2.1 stays.2.2

/-! ## The idle lists (R24, R27) -/

/-- A group's idle list loses circuits that are in flux, or none. -/
theorem Manned.modGroup {g : Fin 8} {f : Group → Group} (h : Manned e s)
    (sub : (f (s.group g)).idle.Sublist (s.group g).idle)
    (stays : ∀ c ∈ (s.group g).idle, e.out ≠ some c → c ∈ (f (s.group g)).idle) : Manned e (s.modGroup g f) := by
  have sub' : ∀ x, ((s.modGroup g f).group x).idle.Sublist (s.group x).idle := fun x => by
    rw [State.modGroup_group]
    split
    · next hx => subst hx; exact sub
    · exact List.Sublist.refl _
  exact
    { h with
      staffed := ⟨fun x d hd => h.staffed.idle x d ((sub' x).subset hd), h.staffed.linked, h.staffed.crew,
        h.staffed.requests, h.staffed.registerEntries, h.staffed.senderEntries, h.staffed.queuedOnce⟩
      listed := fun x d hd rests hg => by
        have listed := h.listed x d hd rests hg
        rw [State.modGroup_group]
        split
        · next hx => subst hx; exact stays d listed hd
        · exact listed
      idleOnce := fun x => (h.idleOnce x).sublist (sub' x) }

/-- A change of a group that leaves its idle list alone. -/
theorem Manned.modGroup_idle {g : Fin 8} {f : Group → Group} (h : Manned e s)
    (idle : (f (s.group g)).idle = (s.group g).idle) : Manned e (s.modGroup g f) :=
  h.modGroup (by rw [idle]) fun c hc _ => by rwa [idle]

theorem Manned.leaveIdleList (h : Manned e s) (none_ : e.out = none) (c : Fin 96) :
    Manned { e with out := some c } (leaveIdleList c s) := by
  unfold Machine.leaveIdleList
  split
  · exact (h.out none_ c).modGroup List.filter_sublist fun x hx away =>
      List.mem_filter.mpr ⟨hx, by simpa using Ne.symm away⟩
  · exact h.out none_ c

/-- A circuit that is on no idle list, of which no unit knows, joins the tail of its group's list and is IDLE (R27). -/
theorem Manned.joinIdle {f : Circuit → Circuit} {g : Fin 8} (h : Manned { out := some c } s) (apart : Apart c s)
    (group : (s.circuit c).group = some g) (kept : (f (s.circuit c)).group = (s.circuit c).group)
    (unit : (f (s.circuit c)).unit = (s.circuit c).unit) (unitReq : (f (s.circuit c)).unitReq = (s.circuit c).unitReq)
    (state : (f (s.circuit c)).state = .idle) :
    Manned {} ((s.modCircuit c f).modGroup g fun k => { k with idle := k.idle ++ [c] }) := by
  have staffed := h.staffed.modCircuit_apart apart unit unitReq
  have idle : ∀ x, (((s.modCircuit c f).modGroup g fun k => { k with idle := k.idle ++ [c] }).group x).idle =
      if x = g then (s.group g).idle ++ [c] else (s.group x).idle := fun x => by
    rw [State.modGroup_group]
    split
    · next hx => rfl
    · rfl
  have own : (s.modCircuit c f).circuit c = f (s.circuit c) := State.modCircuit_circuit_self s c f
  refine ⟨⟨fun x d hd => ?_, staffed.linked, staffed.crew, staffed.requests, staffed.registerEntries,
    staffed.senderEntries, staffed.queuedOnce⟩, fun x d _ rests hd => ?_, fun x => ?_, fun d r _ hr => ?_, h.noneFree,
    h.parkedList, h.parkedOnce, h.attached⟩
  · rw [idle] at hd
    rw [State.modGroup_circuit]
    split at hd
    · next hx =>
      subst hx
      rcases List.mem_append.mp hd with hd | hd
      · exact staffed.idle x d hd
      · obtain rfl := List.mem_singleton.mp hd
        rw [own, kept]; exact ⟨state, group⟩
    · exact staffed.idle x d hd
  · rw [idle]
    rw [State.modGroup_circuit] at rests hd
    by_cases hc : d = c
    · subst hc
      obtain rfl : g = x := by rw [own, kept, group] at hd; simpa using hd
      simp
    · rw [State.modCircuit_circuit_ne s c f hc] at rests hd
      have listed := h.listed x d (by simpa using Ne.symm hc) rests hd
      split
      · next hx => exact List.mem_append_left _ (hx ▸ listed)
      · exact listed
  · rw [idle]
    split
    · exact List.nodup_append.mpr ⟨h.idleOnce g, by simp, fun a ha b hb e =>
        apart.idle g (by simpa [← List.mem_singleton.mp hb, ← e] using ha)⟩
    · exact h.idleOnce x
  · rw [State.modGroup_circuit] at hr
    by_cases hc : d = c
    · subst hc; rw [own, unitReq, apart.unitReq] at hr; cases hr
    · rw [State.modCircuit_circuit_ne s c f hc] at hr
      exact h.entered d r (by simp) hr

/-- A slot, and with it a port, is nothing to the pool. -/
theorem Manned.modPort (h : Manned e s) (p : Port) (f : PortRecord → PortRecord) : Manned e (s.modPort p f) := by
  cases p <;>
    exact ⟨⟨h.staffed.idle, h.staffed.linked, h.staffed.crew, h.staffed.requests, h.staffed.registerEntries,
      h.staffed.senderEntries, h.staffed.queuedOnce⟩, h.listed, h.idleOnce, h.entered, h.noneFree, h.parkedList,
      h.parkedOnce, h.attached⟩

theorem Manned.setSlot (h : Manned e s) (id : SlotId) (k : Slot) : Manned e (s.setSlot id k) := h.modPort id.port _

end Manned

end Sys2Proof.Machine

/-! PROOFS. The walk that keeps the pool in agreement with the circuits (R24, R102 to R106, R111): free circuits, entries to the
seizing states, the outgoing and the incoming call, and glare. -/

namespace Sys2Proof.Machine

section PoolWalk

variable {s t v : State} {c d : Fin 96} {u : Fin 16} {id : SlotId} {call : SlotCall}
  {digits : List (Fin 10)} {eon : Bool}

/-! ## What the pool does not see -/

/-- Two states alike in all that the agreement of the pool speaks of. -/
structure Unseen (s t : State) : Prop where
  alike : Alike s t
  parked : t.parked = s.parked

theorem Unseen.trans (h : Unseen s t) (k : Unseen t v) : Unseen s v :=
  ⟨h.alike.trans k.alike, k.parked.trans h.parked⟩

theorem Unseen.refl (s : State) : Unseen s s := ⟨.refl s, rfl⟩

theorem PoolSound.unseen (h : PoolSound s) (a : Unseen s t) : PoolSound t := (h.manned.alike a.alike a.parked).sound

theorem Unseen.modCircuit {f : Circuit → Circuit} (hf : (s.circuit c).Alike (f (s.circuit c))) :
    Unseen s (s.modCircuit c f) := ⟨.modCircuit hf, rfl⟩

theorem Unseen.drive (c : Fin 96) (cond : Cond) : Unseen s (s.drive c cond) := ⟨.drive cond, rfl⟩

theorem Unseen.startTimer (c : Fin 96) (n : Nat) : Unseen s (s.startTimer c n) := ⟨.startTimer n, rfl⟩

theorem Unseen.stopTimer (c : Fin 96) : Unseen s (s.modCircuit c fun k => { k with timer := none }) :=
  .modCircuit ⟨rfl, rfl, rfl, rfl, rfl, rfl, rfl, rfl, rfl, rfl⟩

theorem Unseen.raiseWith (p : Port) (it : Item) (f : EventSet → EventSet) : Unseen s (s.raiseWith p it f) :=
  ⟨.modPort p rfl, by cases p <;> rfl⟩

theorem Unseen.raiseBoth (it : Item) (e : Event) : Unseen s (s.raiseBoth it e) :=
  (Unseen.raiseWith .A it (·.add e)).trans (.raiseWith .B it (·.add e))

theorem Unseen.raiseCircuit (c : Fin 96) (e : Event) : Unseen s (s.raiseCircuit c e) := by
  unfold State.raiseCircuit
  split
  · exact .raiseWith _ _ _
  · exact .raiseBoth _ _

theorem Unseen.raiseAnswered (c : Fin 96) (n : Nat) : Unseen s (s.raiseAnswered c n) := by
  unfold State.raiseAnswered
  split
  · exact .raiseWith _ _ _
  · exact (Unseen.raiseWith .A _ _).trans (.raiseWith .B _ _)

theorem PoolSound.modPort (h : PoolSound s) (p : Port) (f : PortRecord → PortRecord) : PoolSound (s.modPort p f) :=
  (h.manned.modPort p f).sound

theorem PoolSound.setSlot (h : PoolSound s) (id : SlotId) (k : Slot) : PoolSound (s.setSlot id k) := h.modPort id.port _

theorem PoolSound.raiseSlot (h : PoolSound s) (id : SlotId) (e : Event) : PoolSound (s.raiseSlot id e) :=
  h.unseen (.raiseWith id.port (.slot id.num) (·.add e))

theorem PoolSound.raiseGroup (h : PoolSound s) (g : Fin 8) (e : Event) : PoolSound (s.raiseGroup g e) :=
  h.unseen (.raiseBoth _ e)

theorem PoolSound.raiseCircuit (h : PoolSound s) (c : Fin 96) (e : Event) : PoolSound (s.raiseCircuit c e) :=
  h.unseen (.raiseCircuit c e)

theorem PoolSound.drive (h : PoolSound s) (c : Fin 96) (cond : Cond) : PoolSound (s.drive c cond) := h.unseen (.drive c cond)

theorem PoolSound.startTimer (h : PoolSound s) (c : Fin 96) (n : Nat) : PoolSound (s.startTimer c n) :=
  h.unseen (.startTimer c n)

/-- A change of a circuit that is of no concern to the pool. -/
theorem PoolSound.modCircuit {f : Circuit → Circuit} (h : PoolSound s) (state : (f (s.circuit c)).state = (s.circuit c).state)
    (group : (f (s.circuit c)).group = (s.circuit c).group) (unit : (f (s.circuit c)).unit = (s.circuit c).unit)
    (unitReq : (f (s.circuit c)).unitReq = (s.circuit c).unitReq) : PoolSound (s.modCircuit c f) :=
  (h.manned.modCall (.inl state) group unit unitReq).sound

theorem PoolSound.modGroup {g : Fin 8} {f : Group → Group} (h : PoolSound s) (idle : (f (s.group g)).idle = (s.group g).idle) :
    PoolSound (s.modGroup g f) := (h.manned.modGroup_idle idle).sound

theorem PoolSound.foldl {α : Type} {f : State → α → State} (step : ∀ t a, PoolSound t → PoolSound (f t a)) (l : List α) :
    ∀ t, PoolSound t → PoolSound (l.foldl f t) := by
  induction l with
  | nil => exact fun _ h => h
  | cons a l ih => exact fun t h => ih _ (step t a h)

/-! ## Free circuits -/

theorem PoolSound.apart (h : PoolSound s) (unit : (s.circuit c).unit = none) (unitReq : (s.circuit c).unitReq = none)
    (idle : (s.circuit c).state ≠ .idle) : Apart c s :=
  ⟨unit, unitReq, fun g hg => idle (h.staffed.idle g c hg).1⟩

theorem Apart.unseen (h : Apart c s) (a : Unseen s t) : Apart c t := h.alike a.alike

theorem Apart.modCircuit {f : Circuit → Circuit} (h : Apart c s) (unit : (f (s.circuit c)).unit = (s.circuit c).unit)
    (unitReq : (f (s.circuit c)).unitReq = (s.circuit c).unitReq) : Apart c (s.modCircuit c f) := by
  have own := State.modCircuit_circuit_self s c f
  exact ⟨by rw [own, unit, h.unit], by rw [own, unitReq, h.unitReq], h.idle⟩

/-- A free circuit takes a state other than IDLE. -/
theorem PoolSound.moveState {f : Circuit → Circuit} (h : PoolSound s) (apart : Apart c s)
    (unit : (f (s.circuit c)).unit = (s.circuit c).unit) (unitReq : (f (s.circuit c)).unitReq = (s.circuit c).unitReq)
    (state : (f (s.circuit c)).state ≠ .idle) : PoolSound (s.modCircuit c f) :=
  (Manned.moveState (e := {}) (h.manned.out rfl c) apart unit unitReq state).sound

/-- A circuit that rests, or waits for its guard, is free. -/
theorem PoolSound.apart_of_resting (h : PoolSound s)
    (state : (s.circuit c).state = .outReleasing ∨ (s.circuit c).state = .fault ∨ (s.circuit c).state = .inGuard ∨
      (s.circuit c).state = .inPreseize ∨ (s.circuit c).state = .blocked) : Apart c s := by
  apply h.staffed.apart <;> rcases state with hs | hs | hs | hs | hs <;> simp [hs, CircuitState.sends]

/-! ## The pool (R104 to R109) -/

theorem PoolSound.detach (h : PoolSound s) (u : Fin 16) : PoolSound (detach u s) := (h.manned.detach u).sound

theorem PoolSound.letGo (h : PoolSound s) (c : Fin 96) : PoolSound (letGo c s) := (h.manned.letGo c).sound

theorem PoolSound.withdraw (h : PoolSound s) (c : Fin 96) : PoolSound (withdraw c s) := (h.manned.withdraw c).sound

theorem PoolSound.requestUnit {cls : UnitClass} (h : PoolSound s) (may : MayAsk c cls s) :
    PoolSound (requestUnit c cls s) := (h.manned.requestUnit may).sound

theorem PoolSound.letGo_apart (h : PoolSound s) (idle : (s.circuit c).state ≠ .idle) : Apart c (Machine.letGo c s) :=
  h.manned.letGo_apart idle

/-! ## Entries to the seizing states (R36, R41, R66) -/

/-- A free circuit that is off the idle lists is seized for a slot. -/
theorem Manned.enterOutSeizing (h : Manned { out := some c } s) (apart : Apart c s) :
    PoolSound (enterOutSeizing c id digits eon s) := by
  have entered : ∀ f : Circuit → Circuit, (f (s.circuit c)).unit = (s.circuit c).unit →
      (f (s.circuit c)).unitReq = (s.circuit c).unitReq → (f (s.circuit c)).state = .outSeizing →
      PoolSound ((s.modCircuit c f).drive c .on) := fun f unit unitReq state =>
    (Manned.moveState (e := {}) h apart unit unitReq (by simp [state])).sound.drive c .on
  unfold Machine.enterOutSeizing
  simp only
  split
  · exact entered _ rfl rfl rfl
  · refine (entered _ rfl rfl rfl).requestUnit ⟨?_, ?_, ?_⟩
    · simpa [State.drive_circuit, Circuit.startCall] using apart.unit
    · simpa [State.drive_circuit, Circuit.startCall] using apart.unitReq
    · simp [State.drive_circuit, AsksFor, CircuitState.sends]

/-- A circuit without unit and request enters IN_PRESEIZE, off the idle list if it is on it. -/
theorem PoolSound.enterPreseize (h : PoolSound s) (unit : (s.circuit c).unit = none)
    (unitReq : (s.circuit c).unitReq = none) : PoolSound (enterPreseize c s) := by
  unfold Machine.enterPreseize
  simp only
  exact (Manned.moveState (e := {}) (h.manned.leaveIdleList rfl c) (h.staffed.apart_leaveIdleList unit unitReq) rfl rfl
    (by simp)).sound.drive c .off

/-- A free circuit that is off the idle lists is BLOCKED. -/
theorem Manned.enterBlocked (h : Manned { out := some c } s) (apart : Apart c s) : PoolSound (enterBlocked c s) := by
  unfold Machine.enterBlocked
  simp only
  exact (Manned.moveState (e := {}) h apart rfl rfl (by simp)).sound.drive c .off

theorem PoolSound.enterBlocked (h : PoolSound s) (apart : Apart c s) : PoolSound (enterBlocked c s) :=
  (h.manned.out rfl c).enterBlocked apart

/-- A free circuit becomes IDLE, or a preseizure begins on it. -/
theorem PoolSound.enterIdle {g : Fin 8} (h : PoolSound s) (apart : Apart c s) (group : (s.circuit c).group = some g) :
    PoolSound (enterIdle c g s) := by
  have joined : PoolSound (((s.modCircuit c fun k => { k with state := .idle, timer := none }).drive c .off).modGroup g
      fun k => { k with idle := k.idle ++ [c] }) := by
    unfold State.drive
    rw [State.modCircuit_modCircuit]
    exact (Manned.joinIdle (h.manned.out rfl c) apart group rfl rfl rfl rfl).sound
  unfold Machine.enterIdle
  simp only
  split
  · refine joined.enterPreseize ?_ ?_
    · simpa [State.drive_circuit] using apart.unit
    · simpa [State.drive_circuit] using apart.unitReq
  · exact joined

/-- A free circuit serves the slot at the head of its group's queue. -/
theorem PoolSound.serveWaiting {g : Fin 8} (h : PoolSound s) (apart : Apart c s) :
    PoolSound (serveWaiting c g id call digits eon s) := by
  have left : Manned { out := some c } ((s.modGroup g fun k => { k with queue := k.queue.tail }).setSlot id
      (.seizing call c)) := ((h.manned.out rfl c).modGroup_idle rfl).setSlot id _
  have apart' : Apart c ((s.modGroup g fun k => { k with queue := k.queue.tail }).setSlot id (.seizing call c)) :=
    apart.congr (by simp) fun x => by
      rw [State.setSlot_group, State.modGroup_group]
      split
      · next hx => subst hx; rfl
      · rfl
  exact (left.enterOutSeizing apart').raiseSlot id .seized

theorem PoolSound.becomesIdle (h : PoolSound s) (apart : Apart c s) : PoolSound (becomesIdle c s) := by
  unfold Machine.becomesIdle
  split
  · exact h
  · next g group =>
    split
    · exact (h.modCircuit (f := fun k => { k with blockPending := false }) rfl rfl rfl rfl).enterBlocked
        (apart.modCircuit rfl rfl)
    · split
      · exact h.enterIdle apart group
      · split
        · exact h.serveWaiting apart
        all_goals exact h.enterIdle apart group

/-! ## Incoming offers (R29) -/

/-- A free circuit is offered, and a register requested if it has an owner. -/
theorem PoolSound.offerCall (h : PoolSound s) (apart : Apart c s) : PoolSound (offerCall c s) := by
  unfold Machine.offerCall
  split
  · exact h
  · next g hg =>
    extract_lets owner t seized offered
    have moved : PoolSound t ∧ t.circuit c = s.circuit c ∧ ∀ x, (t.group x).idle = (s.group x).idle := by
      unfold t
      split
      · refine ⟨h.modGroup rfl, rfl, fun x => ?_⟩
        rw [State.modGroup_group]
        split
        · next hx => subst hx; rfl
        · rfl
      all_goals exact ⟨h, rfl, fun _ => rfl⟩
    obtain ⟨kept, circuit, idle⟩ := moved
    have entered : PoolSound offered :=
      (kept.moveState (apart.congr circuit idle) rfl rfl (by simp)).raiseCircuit c .offered
    split
    · refine entered.requestUnit ⟨?_, ?_, ?_⟩
      · simpa [offered, seized, circuit] using apart.unit
      · simpa [offered, seized, circuit] using apart.unitReq
      · simp [offered, seized, AsksFor]
    · exact entered

/-! ## Seizure slots (R31, R34) -/

theorem PoolSound.breakLink (h : PoolSound s) (c : Fin 96) : PoolSound (breakLink c s) := by
  have unlinked : PoolSound (s.modCircuit c fun k => { k with slot := none }) := h.modCircuit rfl rfl rfl rfl
  unfold Machine.breakLink
  split
  · exact h
  · simp only
    split
    · split
      · exact unlinked.setSlot _ _
      · exact unlinked.setSlot _ _
    all_goals exact unlinked

theorem PoolSound.expireSlot (h : PoolSound s) (id : SlotId) : PoolSound (expireSlot id s) := by
  unfold Machine.expireSlot
  split
  · exact (PoolSound.setSlot (h.modGroup rfl) id _).raiseSlot id _
  all_goals exact h

/-! ## Clear-forward and answer (R53 to R59) -/

theorem PoolSound.releaseForward (h : PoolSound s) (apart : Apart c s) : PoolSound (releaseForward c s) := by
  have released : PoolSound (s.modCircuit c fun k =>
      { k with state := .outReleasing, relTime := some s.timeBase, presentOn := s.leadOn c }) :=
    h.moveState apart rfl rfl (by simp)
  unfold Machine.releaseForward
  simp only
  split
  · exact released.modCircuit rfl rfl rfl rfl
  · exact (released.drive c .off).startTimer c _

theorem breakLink_circuit_self (c : Fin 96) (s : State) : (breakLink c s).circuit c = { s.circuit c with slot := none } := by
  rw [(breakLink_spec s c).1, if_pos rfl]

theorem PoolSound.clearForward (h : PoolSound s) (idle : (s.circuit c).state ≠ .idle) : PoolSound (clearForward c s) := by
  have broken := (h.letGo c).breakLink c
  have own := breakLink_circuit_self c (Machine.letGo c s)
  rw [h.staffed.letGo_circuit] at own
  exact broken.releaseForward (broken.apart (by rw [own]) (by rw [own]) (by rw [own]; exact idle))

theorem PoolSound.autoClear {cause : Cause} {e : Event} (h : PoolSound s) (idle : (s.circuit c).state ≠ .idle) :
    PoolSound (autoClear c cause e s) := by
  unfold Machine.autoClear
  simp only
  refine PoolSound.clearForward (PoolSound.raiseCircuit (h.modCircuit rfl rfl rfl rfl) c e) ?_
  simpa using idle

theorem PoolSound.recognizeAnswer (h : PoolSound s)
    (state : (s.circuit c).state = .outSending ∨ (s.circuit c).state = .outWaitAnswer) : PoolSound (recognizeAnswer c s) := by
  have apart := h.letGo_apart (c := c) (by rcases state with hs | hs <;> simp [hs])
  unfold Machine.recognizeAnswer
  simp only
  exact (PoolSound.moveState (h.letGo c) apart rfl rfl (by simp)).unseen (.raiseAnswered c _)

/-- A circuit in an answered state passes to another. -/
theorem PoolSound.moveAnswered {f : Circuit → Circuit} (h : PoolSound s)
    (from_ : (s.circuit c).state = .outAnswered ∨ (s.circuit c).state = .outClearedBack)
    (unit : (f (s.circuit c)).unit = (s.circuit c).unit) (unitReq : (f (s.circuit c)).unitReq = (s.circuit c).unitReq)
    (state : (f (s.circuit c)).state ≠ .idle) : PoolSound (s.modCircuit c f) := by
  refine h.moveState ?_ unit unitReq state
  apply h.staffed.apart <;> rcases from_ with hs | hs <;> simp [hs, CircuitState.sends]

theorem PoolSound.recognizeClearBack (h : PoolSound s) (due : clearBackDue c s = true) :
    PoolSound (recognizeClearBack c s) := by
  simp only [clearBackDue, decide_eq_true_eq] at due
  exact PoolSound.raiseCircuit (h.moveAnswered (.inl due.1) rfl rfl (by simp)) c _

theorem PoolSound.recognizeReanswer (h : PoolSound s) (due : reanswerDue c s = true) : PoolSound (recognizeReanswer c s) := by
  simp only [reanswerDue, decide_eq_true_eq] at due
  exact PoolSound.raiseCircuit (h.moveAnswered (.inr due.1) rfl rfl (by simp)) c _

/-! ## Sending (R45 to R50) -/

/-- Before its start instant a sender that waits has it decided (R47). -/
theorem PoolSound.decideStart (h : PoolSound s) (waits : (s.unit u).state = .sender .waitStart)
    (left : (s.circuit c).digitLeft = true) : PoolSound (decideStart u c s) :=
  (h.manned.decideStart (UnitState.sending_of_start (.inr waits)) left).sound

theorem PoolSound.entryTest (h : PoolSound s) (sending : (s.circuit c).state = .outSending) : PoolSound (entryTest c s) := by
  unfold Machine.entryTest
  simp only
  split
  · next left =>
    have stopped := h.unseen (.stopTimer c)
    have left' : ((s.modCircuit c fun k => { k with timer := none }).circuit c).digitLeft = true := by
      simpa [Circuit.digitLeft] using left
    split
    · next u hu =>
      split
      · next parked => exact (stopped.manned.resume parked left').sound
      · next waits =>
        split
        · exact stopped.decideStart waits left'
        · exact stopped
      all_goals exact stopped
    · next hu =>
      split
      · next hr =>
        refine stopped.requestUnit ⟨by simpa using hu, by simpa using hr, ?_⟩
        simpa [AsksFor, CircuitState.sends] using .inr sending
      · exact stopped
  · split
    · exact PoolSound.raiseCircuit ((h.letGo c).moveState (h.letGo_apart (by simp [sending])) rfl rfl (by simp)) c _
    · exact h.startTimer c _

theorem PoolSound.proceed (h : PoolSound s) (seizing : (s.circuit c).state = .outSeizing) : PoolSound (proceed c s) := by
  have broken := ((h.unseen (.stopTimer c)).raiseCircuit c .proceed).breakLink c
  have own := breakLink_circuit_self c ((s.modCircuit c fun k => { k with timer := none }).raiseCircuit c .proceed)
  have sending : PoolSound (State.modCircuit (Machine.breakLink c
      ((s.modCircuit c fun k => { k with timer := none }).raiseCircuit c .proceed)) c fun k =>
        { k with state := .outSending }) :=
    (broken.manned.modCall (.inr (by rw [own]; simp [seizing, CircuitState.sends])) rfl rfl rfl).sound
  unfold Machine.proceed
  simp only
  have tested := sending.entryTest (c := c) (by simp)
  split
  · next due => exact tested.recognizeAnswer (answerRecognizedDue_state due)
  · exact tested

/-! ## Release and restoral (R58 to R60, R170) -/

theorem PoolSound.expireGuardWait (h : PoolSound s) (state : (s.circuit c).state = .outReleasing) :
    PoolSound (expireGuardWait c s) := by
  have failed : PoolSound ((s.modCircuit c fun k => { k with cause := .guardFailed }).raiseCircuit c .guardFailed) :=
    PoolSound.raiseCircuit (h.modCircuit rfl rfl rfl rfl) c _
  exact (failed.moveState (failed.apart_of_resting (by simp [state])) rfl rfl (by simp)).drive c .off

/-- A circuit whose guard has ended has no owner, and becomes idle. -/
theorem PoolSound.endCall (h : PoolSound s) (state : (s.circuit c).state = .outReleasing ∨ (s.circuit c).state = .inGuard) :
    PoolSound (Machine.becomesIdle c (s.modCircuit c fun k => { k with owner := none, timer := none })) := by
  have apart : Apart c s := h.apart_of_resting (by rcases state with hs | hs <;> simp [hs])
  have ended := h.moveState (f := fun k => { k with owner := none, timer := none }) apart rfl rfl
    (by rcases state with hs | hs <;> simp [hs])
  exact ended.becomesIdle (apart.modCircuit rfl rfl)

theorem PoolSound.recognizeGuard (h : PoolSound s) (state : (s.circuit c).state = .outReleasing) :
    PoolSound (recognizeGuard c s) := (h.raiseCircuit c .released).endCall (.inl (by simpa using state))

theorem PoolSound.becomesIdle_of_state (h : PoolSound s)
    (state : (s.circuit c).state = .fault ∨ (s.circuit c).state = .inPreseize ∨ (s.circuit c).state = .blocked) :
    PoolSound (Machine.becomesIdle c s) := h.becomesIdle (h.apart_of_resting (by tauto))

theorem PoolSound.recognizeLateGuard (h : PoolSound s) (state : (s.circuit c).state = .fault) :
    PoolSound (recognizeLateGuard c s) := (h.raiseCircuit c .lateGuard).becomesIdle_of_state (.inl (by simpa using state))

/-! ## Glare (R88 to R99) -/

theorem PoolSound.failGlare (h : PoolSound s) : PoolSound (failGlare id call s) := (h.setSlot id _).raiseSlot id _

/-- A slot seizes a circuit of the idle list (R26). -/
theorem PoolSound.seizeChosen {g : Fin 8} (h : PoolSound s)
    (chosen : huntChoice (s.group g).huntMode (s.group g).idle = some d) :
    PoolSound (Machine.enterOutSeizing d id digits eon ((Machine.leaveIdleList d s).setSlot id (.seizing call d))) := by
  have listed := h.staffed.idle g d (huntChoice_mem chosen)
  have loose := h.staffed.loose (c := d) (by simp [listed.1, CircuitState.sends]) (by simp [listed.1]) (by simp [listed.1])
  exact ((h.manned.leaveIdleList rfl d).setSlot id _).enterOutSeizing
    ((h.staffed.apart_leaveIdleList loose.1 loose.2).congr (by simp) (by simp))

theorem PoolSound.rehunt (h : PoolSound s) : PoolSound (rehunt id call digits eon s) := by
  unfold Machine.rehunt
  split
  · next chosen => exact (h.seizeChosen chosen).raiseSlot id _
  · split
    · exact PoolSound.raiseSlot ((h.setSlot id _).modGroup rfl) id _
    · exact h.failGlare

theorem PoolSound.forgetSeized (h : PoolSound s) (id : SlotId) : PoolSound (forgetSeized id s) :=
  h.modPort id.port fun r => r.forgotten id.num

theorem PoolSound.displaceCall (h : PoolSound s) : PoolSound (displaceCall c s) := by
  have dropped : PoolSound (s.modCircuit c fun k => { k with digits := [], eon := false, slot := none }) :=
    h.modCircuit rfl rfl rfl rfl
  unfold Machine.displaceCall
  simp only
  split
  · exact dropped
  · next id _ =>
    split
    · split
      · exact (dropped.forgetSeized id).rehunt
      · exact (dropped.forgetSeized id).failGlare
    all_goals exact dropped

/-- The circuit of a displaced call, let go of before, is free after. -/
theorem PoolSound.displaceCall_apart (h : PoolSound s) (apart : Apart c s) (seizing : (s.circuit c).state = .outSeizing) :
    Apart c (Machine.displaceCall c s) := by
  have own := (displaceCall_beside apart).circuit
  rw [State.modCircuit_circuit_self] at own
  refine h.displaceCall.apart ?_ ?_ ?_
  · rw [own]; exact apart.unit
  · rw [own]; exact apart.unitReq
  · rw [own]; simp [seizing]

theorem PoolSound.yieldGlare (h : PoolSound s) (seizing : (s.circuit c).state = .outSeizing) :
    PoolSound (yieldGlare c s) := by
  have stopped := (h.unseen (.stopTimer c)).drive c .off
  unfold Machine.yieldGlare
  simp only
  have state : (((s.modCircuit c fun k => { k with timer := none }).drive c .off).circuit c).state = .outSeizing := by
    simp [State.drive_circuit, seizing]
  generalize (s.modCircuit c fun k => { k with timer := none }).drive c .off = t at stopped state ⊢
  have own := stopped.staffed.letGo_circuit (c := c)
  have raised := (stopped.letGo c).raiseCircuit c .glareLost
  have apart := (stopped.letGo_apart (c := c) (by simp [state])).alike (Alike.raiseCircuit c .glareLost)
  have apart' := raised.displaceCall_apart (c := c) apart (by rw [State.raiseCircuit_circuit, own]; exact state)
  have displaced := raised.displaceCall (c := c)
  have idle : ((Machine.displaceCall c ((Machine.letGo c t).raiseCircuit c .glareLost)).circuit c).state ≠ .idle := by
    rw [(displaceCall_beside apart).circuit, State.modCircuit_circuit_self, State.raiseCircuit_circuit, own]
    simp [state]
  unfold Machine.beginYielded
  simp only
  exact (displaced.moveState apart' rfl rfl idle).offerCall (apart'.modCircuit rfl rfl)

theorem PoolSound.holdGlare (h : PoolSound s) (c : Fin 96) : PoolSound (holdGlare c s) :=
  PoolSound.raiseCircuit (h.modCircuit rfl rfl rfl rfl) c _

theorem PoolSound.reachAckMax (h : PoolSound s) (due : ackMaxDue c s = true) : PoolSound (reachAckMax c s) := by
  have seizing : (s.circuit c).state = .outSeizing := by simp [ackMaxDue] at due; exact due.1
  have busy : (s.circuit c).state ≠ .idle := by simp [seizing]
  unfold Machine.reachAckMax
  split
  · exact h.autoClear busy
  · split
    · split
      · split
        · exact h.holdGlare c
        · exact h.yieldGlare seizing
      all_goals exact h.autoClear busy
    · exact h.autoClear busy

/-! ## The incoming call (R70 to R84) -/

theorem PoolSound.congestRegister (h : PoolSound s) (c : Fin 96) : PoolSound (congestRegister c s) :=
  (h.withdraw c).raiseCircuit c _

theorem PoolSound.loseDigits (h : PoolSound s) (seized : (s.circuit c).state = .inSeized) : PoolSound (loseDigits c s) := by
  have unit : (s.circuit c).unit = none := by
    refine Option.eq_none_iff_forall_ne_some.mpr fun u hu => ?_
    rcases h.staffed.crew u c ((h.staffed.linked u c).mpr hu) with ⟨-, hs | hs⟩ | ⟨-, hs⟩ <;> simp [seized] at hs
  have own : (Machine.withdraw c s).circuit c = { s.circuit c with unitReq := none } := by
    rw [(withdraw_spec s c).1, if_pos rfl]
  have apart := (h.withdraw c).apart (c := c) (by rw [own]; exact unit) (by rw [own]) (by rw [own]; simp [seized])
  exact ((h.withdraw c).moveState apart rfl rfl (by simp)).raiseCircuit c _

/-- A circuit that asks for nothing passes out of the call that its register serves. -/
theorem PoolSound.passOn {f : Circuit → Circuit} (h : PoolSound s) (state : (s.circuit c).state.answerable = true)
    (blind : UnitBlind f) (kept : ∀ k : Circuit, (f k).unit = k.unit ∧ (f k).unitReq = k.unitReq)
    (into : ∀ k, (f k).state = .inHeld ∨ (f k).state = .inAnswered) :
    PoolSound (Machine.detachFrom c (s.modCircuit c f)) := by
  obtain ⟨-, busy, quiet⟩ := CircuitState.of_answerable state
  have unitReq : (s.circuit c).unitReq = none := by
    by_contra hr
    obtain ⟨⟨cls, asks⟩, -⟩ := h.staffed.requests c hr
    exact quiet cls asks
  refine (h.manned.moveState_detachFrom blind unitReq busy fun k => ⟨(kept k).1, (kept k).2, ?_⟩).sound
  rcases into k with hs | hs <;> simp [hs]

theorem PoolSound.holdCall (h : PoolSound s) (state : (s.circuit c).state = .inReceiving) : PoolSound (holdCall c s) :=
  h.passOn (f := fun k => { k with state := .inHeld, timer := none }) (by simp [state, CircuitState.answerable])
    (fun _ => rfl) (fun _ => ⟨rfl, rfl⟩) fun _ => .inl rfl

theorem PoolSound.receiveDigit (h : PoolSound s) (d : Fin 10) (state : (s.circuit c).state = .inReceiving) :
    PoolSound (receiveDigit c d s) := by
  unfold Machine.receiveDigit
  split
  · exact PoolSound.raiseCircuit (PoolSound.startTimer (h.modCircuit rfl rfl rfl rfl) c _) c _
  · exact (h.raiseCircuit c .digitOverflow).holdCall (by simpa using state)

theorem PoolSound.timeOutDigits (h : PoolSound s) (state : (s.circuit c).state = .inReceiving) :
    PoolSound (timeOutDigits c s) := (h.raiseCircuit c .digitTimeout).holdCall (by simpa using state)

theorem Unseen.endAckPulse (c : Fin 96) : Unseen s (endAckPulse c s) := by
  have ended : Unseen s ((s.modCircuit c fun k => { k with ackPulse := .ended, ackEndSep := s.par c .sep }).drive c .off) :=
    (Unseen.modCircuit ⟨rfl, rfl, rfl, rfl, rfl, rfl, rfl, rfl, rfl, rfl⟩).trans (.drive c .off)
  unfold Machine.endAckPulse
  simp only
  split
  · exact ended.trans (.startTimer c _)
  · exact ended

theorem Unseen.cutAckPulse (c : Fin 96) : Unseen s (cutAckPulse c s) := by
  unfold Machine.cutAckPulse
  split
  · exact .modCircuit ⟨rfl, rfl, rfl, rfl, rfl, rfl, rfl, rfl, rfl, rfl⟩
  · exact .modCircuit ⟨rfl, rfl, rfl, rfl, rfl, rfl, rfl, rfl, rfl, rfl⟩
  · exact .refl s
  · exact .refl s

theorem Unseen.showAnswer (c : Fin 96) : Unseen s (showAnswer c s) :=
  (Unseen.modCircuit ⟨rfl, rfl, rfl, rfl, rfl, rfl, rfl, rfl, rfl, rfl⟩).trans (.drive c .on)

theorem PoolSound.answerCall (h : PoolSound s) (state : (s.circuit c).state.answerable = true) :
    PoolSound (answerCall c s) := by
  have answered := h.passOn (f := fun k => { k with state := .inAnswered, timer := none }) state (fun _ => rfl)
    (fun _ => ⟨rfl, rfl⟩) fun _ => .inr rfl
  unfold Machine.answerCall
  simp only
  split
  · exact answered.modCircuit rfl rfl rfl rfl
  · exact answered.unseen (.showAnswer c)

theorem PoolSound.clearBackCall (h : PoolSound s) (state : (s.circuit c).state = .inAnswered) :
    PoolSound (clearBackCall c s) := by
  have apart : Apart c s := by apply h.staffed.apart <;> simp [state, CircuitState.sends]
  have cleared := h.moveState (f := fun k => { k with state := .inClearedBack, ansDue := none }) apart rfl rfl (by simp)
  unfold Machine.clearBackCall
  simp only
  split
  · exact cleared
  · exact cleared.drive c .off

theorem Unseen.beginGuardOn (c : Fin 96) : Unseen s (beginGuardOn c s) := (Unseen.drive c .on).trans (.startTimer c _)

theorem Unseen.beginGuard (c : Fin 96) (wasOn : Bool) : Unseen s (beginGuard c wasOn s) := by
  unfold Machine.beginGuard
  split
  · exact (Unseen.drive c .off).trans (.startTimer c _)
  · split
    · exact .modCircuit ⟨rfl, rfl, rfl, rfl, rfl, rfl, rfl, rfl, rfl, rfl⟩
    · exact .beginGuardOn c

theorem PoolSound.recognizeClearForward (h : PoolSound s) (clearable : (s.circuit c).state.clearable = true) :
    PoolSound (recognizeClearForward c s) := by
  have apart := h.letGo_apart (CircuitState.incoming_of_clearable clearable).2
  have gone := h.letGo c
  unfold Machine.recognizeClearForward
  simp only
  change PoolSound (Machine.beginGuard c _ (State.modCircuit (State.raiseCircuit (Machine.cutAckPulse c
    (State.modCircuit (Machine.letGo c s) c _)) c .clearedForward) c _))
  generalize Machine.letGo c s = t at apart gone ⊢
  have dropped : Unseen t ((Machine.cutAckPulse c (t.modCircuit c fun k => { k with timer := none, ansDue := none })).raiseCircuit
      c .clearedForward) :=
    (Unseen.modCircuit ⟨rfl, rfl, rfl, rfl, rfl, rfl, rfl, rfl, rfl, rfl⟩).trans
      ((Unseen.cutAckPulse c).trans (.raiseCircuit c _))
  exact ((gone.unseen dropped).moveState (apart.unseen dropped) rfl rfl (by simp)).unseen (.beginGuard c _)

theorem PoolSound.endGuard (h : PoolSound s) (state : (s.circuit c).state = .inGuard) : PoolSound (endGuard c s) :=
  (h.drive c .off).endCall (.inr (by simp [State.drive_circuit, state]))

theorem PoolSound.reportFarSeize (h : PoolSound s) (c : Fin 96) : PoolSound (reportFarSeize c s) :=
  (h.unseen (.stopTimer c)).raiseCircuit c _

end PoolWalk

end Sys2Proof.Machine

/-! PROOFS. The walk that keeps the pool in agreement with the circuits, continued over the digits, the receive path, the orders,
the restart, the ports and the commands; and its claim. -/

namespace Sys2Proof.Machine

section PoolDigits

variable {s t : State} {c : Fin 96} {u : Fin 16} {id : SlotId} {call : SlotCall} {digits : List (Fin 10)} {eon : Bool}
  {g : Fin 8}

/-- Two states with the same circuits, idle lists, units, queues and parked list. -/
theorem PoolSound.kept (h : PoolSound s) (circuits : t.circuits = s.circuits)
    (idle : ∀ g, (t.group g).idle = (s.group g).idle) (pool : PoolKept s t) : PoolSound t := by
  obtain ⟨units, reg, snd, parked⟩ := pool
  have circuit : ∀ c, t.circuit c = s.circuit c := fun c => by simp [State.circuit, circuits]
  have unit : ∀ u, t.unit u = s.unit u := fun u => by simp [State.unit, units]
  constructor <;> simp only [circuit, unit, idle, reg, snd, parked]
  exacts [h.idleLists, h.idleOnce, h.linked, h.unattached, h.senders, h.registers, h.registerEntries, h.senderEntries,
    h.queuedOnce, h.requests, h.noneFree, h.parkedList, h.parkedOnce, h.attached]

theorem PoolSound.onlyReference (h : PoolSound s) (only : OnlyReference g s t) : PoolSound t := by
  obtain ⟨others, ⟨r, own⟩, circuits, pool, -⟩ := only
  refine h.kept circuits (fun x => ?_) pool
  by_cases hx : x = g
  · subst hx; rw [own]
  · rw [others x (by simpa using hx)]

theorem PoolSound.modUnit {f : DigitUnit → DigitUnit} (h : PoolSound s) (kind : (s.unit u).SameKind (f (s.unit u))) :
    PoolSound (s.modUnit u f) := (h.manned.modUnit kind).sound

/-! ## Senders (R117, R118) -/

theorem DigitUnit.SameKind.sending {k r : DigitUnit} (circuit : r.circuit = k.circuit) (was : k.state.sending)
    (now : r.state.sending) : k.SameKind r where
  circuit := circuit
  sender := now.1.trans was.1.symm
  register := by
    have apart : ∀ {st : UnitState}, st.isSender = true → st.isRegister = false := by
      rintro (_ | _ | _ | _) h <;> simp_all [UnitState.isSender, UnitState.isRegister]
    rw [apart now.1, apart was.1]
  free := by
    have busy : ∀ {st : UnitState}, st.isSender = true → st ≠ .free := by rintro _ h rfl; cases h
    exact iff_of_false (busy now.1) (busy was.1)
  parked := iff_of_false now.2 was.2

theorem UnitState.sending_of_sender {sub : SenderSub} {st : UnitState} (h : st = .sender sub) (away : sub ≠ .parked) :
    st.sending := by
  subst h
  exact ⟨rfl, by simpa using away⟩

theorem PoolSound.startDigit (h : PoolSound s) (sends : (s.unit u).state.sending) : PoolSound (startDigit u s) := by
  unfold Machine.startDigit
  split
  · next c _ =>
    obtain ⟨eq, -⟩ | ⟨f, eq, kept⟩ := beginDigit_modUnit u c s
    · rw [eq]; exact h
    · rw [eq]
      exact h.modUnit (.sending (kept _).1 sends (UnitState.sending_of_sender (kept _).2 (by simp)))
  · exact h

theorem PoolSound.endMake (h : PoolSound s) (sends : (s.unit u).state.sending) : PoolSound (endMake u s) := by
  unfold Machine.endMake
  split
  · exact h.modUnit (.sending rfl sends (UnitState.sending_of_sender rfl (by simp)))
  · exact h

/-- The last digit is out and eon is set: the sender goes, and its circuit waits for the answer. -/
theorem PoolSound.endSending (h : PoolSound s) (serves : (s.unit u).circuit = some c)
    (sends : (s.unit u).state.isSender = true) :
    PoolSound (((Machine.detach u s).modCircuit c fun k => { k with state := .outWaitAnswer, timer := none }).raiseCircuit c
      .digitsSent) := by
  have linked : (s.circuit c).unit = some u := (h.staffed.linked u c).mp serves
  have own := h.staffed.detach_circuit linked
  have serving := (h.staffed.crew u c serves).of_sender sends
  have apart : Apart c (Machine.detach u s) := by
    refine (h.detach u).apart (by rw [own]) ?_ ?_
    · rw [own]
      by_contra req
      simpa [linked] using (h.staffed.requests c req).2
    · rw [own]; rcases serving with hs | hs <;> simp [hs]
  exact PoolSound.raiseCircuit ((h.detach u).moveState apart rfl rfl (by simp)) c _

theorem PoolSound.endDigit (h : PoolSound s) (serves : (s.unit u).circuit = some c) (sends : (s.unit u).state.sending) :
    PoolSound (endDigit u c s) := by
  have counted : PoolSound (s.modCircuit c fun k =>
      { k with sent := k.sent + 1, lastBrkEnd := s.timeBase, idSend := s.par c .idSend }) := h.modCircuit rfl rfl rfl rfl
  unfold Machine.endDigit
  simp only
  split
  · exact counted.modUnit (.sending rfl sends (UnitState.sending_of_sender rfl (by simp)))
  · split
    · exact counted.endSending serves sends.1
    · exact (Manned.endWithoutEon (counted.startTimer c _).manned sends c).sound

theorem PoolSound.endBreak (h : PoolSound s) (sends : (s.unit u).state.sending) : PoolSound (endBreak u s) := by
  unfold Machine.endBreak
  split
  · next c serves =>
    split
    · exact h.modUnit (.sending rfl sends (UnitState.sending_of_sender rfl (by simp)))
    · exact h.endDigit serves sends
  · exact h

/-! ## Registers (R119 to R122) -/

theorem DigitUnit.SameKind.receiving {k r : DigitUnit} (circuit : r.circuit = k.circuit)
    (was : k.state.isRegister = true) (now : r.state.isRegister = true) : k.SameKind r where
  circuit := circuit
  sender := by
    have apart : ∀ {st : UnitState}, st.isRegister = true → st.isSender = false := by
      rintro (_ | _ | _ | _) h <;> simp_all [UnitState.isSender, UnitState.isRegister]
    rw [apart now, apart was]
  register := now.trans was.symm
  free := by
    have busy : ∀ {st : UnitState}, st.isRegister = true → st ≠ .free := by rintro _ h rfl; cases h
    exact iff_of_false (busy now) (busy was)
  parked := by
    have away : ∀ {st : UnitState}, st.isRegister = true → st ≠ .sender .parked := by rintro _ h rfl; cases h
    exact iff_of_false (away now) (away was)

theorem PoolSound.markLong (h : PoolSound s) (u : Fin 16) : PoolSound (markLong u s) :=
  h.modUnit ⟨rfl, rfl, rfl, .rfl, .rfl⟩

theorem PoolSound.completeDigit (h : PoolSound s) (receives : (s.unit u).state.isRegister = true) :
    PoolSound (completeDigit u s) := by
  unfold Machine.completeDigit
  split
  · next c serves =>
    have awaits : PoolSound (s.modUnit u DigitUnit.awaitDigit) := h.modUnit (.receiving rfl receives rfl)
    simp only
    split
    · next d _ =>
      have received := awaits.receiveDigit (c := c) d ((h.staffed.crew u c serves).of_register receives)
      split
      · next g _ => exact received.onlyReference (countDigit_frame _ g)
      · exact received
    · exact awaits.raiseCircuit c _
  · exact h

theorem PoolSound.handPeriod (h : PoolSound s) (c : Fin 96) (start : Option Time) : PoolSound (handPeriod c start s) := by
  unfold Machine.handPeriod
  split
  · simp only
    split
    · exact h.onlyReference (takePeriod_frame _ _ _)
    · exact h
  · exact h
  · exact h

theorem PoolSound.registerOff (h : PoolSound s) (u : Fin 16) (c : Fin 96) : PoolSound (registerOff u c s) := by
  have begins : ∀ (sub : RegisterSub) (prev : Option Time), (s.unit u).state = .register sub →
      PoolSound (s.modUnit u fun k =>
        { k with state := .register .inBreak, longBrk := false, prevBrkStart := prev, brkStart := some s.timeBase
                 subEnd := some (timeAfter s.timeBase (s.applied c).1) }) := fun sub prev state =>
    h.modUnit (.receiving rfl (by rw [state]; rfl) rfl)
  unfold Machine.registerOff
  simp only
  split
  · next state => exact begins _ _ state
  · next state => exact (begins _ _ state).handPeriod c _
  all_goals exact h

theorem PoolSound.registerOn (h : PoolSound s) (u : Fin 16) (c : Fin 96) : PoolSound (registerOn u c s) := by
  unfold Machine.registerOn
  simp only
  split
  · next state =>
    have receives : (s.unit u).state.isRegister = true := by rw [state]; rfl
    split
    · exact PoolSound.raiseCircuit (h.modUnit (.receiving rfl receives rfl)) c _
    · exact h.modUnit (.receiving rfl receives rfl)
  all_goals exact h

theorem PoolSound.registerTransition (h : PoolSound s) (c : Fin 96) (cond : Cond) :
    PoolSound (registerTransition c cond s) := by
  unfold Machine.registerTransition
  split
  · next u _ =>
    cases cond with
    | on => exact h.registerOn u c
    | off => exact h.registerOff u c
  · exact h

/-! ## The receive path (R3 to R6, R178, R179) -/

theorem PoolSound.raiseMatched (h : PoolSound s) (w : Fin 8) (dest : ReportTo) : PoolSound (s.raiseMatched w dest) := by
  cases dest with
  | none => exact h
  | A => exact h.unseen (.raiseWith .A (.watch w) (·.add .matched))
  | B => exact h.unseen (.raiseWith .B (.watch w) (·.add .matched))
  | both => exact h.unseen (.raiseBoth (.watch w) .matched)

theorem PoolSound.setWatch (h : PoolSound s) (w : Fin 8) (k : WatchChannel) : PoolSound (s.setWatch w k) :=
  h.kept rfl (fun _ => rfl) ⟨rfl, rfl, rfl, rfl⟩

theorem PoolSound.setForce (h : PoolSound s) (f : Fin 8) (k : ForceChannel) : PoolSound (s.setForce f k) :=
  h.kept rfl (fun _ => rfl) ⟨rfl, rfl, rfl, rfl⟩

theorem PoolSound.countMatch (h : PoolSound s) (w : Fin 8) : PoolSound (countMatch w s) := (h.setWatch w _).raiseMatched w _

theorem PoolSound.watchTransition (h : PoolSound s) (c : Fin 96) (cond : Cond) :
    PoolSound (watchTransition c cond s) := by
  unfold Machine.watchTransition
  exact PoolSound.foldl (fun _ f ht => ht.setForce f _) _ _ (PoolSound.foldl (fun _ w ht => ht.countMatch w) _ _ h)

theorem PoolSound.setFilter (h : PoolSound s) (c : Fin 96) (k : FilterChannel) : PoolSound (s.setFilter c k) :=
  h.kept rfl (fun _ => rfl) ⟨rfl, rfl, rfl, rfl⟩

/-- A circuit in IDLE has neither unit nor request. -/
theorem PoolSound.loose_of_idle (h : PoolSound s) (idle : (s.circuit c).state = .idle) :
    (s.circuit c).unit = none ∧ (s.circuit c).unitReq = none := by
  apply h.staffed.loose <;> simp [idle, CircuitState.sends]

theorem PoolSound.setPresentOn (h : PoolSound s) (c : Fin 96) (f : Circuit → Bool) :
    PoolSound (s.modCircuit c fun r => { r with presentOn := f r }) := h.modCircuit rfl rfl rfl rfl

theorem PoolSound.supervisionOn (h : PoolSound s) (c : Fin 96) : PoolSound (supervisionOn c s) := by
  unfold Machine.supervisionOn
  simp only
  split
  · next idle =>
    split
    · exact h.enterPreseize (h.loose_of_idle idle).1 (h.loose_of_idle idle).2
    · exact h
  · exact h.startTimer c _
  · exact h.setPresentOn c fun _ => false
  · exact h.setPresentOn c _
  · exact h.setPresentOn c _
  all_goals exact h

theorem PoolSound.seizingOff (h : PoolSound s) (seizing : (s.circuit c).state = .outSeizing) (width : Nat) (held : Held) :
    PoolSound (seizingOff c width held s) := by
  have off := h.setPresentOn c fun _ => false
  unfold Machine.seizingOff
  simp only
  split
  · have cleared := off.modCircuit (c := c) (f := fun r => { r with glarePhase := .farCleared }) rfl rfl rfl rfl
    split
    · exact cleared
    · exact cleared.startTimer c _
  · split
    · exact off.proceed (by simpa using seizing)
    · exact off

theorem PoolSound.supervisionOff (h : PoolSound s) (c : Fin 96) (width : Nat) (held : Held) :
    PoolSound (supervisionOff c width held s) := by
  have stopped := h.unseen (.stopTimer c)
  have off := h.setPresentOn c fun _ => false
  unfold Machine.supervisionOff
  simp only
  split
  · next state => exact stopped.becomesIdle_of_state (.inr (.inl (by simpa using state)))
  · exact stopped
  · next state =>
    split
    · exact h.loseDigits state
    · exact h
  · next state => exact h.seizingOff state width held
  · next state =>
    split
    · exact off.recognizeGuard (by simpa using state)
    · exact off
  · next state =>
    split
    · exact off.recognizeLateGuard (by simpa using state)
    · exact off
  all_goals exact h

theorem PoolSound.recognizeSeizure (h : PoolSound s) (due : seizureDue c s = true) : PoolSound (Machine.offerCall c s) := by
  simp only [seizureDue, decide_eq_true_eq] at due
  exact h.offerCall (h.apart_of_resting (by simp [due.1]))

theorem PoolSound.reachedFirst (h : PoolSound s) (c : Fin 96) : PoolSound (reachedFirst c s) := by
  unfold Machine.reachedFirst
  extract_lets t
  have supervised : PoolSound t := by
    unfold t
    split
    · next due => exact h.recognizeSeizure due
    split
    · exact h.reportFarSeize c
    split
    · next due => exact h.reachAckMax due
    split
    · next due => exact h.recognizeAnswer (answerRecognizedDue_state due)
    split
    · next due => exact h.recognizeClearBack due
    split
    · next due => exact h.recognizeReanswer due
    split
    · next due => exact h.recognizeClearForward (by simp [clearForwardDue] at due; exact due.1)
    · exact h
  split
  · next u _ =>
    split
    · next due => exact supervised.completeDigit (by simp [digitCompleteDue] at due; rw [due.1]; rfl)
    · split
      · exact supervised.markLong u
      · exact supervised
  · exact supervised

theorem PoolSound.acceptCandidate (h : PoolSound s) (c : Fin 96) : PoolSound (acceptCandidate c s) := by
  unfold Machine.acceptCandidate
  simp only
  refine PoolSound.watchTransition (PoolSound.registerTransition ?_ c _) c _
  have first := h.reachedFirst c
  generalize Machine.reachedFirst c s = t at first ⊢
  have delivered := (first.setFilter c
    { recCond := oppositeCond (t.filter c).recCond, recTime := t.timeBase, cand := none }).modCircuit (c := c)
      (f := fun k => { k with held := (t.setFilter c
        { recCond := oppositeCond (t.filter c).recCond, recTime := t.timeBase, cand := none }).thresholds c }) rfl rfl rfl rfl
  split
  · exact delivered.supervisionOn c
  · exact delivered.supervisionOff c _ _

theorem PoolSound.changeRaw (h : PoolSound s) (c : Fin 96) : PoolSound (changeRaw c s) := by
  unfold Machine.changeRaw
  split
  · exact h.setFilter c _
  · split
    · exact (h.acceptCandidate c).setFilter c _
    · exact h.setFilter c _

end PoolDigits

section PoolOrders

variable {s t : State} {c : Fin 96} {u : Fin 16} {id : SlotId} {call : SlotCall} {digits : List (Fin 10)} {eon : Bool}
  {g : Fin 8} {p : Port}

/-! ## The call orders (R35 to R38, R49, R50, R57, R77 to R81) -/

theorem PoolSound.seizeCircuit (h : PoolSound s) : PoolSound (seizeCircuit id call digits eon s).1 := by
  unfold Machine.seizeCircuit
  split
  · next chosen => exact h.seizeChosen chosen
  · split
    · exact (h.setSlot id _).modGroup (f := fun k => { k with queue := k.queue ++ [id] }) rfl
    · exact h

theorem PoolSound.orderSeize (h : PoolSound s) (p : Port) (ws : List Word) : PoolSound (orderSeize p ws s).1 := by
  unfold Machine.orderSeize
  simp only
  split
  · exact h
  split
  · exact h
  split
  · exact h
  split
  · exact h
  split
  · exact h
  split
  · exact h
  · exact h.seizeCircuit

theorem PoolSound.extendDigits (h : PoolSound s)
    (state : (s.circuit c).state = .outSeizing ∨ (s.circuit c).state = .outSending) :
    PoolSound (extendDigits c digits eon s) := by
  have added : PoolSound (s.modCircuit c fun k => { k with digits := k.digits ++ digits, eon := k.eon || eon }) :=
    h.modCircuit rfl rfl rfl rfl
  unfold Machine.extendDigits
  simp only
  split
  · next seizing =>
    split
    · next ask =>
      exact added.requestUnit ⟨by simpa using ask.2.1, by simpa using ask.2.2, .inl (by simpa using seizing)⟩
    · exact added
  · next sending => exact added.entryTest (state.elim (fun hs => absurd (by simpa using hs) sending) (by simp))

theorem PoolSound.orderAddDigits (h : PoolSound s) (p : Port) (ws : List Word) : PoolSound (orderAddDigits p ws s).1 := by
  unfold Machine.orderAddDigits
  simp only
  split
  · exact h
  split
  · exact h
  split
  · exact h
  split
  · exact h
  next state =>
  split
  · exact h
  · exact h.extendDigits (by tauto)

theorem PoolSound.ownedOrder {allowed : CircuitState → Bool} {act : Fin 96 → State → State} (h : PoolSound s)
    (acts : ∀ c, allowed (s.circuit c).state = true → PoolSound (act c s)) (p : Port) (ws : List Word) :
    PoolSound (ownedOrder allowed act p ws s).1 := by
  unfold Machine.ownedOrder
  split
  · exact h
  split
  · exact h
  split
  · exact h
  · next ok => exact acts _ (by simpa using ok)

theorem CircuitState.busy_of_clearsForward {st : CircuitState} (h : st.clearsForward = true) : st ≠ .idle := by
  rintro rfl; cases h

theorem PoolSound.leaveQueue (h : PoolSound s) (g : Fin 8) (id : SlotId) : PoolSound (leaveQueue g id s) := h.modGroup rfl

theorem PoolSound.discardSlotEvents (h : PoolSound s) (id : SlotId) : PoolSound (discardSlotEvents id s) :=
  h.modPort id.port fun r => (r.setPend (.slot id.num) EventSet.empty).leave (.slot id.num)

theorem PoolSound.orderCancel (h : PoolSound s) (p : Port) (ws : List Word) : PoolSound (orderCancel p ws s).1 := by
  unfold Machine.orderCancel
  simp only
  generalize (if bitSet (wordAt ws 1) 7 = true then Port.B else Port.A) = named
  split
  · exact h
  split
  · exact h
  split
  · next call _ _ _ _ =>
    exact ((h.leaveQueue call.group _).setSlot _ .free).discardSlotEvents _
  all_goals exact h

/-! ## CONFIGURE GROUP (R21, R22) -/

theorem PoolSound.unparkGroup (h : PoolSound s) (g : Fin 8) (old : Group) : PoolSound (unparkGroup g old s) := by
  unfold Machine.unparkGroup
  simp only
  split
  · exact PoolSound.foldl (fun _ u ht => ht.detach u) _ _ h
  · exact h

theorem configureReference_frame (g : Fin 8) (old : Group) (s : State) : OnlyReference g s (configureReference g old s) := by
  unfold configureReference
  simp only
  split
  · exact applyReference_frame s g
  · split
    · exact State.setThresholds_frame s g _
    · exact .refl s g

/-- A preseizure on one circuit takes from no other, and not from its own, the lack of unit and request. -/
theorem enterPreseize_loose (c x : Fin 96) (s : State) :
    ((enterPreseize c s).circuit x).unit = (s.circuit x).unit ∧
      ((enterPreseize c s).circuit x).unitReq = (s.circuit x).unitReq := by
  unfold enterPreseize
  simp only [State.drive_circuit, State.modCircuit_circuit, leaveIdleList_circuit, Circuit.startCall]
  by_cases hx : x = c <;> simp [hx]

theorem PoolSound.preseizeAll (l : List (Fin 96)) :
    ∀ {s}, PoolSound s → (∀ c ∈ l, (s.circuit c).unit = none ∧ (s.circuit c).unitReq = none) →
      PoolSound (l.foldl (fun s c => Machine.enterPreseize c s) s) := by
  induction l with
  | nil => exact fun h _ => h
  | cons c l ih =>
    refine fun h loose => ih (h.enterPreseize (loose c List.mem_cons_self).1 (loose c List.mem_cons_self).2) fun x hx => ?_
    rw [(enterPreseize_loose c x _).1, (enterPreseize_loose c x _).2]
    exact loose x (List.mem_cons_of_mem _ hx)

theorem PoolSound.turnIncoming (h : PoolSound s) (g : Fin 8) (old : Group) : PoolSound (turnIncoming g old s) := by
  unfold Machine.turnIncoming
  split
  · refine PoolSound.preseizeAll _ h fun c hc => h.loose_of_idle ?_
    have idle := (List.mem_filter.mp hc).2
    simp only [decide_eq_true_eq] at idle
    exact idle.1
  · exact h

theorem PoolSound.configureGroup (h : PoolSound s) (g : Fin 8) (k : GroupChange) : PoolSound (configureGroup g k s) :=
  PoolSound.turnIncoming (PoolSound.onlyReference (PoolSound.unparkGroup (h.modGroup rfl) g _)
    (configureReference_frame g _ _)) g _

theorem PoolSound.orderConfigureGroup (h : PoolSound s) (p : Port) (ws : List Word) :
    PoolSound (orderConfigureGroup p ws s).1 := by
  unfold Machine.orderConfigureGroup
  split
  · exact h
  split
  · exact h
  split
  · exact h
  split
  · exact h
  · exact h.configureGroup _ _

/-! ## The other maintenance orders (R23, R115, R164 to R171, R181, R182) -/

theorem PoolSound.assignCircuit {group : Option (Fin 8)} {trunkNo : Nat} (h : PoolSound s)
    (rests : (s.circuit c).state = .unequipped ∨ (s.circuit c).state = .blocked) :
    PoolSound (assignCircuit c group trunkNo s) := by
  have apart : Apart c s := by
    apply h.staffed.apart <;> rcases rests with hs | hs <;> simp [hs, CircuitState.sends]
  have placed : PoolSound (s.modCircuit c fun k => { k with trunkNo := trunkNo, blockPending := false, group := group }) :=
    h.moveState apart rfl rfl (by rcases rests with hs | hs <;> simp [hs])
  have apart' : Apart c (s.modCircuit c fun k => { k with trunkNo := trunkNo, blockPending := false, group := group }) :=
    apart.modCircuit rfl rfl
  unfold Machine.assignCircuit
  cases group with
  | some g =>
    simp only
    split
    · exact placed
    · exact placed.enterBlocked apart'
  | none => exact PoolSound.drive (placed.moveState apart' rfl rfl (by simp)) c .off

theorem PoolSound.orderAssignCircuit (h : PoolSound s) (p : Port) (ws : List Word) :
    PoolSound (orderAssignCircuit p ws s).1 := by
  unfold Machine.orderAssignCircuit
  extract_lets w trunkNo place
  have placed : ∀ c group, PoolSound (place c group).1 := fun c group => by
    unfold place
    split
    · exact h
    · next rests => exact h.assignCircuit (by tauto)
  split
  · exact h
  split
  · exact h
  split
  · exact placed _ _
  split
  · exact h
  split
  · exact h
  · exact placed _ _

theorem PoolSound.circuitOrder {act : Fin 96 → State → State × List Word} (h : PoolSound s)
    (acts : ∀ c, PoolSound (act c s).1) (ws : List Word) : PoolSound (circuitOrder act ws s).1 := by
  unfold Machine.circuitOrder
  split
  · exact h
  · exact acts _

theorem PoolSound.setBlockPending (h : PoolSound s) (c : Fin 96) (v : Bool) :
    PoolSound (s.modCircuit c fun k => { k with blockPending := v }) := h.modCircuit rfl rfl rfl rfl

theorem PoolSound.blockCircuit (h : PoolSound s) (c : Fin 96) : PoolSound (blockCircuit c s).1 := by
  unfold Machine.blockCircuit
  split
  · exact h
  · next idle =>
    have loose := h.loose_of_idle idle
    exact (h.manned.leaveIdleList rfl c).enterBlocked (h.staffed.apart_leaveIdleList loose.1 loose.2)
  · exact h
  all_goals exact h.setBlockPending c true

theorem PoolSound.unblockCircuit (h : PoolSound s) (c : Fin 96) : PoolSound (unblockCircuit c s).1 := by
  unfold Machine.unblockCircuit
  split
  · next blocked => exact (h.unseen (.stopTimer c)).becomesIdle_of_state (.inr (.inr (by simpa using blocked)))
  · exact h.setBlockPending c false

theorem PoolSound.resetFault (h : PoolSound s) (c : Fin 96) : PoolSound (resetFault c s).1 := by
  unfold Machine.resetFault
  split
  · next fault => exact h.becomesIdle_of_state (.inl fault)
  · exact h

theorem PoolSound.unitOrder {act : Fin 16 → State → State} (h : PoolSound s) (acts : ∀ u, PoolSound (act u s))
    (ws : List Word) : PoolSound (unitOrder act ws s).1 := by
  unfold Machine.unitOrder
  split
  · exact h
  · exact acts _

theorem PoolSound.setPendingOos (h : PoolSound s) (u : Fin 16) (v : Bool) :
    PoolSound (s.modUnit u fun k => { k with pendingOos := v }) := h.modUnit ⟨rfl, rfl, rfl, .rfl, .rfl⟩

theorem PoolSound.takeUnitOut (h : PoolSound s) (u : Fin 16) : PoolSound (takeUnitOut u s) := by
  unfold Machine.takeUnitOut
  split
  · next free => exact (Manned.retire (h.manned.spare rfl u) free rfl rfl).sound
  · exact h
  · refine (Manned.retire (e := {}) (h.manned.unlinkUnit rfl u) ?_ rfl rfl).sound
    rw [(unlinkUnit_spec s u).1]; rfl
  all_goals exact h.setPendingOos u true

theorem PoolSound.bringUnitIn (h : PoolSound s) (u : Fin 16) : PoolSound (bringUnitIn u s) := by
  unfold Machine.bringUnitIn
  split
  · next out => exact ((h.manned.bringBack out).becomeAvailable (by simp)).sound
  · exact h
  all_goals exact h.setPendingOos u false

theorem PoolSound.orderReferenceApply (h : PoolSound s) (p : Port) (ws : List Word) :
    PoolSound (orderReferenceApply p ws s).1 := by
  unfold Machine.orderReferenceApply
  split
  · exact h
  split
  · exact h.onlyReference (applyReference_frame s _)
  · exact h

theorem PoolSound.orderReferenceSet (h : PoolSound s) (p : Port) (ws : List Word) :
    PoolSound (orderReferenceSet p ws s).1 := by
  unfold Machine.orderReferenceSet
  simp only
  split
  · exact h
  · exact h.onlyReference (setReference_frame s _ _)

theorem PoolSound.orderWatchSet (h : PoolSound s) (p : Port) (ws : List Word) : PoolSound (orderWatchSet p ws s).1 := by
  unfold Machine.orderWatchSet
  simp only
  split
  · exact h.setWatch _ _
  · exact h

theorem PoolSound.orderForceSet (h : PoolSound s) (p : Port) (ws : List Word) : PoolSound (orderForceSet p ws s).1 := by
  unfold Machine.orderForceSet
  simp only
  split
  · exact h.setForce _ _
  · exact h

/-! ## RESTART CALLS and device reset (R39, R63, R87, R116, R174) -/

/-- A circuit that is idle after the restart was so before it. -/
theorem restartCircuit_idle (c x : Fin 96) (s : State) (idle : ((restartCircuit c s).circuit x).state = .idle) :
    (s.circuit x).state = .idle := by
  by_cases hx : x = c
  · subst hx
    unfold restartCircuit at idle
    extract_lets s1 at idle
    have state : (s1.circuit x).state = (s.circuit x).state := by simp [s1]
    rw [state] at idle
    cases hs : (s.circuit x).state with
    | idle => rfl
    | outSeizing | outSending | outWaitAnswer | outAnswered | outClearedBack =>
      obtain ⟨f, eq, -, now, -⟩ := releaseForward_modCircuit x s1
      simp [hs, eq, now] at idle
    | inSeized | inReceiving | inHeld | inAnswered | inClearedBack =>
      obtain ⟨f, eq, -, now, -⟩ := holdAtRestart_modCircuit x s1
      simp [hs, eq, now] at idle
    | outReleasing | inGuard | unequipped | blocked | fault | inPreseize => simp [hs, state] at idle
  · obtain ⟨f, eq, -⟩ := restartCircuit_alone c s
    rwa [eq, State.modCircuit_circuit_ne s c f hx] at idle

theorem restartCircuits_idle (l : List (Fin 96)) (x : Fin 96) :
    ∀ s : State, ((l.foldl (fun s c => restartCircuit c s) s).circuit x).state = .idle → (s.circuit x).state = .idle := by
  induction l with
  | nil => exact fun _ h => h
  | cons c l ih => exact fun s h => restartCircuit_idle c x s (ih _ h)

theorem restartCircuits_parked (l : List (Fin 96)) :
    ∀ s : State, (l.foldl (fun s c => restartCircuit c s) s).parked = s.parked := by
  induction l with
  | nil => exact fun _ => rfl
  | cons c l ih =>
    intro s
    obtain ⟨f, eq, -⟩ := restartCircuit_alone c s
    exact (ih _).trans (show (restartCircuit c s).parked = _ by rw [eq]; rfl)

/-- With every circuit through the restart no unit is attached, nothing waits, and the idle lists are as before. -/
theorem PoolSound.restarted {done : List (Fin 96)} (h : PoolSound s) (all : ∀ c, c ∈ done)
    (r : Restarted done (emptyAtRestart s) t) (idle : ∀ c, (t.circuit c).state = .idle → (s.circuit c).state = .idle)
    (parked : t.parked = []) : PoolSound t := by
  have group : ∀ g, t.group g = { s.group g with queue := [] } := fun g => by
    rw [← emptyAtRestart_group]; simp [State.group, r.groups]
  have unit : ∀ u, t.unit u = (s.unit u).restarted := fun u => by
    rw [← emptyAtRestart_unit]; simp [State.unit, r.units]
  have rests : ∀ u, (t.unit u).state = .free ∨ (t.unit u).state = .outOfService := fun u => by
    rw [unit]; exact DigitUnit.restarted_state _
  have free : ∀ u, (t.unit u).circuit = none := fun u => by
    rw [unit]; exact DigitUnit.restarted_circuit (h.unattached u)
  have reg : t.regQueue = [] := r.queues.1
  have snd : t.sndQueue = [] := r.queues.2
  constructor
  case idleLists =>
    intro g c
    rw [group]
    refine (h.idleLists g c).trans ⟨fun ⟨state, member⟩ => ⟨(r.circuits c).idle state, (r.circuits c).group.trans member⟩,
      fun ⟨state, member⟩ => ⟨idle c state, (r.circuits c).group.symm.trans member⟩⟩
  case idleOnce => intro g; rw [group]; exact h.idleOnce g
  case linked => intro u c; simp [free u, (r.loose c (all c)).1]
  case unattached => exact fun u _ => free u
  case senders => intro u c _ hu; simp [free u] at hu
  case registers => intro u c _ hu; simp [free u] at hu
  case requests => intro c q hq; simp [(r.loose c (all c)).2] at hq
  case parkedList => intro u; rcases rests u with hs | hs <;> simp [parked, hs]
  case attached =>
    intro u hu
    rcases rests u with hs | hs <;> simp [hs, UnitState.isSender, UnitState.isRegister] at hu
  all_goals simp [reg, snd, parked]

theorem PoolSound.orderRestartCalls (h : PoolSound s) (p : Port) (ws : List Word) :
    PoolSound (orderRestartCalls p ws s).1 := by
  obtain ⟨all, mem, -, restarted⟩ := Restarted.foldl allCircuits (Restarted.refl (emptyAtRestart s))
  unfold Machine.orderRestartCalls accept
  dsimp only
  refine h.restarted (fun c => mem c (by simp [allCircuits])) restarted (fun c => restartCircuits_idle _ c _) ?_
  exact restartCircuits_parked _ _

/-- A state whose circuits, groups and units are those of the reset, with empty lists. -/
theorem PoolSound.of_reset (circuits : s.circuits = State.reset.circuits) (groups : s.groups = State.reset.groups)
    (pool : PoolKept State.reset s) : PoolSound s := by
  obtain ⟨units, reg, snd, parked⟩ := pool
  have circuit : ∀ c, s.circuit c = Circuit.reset := fun c => by simp [State.circuit, circuits, State.reset]
  have group : ∀ g, s.group g = Group.reset := fun g => by simp [State.group, groups, State.reset]
  have unit : ∀ u, s.unit u = DigitUnit.reset := fun u => by simp [State.unit, units, State.reset]
  constructor <;> simp only [circuit, group, unit, reg, snd, parked] <;>
    simp [State.reset, Circuit.reset, Group.reset, DigitUnit.reset, UnitState.isSender, UnitState.isRegister]

theorem PoolSound.assertReset (s : State) : PoolSound (assertReset s) := .of_reset rfl rfl ⟨rfl, rfl, rfl, rfl⟩

theorem PoolSound.resetWith (leads : BitVec 96) (penA penB : Bool) (s : State) : PoolSound (resetWith leads penA penB s) :=
  .of_reset rfl rfl ⟨rfl, rfl, rfl, rfl⟩

/-! ## Port accesses (R136 to R143, R156 to R159) -/

theorem PoolSound.abandonReport (h : PoolSound s) (p : Port) : PoolSound (abandonReport p s) := by
  obtain ⟨f, eq⟩ := abandonReport_modPort s p
  rw [eq]
  exact h.modPort p f

theorem PoolSound.settleSlot (h : PoolSound s) (p : Port) (it : Item) : PoolSound (settleSlot p it s) := by
  unfold Machine.settleSlot
  split
  · split
    · exact h.setSlot _ _
    all_goals exact h
  all_goals exact h

theorem PoolSound.answerReportRead (h : PoolSound s) (p : Port) : PoolSound (answerReportRead p s) := by
  have begun := h.modPort p fun r => { r.abandonOrder with resultPos := 1 }
  unfold Machine.answerReportRead
  simp only
  split
  · exact begun.modPort p _
  · split
    · unfold beginReport
      exact PoolSound.modPort (begun.settleSlot p _) p _
    · exact begun.modPort p _

theorem PoolSound.orderBody (h : PoolSound s) (kind : OrderKind) (p : Port) (ws : List Word) :
    PoolSound (orderBody kind p ws s).1 := by
  cases kind with
  | seize => exact h.orderSeize p ws
  | addDigits => exact h.orderAddDigits p ws
  | clear => exact h.ownedOrder (fun _ ok => h.clearForward (CircuitState.busy_of_clearsForward ok)) p ws
  | cancel => exact h.orderCancel p ws
  | answer => exact h.ownedOrder (fun _ ok => h.answerCall ok) p ws
  | clearBack => exact h.ownedOrder (fun _ ok => h.clearBackCall (by simpa using ok)) p ws
  | releaseRegister => exact h.ownedOrder (fun _ ok => h.holdCall (by simpa using ok)) p ws
  | readCircuit =>
    change PoolSound (orderReadCircuit p ws s).1
    unfold orderReadCircuit
    split <;> exact h
  | readGroup =>
    change PoolSound (orderReadGroup p ws s).1
    unfold orderReadGroup
    split <;> exact h
  | readUnit =>
    change PoolSound (orderReadUnit p ws s).1
    unfold orderReadUnit
    split <;> exact h
  | configureGroup => exact h.orderConfigureGroup p ws
  | assignCircuit => exact h.orderAssignCircuit p ws
  | block => exact h.circuitOrder h.blockCircuit ws
  | unblock => exact h.circuitOrder h.unblockCircuit ws
  | resetCircuit => exact h.circuitOrder h.resetFault ws
  | unitServiceOff => exact h.unitOrder h.takeUnitOut ws
  | unitServiceOn => exact h.unitOrder h.bringUnitIn ws
  | referenceControlApply => exact h.orderReferenceApply p ws
  | referenceControlSet => exact h.orderReferenceSet p ws
  | watchSet => exact h.orderWatchSet p ws
  | forceSet => exact h.orderForceSet p ws
  | restartCalls => exact h.orderRestartCalls p ws

theorem PoolSound.takeOrder (h : PoolSound s) (kind : OrderKind) (p : Port) (w : Word) (mperm : Bool) :
    PoolSound (takeOrder kind (Machine.orderBody kind) p w mperm s) := by
  have abandoned := h.abandonReport p
  unfold Machine.takeOrder
  simp only
  split
  · exact abandoned.modPort p _
  · exact ((abandoned.modPort p fun r => { r with assembly := .empty }).orderBody kind p _).modPort p _

theorem PoolSound.takeWord (h : PoolSound s) (p : Port) (w : Word) : PoolSound (takeWord p w s) := by
  have abandoned := h.abandonReport p
  unfold Machine.takeWord
  simp only
  split
  · exact abandoned.modPort p _
  · exact abandoned.modPort p _

theorem PoolSound.answerResultRead (h : PoolSound s) (p : Port) : PoolSound (answerResultRead p s) :=
  ((h.modPort p PortRecord.abandonOrder).abandonReport p).modPort p _

theorem PoolSound.answerReportWrite (h : PoolSound s) (p : Port) : PoolSound (answerReportWrite p s) :=
  h.modPort p _

theorem PoolSound.assertSelect {sel : Select} {beside : Bool} {act : State → State} (h : PoolSound s)
    (acts : ∀ t, PoolSound t → PoolSound (act t)) : PoolSound (assertSelect p sel beside act s) := by
  have stands := h.modPort p fun r => r.setSelect sel true
  unfold Machine.assertSelect
  simp only
  split
  · exact h
  · split
    · exact stands.modPort p _
    · split
      · exact acts _ stands
      · exact stands

theorem PoolSound.orderWrite (h : PoolSound s) (kind : OrderKind) (w : OrderWrite) :
    PoolSound (orderWrite kind (Machine.orderBody kind) w s) := by
  unfold Machine.orderWrite
  split
  · exact h.assertSelect fun t ht => ht.takeOrder kind _ _ _
  · exact h

theorem PoolSound.plainWrite (h : PoolSound s) (w : OrderWrite) : PoolSound (plainWrite w s) := by
  unfold Machine.plainWrite
  split
  · exact h.assertSelect fun t ht => ht.takeWord _ _
  · exact h

theorem PoolSound.beginOther (h : PoolSound s) (p : Port) (d : Deassertion) : PoolSound (beginOther p d s) := by
  unfold Machine.beginOther
  split
  · unfold answerOrderWrite
    split
    · exact h.takeOrder _ _ _ _
    · exact h.takeWord _ _
  · exact h.answerReportWrite p
  · exact h.answerResultRead p
  · exact h.answerReportRead p

theorem PoolSound.deassertSelect (h : PoolSound s) (p : Port) (d : Deassertion) : PoolSound (deassertSelect p d s) := by
  have freed := h.modPort p fun r => r.released d.select
  unfold Machine.deassertSelect
  simp only
  split
  · split
    · exact freed.beginOther p d
    · exact freed
  · exact h

/-! ## The PEN lines (R148 to R150) -/

theorem PoolSound.transferCircuit (h : PoolSound s) (x y : Port) (c : Fin 96) : PoolSound (transferCircuit x y c s) := by
  unfold Machine.transferCircuit
  exact PoolSound.modPort (PoolSound.modPort (h.modCircuit rfl rfl rfl rfl) x _) y _

theorem PoolSound.transferAll (h : PoolSound s) (x y : Port) : PoolSound (transferAll x y s) :=
  PoolSound.foldl (fun _ c ht => ht.transferCircuit x y c) _ _ h

theorem PoolSound.dropSlot (h : PoolSound s) (id : SlotId) : PoolSound (dropSlot id s) := by
  unfold Machine.dropSlot
  split
  · exact h
  · exact (h.leaveQueue _ id).setSlot id .free
  · exact PoolSound.setSlot (h.modCircuit rfl rfl rfl rfl) id .free
  · exact h.setSlot id .free

theorem PoolSound.fallPen (h : PoolSound s) (x : Port) : PoolSound (fallPen x s) := by
  have dropped : PoolSound (allSixteen.foldl (fun s n => Machine.dropSlot { port := x, num := n } s)
      (Machine.abandonReport x (s.modPort x fun r => { r with enabled := false }))) :=
    PoolSound.foldl (fun _ n ht => ht.dropSlot _) _ _ ((h.modPort x _).abandonReport x)
  have emptied := dropped.modPort x PortRecord.dropSlotItems
  unfold Machine.fallPen
  simp only
  split
  · exact emptied.transferAll x _
  · exact emptied

theorem PoolSound.risePen (h : PoolSound s) (x : Port) : PoolSound (risePen x s) := by
  have enabled := h.modPort x fun r => { r with enabled := true }
  unfold Machine.risePen
  simp only
  split
  · exact enabled
  · refine PoolSound.transferAll ?_ _ x
    split
    · exact enabled.abandonReport _
    · exact enabled

end PoolOrders

section PoolCommands

variable {s t : State} {c : Fin 96}

/-! ## Commands -/

theorem PoolSound.expireSenderWait (h : PoolSound s) (due : senderWaitDue c s = true) :
    PoolSound (expireSenderWait c s) := by
  simp only [senderWaitDue, decide_eq_true_eq] at due
  refine (h.withdraw c).autoClear ?_
  rw [(withdraw_spec s c).1, if_pos rfl]
  rcases due.1 with hs | hs <;> simp [hs]

theorem senderDue_sending {sub : SenderSub} {u : Fin 16} (due : senderDue sub u s = true) (away : sub ≠ .parked) :
    (s.unit u).state.sending := UnitState.sending_of_sender (senderDue_state due) away

/-- An interval of an outgoing call ends in an automatic clear. -/
theorem PoolSound.clearIn {cause : Cause} {e : Event} (h : PoolSound s) (state : (s.circuit c).state.clearsForward = true) :
    PoolSound (Machine.autoClear c cause e s) := h.autoClear (CircuitState.busy_of_clearsForward state)

theorem PoolSound.expireAckWait (h : PoolSound s) (due : ackWaitDue c s = true) : PoolSound (expireAckWait c s) := by
  simp only [ackWaitDue, decide_eq_true_eq] at due
  exact h.clearIn (c := c) (by simp [due.1, CircuitState.clearsForward])

theorem PoolSound.expireStall (h : PoolSound s) (due : stallDue c s = true) : PoolSound (expireStall c s) := by
  simp only [stallDue, decide_eq_true_eq] at due
  exact h.clearIn (c := c) (by simp [due.1, CircuitState.clearsForward])

theorem PoolSound.expireCbLimit (h : PoolSound s) (due : cbLimitDue c s = true) : PoolSound (expireCbLimit c s) := by
  simp only [cbLimitDue, decide_eq_true_eq] at due
  exact h.clearIn (c := c) (by simp [due.1, CircuitState.clearsForward])

theorem Unseen.startAckPulse (c : Fin 96) : Unseen s (startAckPulse c s) :=
  (Unseen.modCircuit ⟨rfl, rfl, rfl, rfl, rfl, rfl, rfl, rfl, rfl, rfl⟩).trans (.drive c .on)

/-- Every command keeps the pool in agreement. -/
theorem PoolSound.exec (h : PoolSound s) (i : Instr) : Leads PoolSound (exec i s) := by
  cases i with
  | deviceReset edge penA penB => exact .deviceReset h (.assertReset s) (fun _ _ _ => .resetWith _ _ _ s) _ _ _
  | rawLeadChange lead cond => exact .onCircuit h (fun c _ => h.changeRaw c) lead
  | recognizedTransition n => exact .onCircuit h (fun c _ => h.acceptCandidate c) n
  | seizureRecognized n => exact .onCircuit h (fun c due => h.recognizeSeizure due) n
  | ackMaxReached n => exact .onCircuit h (fun c due => h.reachAckMax due) n
  | ackWaitExpiry n => exact .onCircuit h (fun c due => h.expireAckWait due) n
  | prePauseExpiry n =>
    refine .onCircuit h (fun c due => h.proceed ?_) n
    simp only [prePauseDue, decide_eq_true_eq] at due; exact due.1
  | seizeHoldEnd n => exact .onCircuit h (fun c _ => (h.drive c .off).startTimer c _) n
  | guardWaitExpiry n =>
    refine .onCircuit h (fun c due => h.expireGuardWait ?_) n
    simp only [guardWaitDue, decide_eq_true_eq] at due; exact due.1
  | stallExpiry n => exact .onCircuit h (fun c due => h.expireStall due) n
  | cbLimitExpiry n => exact .onCircuit h (fun c due => h.expireCbLimit due) n
  | senderWaitExpiry n => exact .onCircuit h (fun c due => h.expireSenderWait due) n
  | registerCongestion n => exact .onCircuit h (fun c _ => h.congestRegister c) n
  | answerRecognized n => exact .onCircuit h (fun c due => h.recognizeAnswer (answerRecognizedDue_state due)) n
  | clearBackRecognized n => exact .onCircuit h (fun c due => h.recognizeClearBack due) n
  | reanswerRecognized n => exact .onCircuit h (fun c due => h.recognizeReanswer due) n
  | clearForwardRecognized n =>
    refine .onCircuit h (fun c due => h.recognizeClearForward ?_) n
    simp only [clearForwardDue, decide_eq_true_eq] at due; exact due.1
  | ackPulseEnd n => exact .onCircuit h (fun c _ => h.unseen (.endAckPulse c)) n
  | ackPulseStart n => exact .onCircuit h (fun c _ => h.unseen (.startAckPulse c)) n
  | answerDue n => exact .onCircuit h (fun c _ => h.unseen (.showAnswer c)) n
  | digitTimeout n =>
    refine .onCircuit h (fun c due => h.timeOutDigits ?_) n
    simp only [digitTimeoutDue, decide_eq_true_eq] at due; exact due.1
  | guardSepEnd n => exact .onCircuit h (fun c _ => h.unseen (.beginGuardOn c)) n
  | guardEnd n =>
    refine .onCircuit h (fun c due => h.endGuard ?_) n
    simp only [guardEndDue, decide_eq_true_eq] at due; exact due.1
  | farSeizeBlocked n => exact .onCircuit h (fun c _ => h.reportFarSeize c) n
  | slotExpiry p n => exact .slotExpiry h (fun id _ => h.expireSlot id) p n
  | parkLimitExpiry n => exact .onUnit h (fun u _ => h.detach u) n
  | senderStart n => exact .onUnit h (fun u due => h.startDigit (senderDue_sending due (by simp))) n
  | senderBreakEnd n => exact .onUnit h (fun u due => h.endBreak (senderDue_sending due (by simp))) n
  | senderMakeEnd n => exact .onUnit h (fun u due => h.endMake (senderDue_sending due (by simp))) n
  | senderPauseEnd n => exact .onUnit h (fun u due => h.startDigit (senderDue_sending due (by simp))) n
  | longBreak n => exact .onUnit h (fun u _ => h.markLong u) n
  | digitComplete n =>
    refine .onUnit h (fun u due => h.completeDigit ?_) n
    simp only [digitCompleteDue, decide_eq_true_eq] at due; rw [due.1]; rfl
  | seize w => exact .orderRow h (h.orderWrite .seize w)
  | addDigits w => exact .orderRow h (h.orderWrite .addDigits w)
  | clear w => exact .orderRow h (h.orderWrite .clear w)
  | cancel w => exact .orderRow h (h.orderWrite .cancel w)
  | releaseRegister w => exact .orderRow h (h.orderWrite .releaseRegister w)
  | answer w => exact .orderRow h (h.orderWrite .answer w)
  | clearBack w => exact .orderRow h (h.orderWrite .clearBack w)
  | readCircuit w => exact .orderRow h (h.orderWrite .readCircuit w)
  | readGroup w => exact .orderRow h (h.orderWrite .readGroup w)
  | readUnit w => exact .orderRow h (h.orderWrite .readUnit w)
  | configureGroup w => exact .orderRow h (h.orderWrite .configureGroup w)
  | assignCircuit w => exact .orderRow h (h.orderWrite .assignCircuit w)
  | block w => exact .orderRow h (h.orderWrite .block w)
  | unblock w => exact .orderRow h (h.orderWrite .unblock w)
  | resetCircuit w => exact .orderRow h (h.orderWrite .resetCircuit w)
  | unitServiceOff w => exact .orderRow h (h.orderWrite .unitServiceOff w)
  | unitServiceOn w => exact .orderRow h (h.orderWrite .unitServiceOn w)
  | referenceControlApply w => exact .orderRow h (h.orderWrite .referenceControlApply w)
  | referenceControlSet w => exact .orderRow h (h.orderWrite .referenceControlSet w)
  | watchSet w => exact .orderRow h (h.orderWrite .watchSet w)
  | forceSet w => exact .orderRow h (h.orderWrite .forceSet w)
  | restartCalls w => exact .orderRow h (h.orderWrite .restartCalls w)
  | orderWord w => exact .unlessReset h (h.plainWrite w)
  | reportChannelWrite a data => exact .unlessReset h (h.assertSelect fun t ht => ht.answerReportWrite a.port)
  | resultRead a => exact .unlessReset h (h.assertSelect fun t ht => ht.answerResultRead a.port)
  | reportRead a => exact .unlessReset h (h.assertSelect fun t ht => ht.answerReportRead a.port)
  | selectDeassert p d => exact .unlessReset h (h.deassertSelect p d)
  | penFall p => exact .penFall h fun _ => h.fallPen p
  | penRise p => exact .penRise h fun _ => h.risePen p

end PoolCommands

/-- Settles O57, by a walk over the commands: each operation of the pool keeps the lists, the units and the circuits in
agreement, and what a circuit leaves a state with is let go of first. -/
theorem poolStaysSound : Obligations.PoolStaysSound := by
  unfold Obligations.PoolStaysSound
  intro s t h e
  refine Leads.step (P := PoolSound) ?_ (fun i ht => ht.exec i) h t e
  exact fun _ _ _ hs => hs.kept rfl (fun _ => rfl) ⟨rfl, rfl, rfl, rfl⟩

end Sys2Proof.Machine

/-! PROOFS. The queue of commands, the passing of time, and which commands complete (R1; log entries 1, 2, 3 and 7). -/

namespace Sys2Proof.Machine

section Clock

variable {s : State} {i : Instr}

/-! ## The queue and the time base -/

theorem step_of_pending {rest : List Instr} (h : s.pending = i :: rest) : step s = exec i { s with pending := rest } := by
  unfold step
  rw [h]

theorem step_of_empty (h : s.pending = []) : step s = passTime s := by
  unfold step
  rw [h]

/-- Settles O1: the step's own case for a queue that is not empty. -/
theorem stepRunsTheFrontCommand : Obligations.StepRunsTheFrontCommand := by
  unfold Obligations.StepRunsTheFrontCommand
  exact fun _ _ _ h => step_of_pending h

theorem passTime_of_nothing (h : dueCommands s = []) :
    passTime s = .next (if s.resetAsserted then s else { s with timeBase := s.timeBase + 1 }) := by
  unfold passTime
  rw [h]
  rfl

theorem passTime_of_one (h : dueCommands s = [i]) : passTime s = exec i s := by
  unfold passTime
  rw [h]
  rfl

/-- Where several commands are due, the free value picks one of them. -/
theorem passTime_of_several {j : Instr} {rest : List Instr} (h : dueCommands s = i :: j :: rest) :
    ∃ k ∈ dueCommands s, passTime s = exec k { s with choices := s.choices + 1 } := by
  have short : Config.raceChoice s.choices % ((j :: rest).length + 1) < (i :: j :: rest).length := by
    rw [List.length_cons]
    exact Nat.mod_lt _ (Nat.succ_pos _)
  refine ⟨(i :: j :: rest).getD (Config.raceChoice s.choices % ((j :: rest).length + 1)) i, ?_, ?_⟩
  · rw [h, List.getD_eq_getElem _ _ short]
    exact List.getElem_mem short
  · unfold passTime
    rw [h]
    rfl

/-- Settles O2, by the number of commands that are due. -/
theorem emptyQueueLetsTimePass : Obligations.EmptyQueueLetsTimePass := by
  unfold Obligations.EmptyQueueLetsTimePass
  intro s empty
  rw [step_of_empty empty]
  exact ⟨passTime_of_nothing, fun i h => passTime_of_one h, fun i j rest h => passTime_of_several h⟩

/-! ## Commands that carry a number -/

/-- What O3 asks of one command: it completes exactly when its number exists, and leaves the state alone if it is a timed one
that is not due. -/
def Orderly (i : Instr) (s : State) : Prop :=
  (WellFormed i = true → ∃ t, exec i s = .next t) ∧ (WellFormed i = false → exec i s = .fault .noSuchNumber) ∧
    (WellFormed i = true → isTimed i = true → i ∉ dueCommands s → exec i s = .next s)

theorem wellFormed_iff {n bound : Nat} (h : i.numbered = some (n, bound)) : WellFormed i = true ↔ n < bound := by
  simp [WellFormed, h]

/-- A command that carries a number is orderly if it completes below the bound, faults above it, and does nothing where it is
not due. -/
theorem Orderly.of_number {n bound : Nat} (h : i.numbered = some (n, bound)) (below : n < bound → ∃ t, exec i s = .next t)
    (above : bound ≤ n → exec i s = .fault .noSuchNumber)
    (idle : n < bound → isTimed i = true → i ∉ dueCommands s → exec i s = .next s) : Orderly i s := by
  refine ⟨fun hw => below ((wellFormed_iff h).mp hw), fun hw => above ?_, fun hw => idle ((wellFormed_iff h).mp hw)⟩
  by_contra hn
  rw [(wellFormed_iff h).mpr (by omega)] at hw
  cases hw

theorem Orderly.onCircuit {n : Nat} {due : Fin 96 → State → Bool} {act : Fin 96 → State → State}
    (h : i.numbered = some (n, 96)) (e : exec i s = Machine.onCircuit n due act s)
    (listed : isTimed i = true → s.resetAsserted = false → ∀ c : Fin 96, n = c.val → due c s = true → i ∈ dueCommands s) :
    Orderly i s := by
  refine .of_number h (fun hn => ?_) (fun hn => e.trans (onCircuit_high _ hn _ _)) fun hn timed away => ?_
  · exact ⟨_, e.trans (onCircuit_val s ⟨n, hn⟩ due act)⟩
  · rw [e, onCircuit_val s ⟨n, hn⟩ due act, if_neg]
    exact fun ⟨awake, hd⟩ => away (listed timed awake ⟨n, hn⟩ rfl hd)

theorem Orderly.onUnit {n : Nat} {due : Fin 16 → State → Bool} {act : Fin 16 → State → State}
    (h : i.numbered = some (n, 16)) (e : exec i s = Machine.onUnit n due act s)
    (listed : s.resetAsserted = false → ∀ u : Fin 16, n = u.val → due u s = true → i ∈ dueCommands s) :
    Orderly i s := by
  refine .of_number h (fun hn => ?_) (fun hn => e.trans (onUnit_high _ hn _ _)) fun hn _ away => ?_
  · exact ⟨_, e.trans (onUnit_val s ⟨n, hn⟩ due act)⟩
  · rw [e, onUnit_val s ⟨n, hn⟩ due act, if_neg]
    exact fun ⟨awake, hd⟩ => away (listed awake ⟨n, hn⟩ rfl hd)

/-- A command without a number completes. -/
theorem Orderly.of_unnumbered {t : State} (h : i.numbered = none) (untimed : isTimed i = false) (e : exec i s = .next t) :
    Orderly i s :=
  ⟨fun _ => ⟨_, e⟩, fun hw => by simp [WellFormed, h] at hw, fun _ timed => by simp [untimed] at timed⟩

/-! ## What is due -/

theorem due_of_circuit {c : Fin 96} (awake : s.resetAsserted = false) (h : i ∈ dueOnCircuit s c) : i ∈ dueCommands s := by
  unfold dueCommands
  rw [if_neg (by simp [awake])]
  exact List.mem_append_left _ (List.mem_append_left _ (List.mem_append_left _
    (List.mem_flatMap.mpr ⟨c, List.mem_finRange c, h⟩)))

theorem due_of_unit {u : Fin 16} (awake : s.resetAsserted = false) (h : i ∈ dueOnUnit s u) : i ∈ dueCommands s := by
  unfold dueCommands
  rw [if_neg (by simp [awake])]
  exact List.mem_append_left _ (List.mem_append_left _ (List.mem_append_right _
    (List.mem_flatMap.mpr ⟨u, List.mem_finRange u, h⟩)))

theorem due_of_slot {p : Port} {n : Fin 16} (awake : s.resetAsserted = false)
    (h : slotExpiryDue { port := p, num := n } s = true) : .slotExpiry p n.val ∈ dueCommands s := by
  have listed : .slotExpiry p n.val ∈ dueOnSlots s p :=
    List.mem_map.mpr ⟨n, List.mem_filter.mpr ⟨List.mem_finRange n, h⟩, rfl⟩
  unfold dueCommands
  rw [if_neg (by simp [awake])]
  cases p
  · exact List.mem_append_left _ (List.mem_append_right _ listed)
  · exact List.mem_append_right _ listed

/-- A recognition or expiry of a circuit is orderly if its row stands in the circuit's table. -/
theorem Orderly.timed {n : Nat} {due : Fin 96 → State → Bool} {act : Fin 96 → State → State}
    (h : i.numbered = some (n, 96)) (e : exec i s = Machine.onCircuit n due act s)
    (row : ∀ c : Fin 96, n = c.val → due c s = true → i ∈ dueOnCircuit s c) : Orderly i s :=
  .onCircuit h e fun _ awake c hc hd => due_of_circuit awake (row c hc hd)

/-- The end of an interval of a unit is orderly if its row stands in the unit's table. -/
theorem Orderly.timedUnit {n : Nat} {due : Fin 16 → State → Bool} {act : Fin 16 → State → State}
    (h : i.numbered = some (n, 16)) (e : exec i s = Machine.onUnit n due act s)
    (row : ∀ u : Fin 16, n = u.val → due u s = true → i ∈ dueOnUnit s u) : Orderly i s :=
  .onUnit h e fun awake u hu hd => due_of_unit awake (row u hu hd)

theorem Orderly.slotExpiry (p : Port) (n : Nat) (s : State) : Orderly (.slotExpiry p n) s := by
  have e : exec (.slotExpiry p n) s = execSlotExpiry p n s := rfl
  refine .of_number rfl (fun hn => ?_) (fun hn => ?_) fun hn _ away => ?_
  · rw [e, execSlotExpiry, show sixteenOf n = some ⟨n, hn⟩ from sixteenOf_some.mpr rfl]
    exact ⟨_, rfl⟩
  · rw [e, execSlotExpiry, show sixteenOf n = none from sixteenOf_none.mpr (by omega)]
  · rw [e, execSlotExpiry, show sixteenOf n = some ⟨n, hn⟩ from sixteenOf_some.mpr rfl]
    simp only [unlessReset]
    split
    · rfl
    · next awake =>
      rw [if_neg]
      exact fun hd => away (due_of_slot (n := ⟨n, hn⟩) (by simpa using awake) hd)

/-- Every command is orderly. -/
theorem orderly (i : Instr) (s : State) : Orderly i s := by
  cases i with
  | rawLeadChange lead cond => exact .onCircuit rfl rfl fun timed => by cases timed
  | slotExpiry p n => exact .slotExpiry p n s
  | deviceReset edge penA penB =>
    cases edge
    · exact .of_unnumbered rfl rfl rfl
    · exact .of_unnumbered rfl rfl rfl
  | parkLimitExpiry | senderStart | senderBreakEnd | senderMakeEnd | senderPauseEnd | longBreak | digitComplete =>
    refine .timedUnit rfl rfl fun u hu due => List.mem_filterMap.mpr ⟨(true, _), ?_, rfl⟩
    subst hu
    simp [due]
  | recognizedTransition | seizureRecognized | ackMaxReached | ackWaitExpiry | prePauseExpiry | seizeHoldEnd
  | guardWaitExpiry | stallExpiry | cbLimitExpiry | senderWaitExpiry | registerCongestion | answerRecognized
  | clearBackRecognized | reanswerRecognized | clearForwardRecognized | ackPulseEnd | ackPulseStart | answerDue
  | digitTimeout | guardSepEnd | guardEnd | farSeizeBlocked =>
    refine .timed rfl rfl fun c hc due => List.mem_filterMap.mpr ⟨(true, _), ?_, rfl⟩
    subst hc
    simp [due]
  | seize | addDigits | clear | cancel | releaseRegister | answer | clearBack | readCircuit | readGroup | readUnit
  | configureGroup | assignCircuit | block | unblock | resetCircuit | unitServiceOff | unitServiceOn
  | referenceControlApply | referenceControlSet | watchSet | forceSet | restartCalls | orderWord | reportChannelWrite
  | resultRead | reportRead | selectDeassert | penFall | penRise => exact .of_unnumbered rfl rfl rfl

/-- Settles O3, by a case for each command: the shared row of the circuits, of the units, of the slots, or no number. -/
theorem commandsCompleteExactlyWhenWellFormed : Obligations.CommandsCompleteExactlyWhenWellFormed := by
  unfold Obligations.CommandsCompleteExactlyWhenWellFormed
  exact orderly

end Clock

end Sys2Proof.Machine

/-! PROOFS. Device reset (R1, R3, R17, R20, R30, R103, R123, R136, R152, R177, R180; log entries 2 and 3), and the invariants in
the state after it. -/

namespace Sys2Proof.Machine

section ResetProofs

variable {s t : State} {i : Instr} {leads : BitVec 96} {penA penB : Bool}

/-! ## The tables' values -/

theorem Circuit.reset_atReset : CircuitAtReset Circuit.reset := by
  unfold CircuitAtReset
  exact ⟨rfl, rfl, rfl, rfl, rfl, rfl, rfl, rfl, rfl, rfl, rfl, rfl, rfl, rfl, rfl, rfl, rfl, rfl, rfl, rfl, rfl, rfl, rfl,
    rfl, rfl⟩

theorem Group.reset_par (p : Param) : Group.reset.par p = p.default := by cases p <;> rfl

theorem Group.reset_atReset : GroupAtReset Group.reset :=
  ⟨rfl, rfl, rfl, rfl, rfl, rfl, Group.reset_par, rfl, rfl, rfl⟩

theorem DigitUnit.reset_atReset : UnitAtReset DigitUnit.reset := ⟨rfl, rfl, rfl, rfl, rfl, rfl, rfl, rfl, rfl, rfl⟩

theorem PortRecord.reset_atReset (pen : Bool) : PortAtReset { PortRecord.reset with enabled := pen } pen :=
  ⟨rfl, rfl, rfl, rfl, rfl, rfl, rfl, rfl, fun n => by simp [PortRecord.reset], fun it => by simp [PortRecord.reset], rfl⟩

/-- A state is at reset if its records are, its ports have PEN at the levels, and its channels show the leads. -/
theorem AtReset.of_records (awake : t.resetAsserted = false) (time : t.timeBase = 0)
    (circuits : t.circuits = State.reset.circuits) (groups : t.groups = State.reset.groups) (pool : PoolKept State.reset t)
    (ports : t.portA = { PortRecord.reset with enabled := penA } ∧ t.portB = { PortRecord.reset with enabled := penB })
    (filters : ∀ c, t.filter c = filterAtReset (leads.getLsbD c.val)) (watches : t.watches = State.reset.watches)
    (forces : t.forces = State.reset.forces) : AtReset leads penA penB t := by
  obtain ⟨units, reg, snd, parked⟩ := pool
  refine ⟨awake, time, fun c => ?_, fun g => ?_, fun u => ?_, reg, snd, parked, ?_, ?_, filters, fun w => ?_, fun f => ?_⟩
  · simpa [State.circuit, circuits, State.reset] using Circuit.reset_atReset
  · simpa [State.group, groups, State.reset] using Group.reset_atReset
  · simpa [State.unit, units, State.reset] using DigitUnit.reset_atReset
  · rw [ports.1]; exact PortRecord.reset_atReset penA
  · rw [ports.2]; exact PortRecord.reset_atReset penB
  · simp [State.watch, watches, State.reset, WatchChannel.reset]
  · simp [State.force, forces, State.reset, ForceChannel.reset]

theorem filterAtReset_zero (c : Fin 96) : State.reset.filter c = filterAtReset ((0 : BitVec 96).getLsbD c.val) := by
  simp [State.filter, State.reset, filterAtReset]

theorem State.reset_atReset : AtReset 0 false false State.reset :=
  .of_records rfl rfl rfl rfl ⟨rfl, rfl, rfl, rfl⟩ ⟨rfl, rfl⟩ filterAtReset_zero rfl rfl

theorem assertReset_atReset (s : State) : AtReset 0 false false { assertReset s with resetAsserted := false } :=
  .of_records rfl rfl rfl rfl ⟨rfl, rfl, rfl, rfl⟩ ⟨rfl, rfl⟩ filterAtReset_zero rfl rfl

theorem resetWith_atReset (leads : BitVec 96) (penA penB : Bool) (s : State) :
    AtReset leads penA penB (resetWith leads penA penB s) :=
  .of_records rfl rfl rfl rfl ⟨rfl, rfl, rfl, rfl⟩ ⟨rfl, rfl⟩ (fun c => by simp [State.filter, resetWith]) rfl rfl

/-! ## While RESET is asserted -/

/-- Nothing is due while RESET is asserted. -/
theorem dueCommands_of_asserted (h : s.resetAsserted = true) : dueCommands s = [] := by
  unfold dueCommands
  rw [if_pos h]

theorem onCircuit_asserted {n : Nat} {due : Fin 96 → State → Bool} {act : Fin 96 → State → State}
    (h : s.resetAsserted = true) (hn : n < 96) : onCircuit n due act s = .next s := by
  rw [onCircuit_val s ⟨n, hn⟩ due act, if_neg (by simp [h])]

/-- While RESET is asserted a well-formed command other than an edge of RESET changes nothing. -/
theorem exec_asserted (h : s.resetAsserted = true) (well : WellFormed i = true)
    (other : ∀ edge penA penB, i ≠ .deviceReset edge penA penB) : exec i s = .next s := by
  by_cases timed : isTimed i = true
  · exact (orderly i s).2.2 well timed (by rw [dueCommands_of_asserted h]; simp)
  · cases i with
    | deviceReset edge penA penB => exact absurd rfl (other edge penA penB)
    | rawLeadChange lead cond => exact onCircuit_asserted h ((wellFormed_iff rfl).mp well)
    | recognizedTransition | seizureRecognized | ackMaxReached | ackWaitExpiry | prePauseExpiry | seizeHoldEnd
    | guardWaitExpiry | stallExpiry | cbLimitExpiry | senderWaitExpiry | registerCongestion | answerRecognized
    | clearBackRecognized | reanswerRecognized | clearForwardRecognized | ackPulseEnd | ackPulseStart | answerDue
    | digitTimeout | guardSepEnd | guardEnd | farSeizeBlocked | slotExpiry | parkLimitExpiry | senderStart
    | senderBreakEnd | senderMakeEnd | senderPauseEnd | longBreak | digitComplete => exact absurd rfl timed
    | seize | addDigits | clear | cancel | releaseRegister | answer | clearBack | readCircuit | readGroup | readUnit
    | configureGroup | assignCircuit | block | unblock | resetCircuit | unitServiceOff | unitServiceOn
    | referenceControlApply | referenceControlSet | watchSet | forceSet | restartCalls | orderWord | reportChannelWrite
    | resultRead | reportRead | selectDeassert | penFall => exact unlessReset_asserted _ h
    | penRise p => exact unlessReset_asserted (fun s => if (s.port p).enabled then s else risePen p s) h

theorem attn_iff (p : Port) (s : State) : s.attn p = true ↔ s.resetAsserted = false ∧ (s.port p).attention ≠ [] := by
  simp [State.attn]

theorem reply_iff (p : Port) (s : State) : s.reply p = true ↔ s.resetAsserted = false ∧ (s.port p).handshake ≠ .quiet := by
  simp [State.reply]

theorem dataOut_iff (p : Port) (s : State) (word : Word) (last : Bool) : s.dataOut p = some (word, last) ↔
    s.resetAsserted = false ∧ (s.port p).handshake = .replyingRead word last := by
  unfold State.dataOut
  cases s.resetAsserted <;> cases (s.port p).handshake <;> simp

/-- Settles O4, by the records that each edge of RESET writes, and the guard of every other command. -/
theorem resetGivesTheTablesValues : Obligations.ResetGivesTheTablesValues := by
  unfold Obligations.ResetGivesTheTablesValues
  refine ⟨fun leads penA penB s => ⟨?_, fun asserted => ?_, fun released => ?_⟩, fun i s h well other =>
    exec_asserted h well other, fun p s => ⟨attn_iff p s, reply_iff p s, dataOut_iff p s⟩, State.reset_atReset, rfl⟩
  · exact ⟨_, rfl, rfl, assertReset_atReset s, rfl, rfl⟩
  · refine ⟨resetWith leads penA penB s, ?_, resetWith_atReset leads penA penB s, rfl, rfl⟩
    exact congrArg Host.Outcome.next (if_pos asserted)
  · exact congrArg Host.Outcome.next (if_neg (by simp [released]))

/-! ## The invariants after reset -/

theorem State.reset_slot (id : SlotId) : State.reset.slot id = .free := by
  obtain ⟨p, n⟩ := id
  cases p <;> simp [State.slot, State.port, State.reset, PortRecord.reset]

theorem State.reset_port (p : Port) : State.reset.port p = PortRecord.reset := by cases p <;> rfl

theorem State.reset_circuit (c : Fin 96) : State.reset.circuit c = Circuit.reset := by simp [State.circuit, State.reset]

theorem State.reset_kept (q : Claims) : Kept q State.reset := .of_reset rfl rfl rfl ⟨rfl, rfl⟩ rfl State.reset_slot

theorem State.reset_slotsSound : SlotsSound State.reset where
  waiting g id := by simp [State.reset_group, State.reset_slot, Group.reset]
  waitingOnce g := by rw [State.reset_group]; exact List.nodup_nil
  noneIdle g h := by rw [State.reset_group] at h; exact absurd rfl h
  linked c id := by simp [State.reset_circuit, State.reset_slot, Circuit.reset]
  seizing c id h := by rw [State.reset_circuit] at h; cases h
  disabledFree _ _ _ := State.reset_slot _

/-- Settles O60, by the reset values of the records. -/
theorem resetMeetsTheInvariants : Obligations.ResetMeetsTheInvariants := by
  unfold Obligations.ResetMeetsTheInvariants
  have kept := State.reset_kept .ofRest
  refine ⟨State.reset_referencesSound, fun p => ?_, .of_reset rfl rfl ⟨rfl, rfl, rfl, rfl⟩, State.reset_slotsSound,
    (kept.fitting trivial).restSound (kept.staffedRest trivial), (State.reset_kept .ofFields).fields trivial,
    ((State.reset_kept .ofDigits).counts trivial).digitsSound, fun p => ?_⟩
  · rw [State.reset_port]; exact List.nodup_nil
  · rw [State.reset_port]; exact PortRules.eventsFit.reset

end ResetProofs

end Sys2Proof.Machine

/-! PROOFS. The accesses of a control port that are no order of the catalogue (R137 to R142, R156, R157, R159; log entries 5 and
15). -/

namespace Sys2Proof.Machine

section PortProofs

variable {s : State} {p : Port}

/-- A change of a port depends on what it makes of the port's record alone. -/
theorem State.modPort_congr {f f' : PortRecord → PortRecord} (h : f (s.port p) = f' (s.port p)) :
    s.modPort p f = s.modPort p f' := by
  cases p
  · exact congrArg (fun r => { s with portA := r }) h
  · exact congrArg (fun r => { s with portB := r }) h

/-! ## The abandonment of a report read (R159) -/

theorem givesBack_iff {it : Item} :
    givesBack p it s = true ↔ ¬ ∃ n, it = .slot n ∧ s.slot { port := p, num := n } = .free := by
  cases it <;> simp [givesBack]

theorem PortRecord.restore_eq (r : PortRecord) (it : Item) (k : EventSet) :
    r.restore it k =
      { r with
        pend := r.pend.set it.index ((r.pendOf it).union k)
        attention := it :: r.attention.filter fun x => x ≠ it } := rfl

/-- Settles O53, by whether the read's merge flag is set and its item gives its events back. -/
theorem abandonedReadGivesBack : Obligations.AbandonedReadGivesBack := by
  unfold Obligations.AbandonedReadGivesBack
  intro p s k reading r lost
  have unfolded : abandonReport p s =
      if k.merge ∧ givesBack p k.item s then s.modPort p fun r => { r.restore k.item k.events with report := none }
      else s.modPort p fun r => { r with report := none } := by simp [abandonReport, reading]
  have given : (k.merge ∧ givesBack p k.item s) ↔ ¬ lost := by
    simp only [lost, not_or, givesBack_iff, Bool.not_eq_false]
  constructor
  · intro h
    rw [unfolded, if_neg fun g => given.mp g h]
  · intro h
    refine ⟨(r.pendOf k.item).union k.events, rfl, rfl, ?_⟩
    rw [unfolded, if_pos (given.mpr h)]
    exact State.modPort_congr rfl

/-! ## Accesses on an open port -/

/-- A read of an open port is answered in the state in which RSEL is asserted. -/
theorem assertSelect_read (h : Open p s) (act : State → State) :
    assertSelect p .read false act s = act (readStart p s) := assertSelect_open p .read act h

/-- A CH 0 write that completes no order of the catalogue, on an open port: its word is taken where a report read is abandoned. -/
theorem exec_orderWord {w : OrderWrite} (h : Open w.port s) (alone : w.beside = false)
    (plain : (s.port w.port).completedKind w.data = none) :
    exec (.orderWord w) s = .next
      (if (s.port w.port).completes w.data then (writeStart w.port s).modPort w.port (·.finish (oneWord .unknownOrder))
      else (writeStart w.port s).modPort w.port (·.assemble w.data)) := by
  refine (unlessReset_of _ h.1).trans ?_
  rw [plainWrite, if_pos plain, alone, assertSelect_open _ _ _ h]
  obtain ⟨-, assembly⟩ := writeStart_port s w.port
  have same : ((writeStart w.port s).port w.port).completes w.data = (s.port w.port).completes w.data := by
    simp [PortRecord.completes, PortRecord.taken_congr assembly]
  rw [← same]
  rfl

theorem exec_resultRead (h : Open p s) :
    exec (.resultRead { port := p, beside := false }) s = .next (answerResultRead p (readStart p s)) := by
  refine (unlessReset_of _ h.1).trans ?_
  rw [assertSelect_read h]

theorem exec_reportRead (h : Open p s) :
    exec (.reportRead { port := p, beside := false }) s = .next (answerReportRead p (readStart p s)) := by
  refine (unlessReset_of _ h.1).trans ?_
  rw [assertSelect_read h]

theorem exec_reportChannelWrite (h : Open p s) (data : Word) :
    exec (.reportChannelWrite { port := p, beside := false } data) s =
      .next (s.modPort p fun r =>
        { r.abandonOrder with wsel := true, resultPos := 1, handshake := .replyingWrite }) := by
  refine (unlessReset_of _ h.1).trans ?_
  simp only
  rw [assertSelect_open _ _ _ h, answerReportWrite, State.modPort_modPort]
  exact congrArg _ (State.modPort_congr (by unfold PortRecord.abandonOrder; dsimp only [PortRecord.setSelect]; split <;> rfl))

/-- A word that completes no order leaves no order completed. -/
theorem PortRecord.completedKind_of_incomplete {r : PortRecord} {w : Word} (h : r.completes w = false) :
    r.completedKind w = none := by simp [PortRecord.completedKind, h]

/-- Settles O49, by whether the word taken completes an order, and whether an order is in assembly. -/
theorem writesAreAssembledOrDiscarded : Obligations.WritesAreAssembledOrDiscarded := by
  unfold Obligations.WritesAreAssembledOrDiscarded
  intro w s free alone r s0 a
  have assembly : (s0.port w.port).assembly = r.assembly := (writeStart_port s w.port).2
  have joins (incomplete : r.completes w.data = false) :
      exec (.orderWord w) s = .next (s0.modPort w.port (·.assemble w.data)) := by
    have made := exec_orderWord free alone (PortRecord.completedKind_of_incomplete incomplete)
    rwa [if_neg (by simp [r] at incomplete; simp [incomplete])] at made
  refine ⟨fun empty long => ?_, fun ws n inAssembly long => ?_, fun completes unknown => ?_, fun empty => ?_,
    fun ws n inAssembly => ?_⟩
  · rw [joins (by simp [PortRecord.completes, PortRecord.taken, empty, orderCount]; omega)]
    refine congrArg _ (State.modPort_congr ?_)
    simp [PortRecord.assemble, PortRecord.taken, assembly, empty, orderCount]
  · rw [joins (by simp [PortRecord.completes, PortRecord.taken, inAssembly]; omega)]
    refine congrArg _ (State.modPort_congr ?_)
    simp [PortRecord.assemble, PortRecord.taken, assembly, inAssembly]
  · rw [exec_orderWord free alone (by simpa [PortRecord.completedKind, r, completes] using unknown), if_pos completes]
    rfl
  · rw [exec_reportChannelWrite free]
    refine congrArg _ (State.modPort_congr ?_)
    simp only [PortRecord.abandonOrder, show (s.port w.port).assembly = .empty from empty]
  · rw [exec_reportChannelWrite free]
    refine congrArg _ (State.modPort_congr ?_)
    simp only [PortRecord.abandonOrder, show (s.port w.port).assembly = .assembling ws n from inAssembly]

/-- The abandonment of a report read commutes with a change of the port that leaves what the abandonment reads. -/
theorem abandonReport_abandonOrder :
    abandonReport p (s.modPort p PortRecord.abandonOrder) = (abandonReport p s).modPort p PortRecord.abandonOrder := by
  have port : (s.modPort p PortRecord.abandonOrder).port p = (s.port p).abandonOrder := State.modPort_port_self s p _
  have kept : (s.port p).abandonOrder.report = (s.port p).report := by unfold PortRecord.abandonOrder; split <;> rfl
  have slots (n : Fin 16) : (s.modPort p PortRecord.abandonOrder).slot { port := p, num := n } =
      s.slot { port := p, num := n } := by
    rw [State.slot, port]; unfold PortRecord.abandonOrder; split <;> rfl
  have given (it : Item) : givesBack p it (s.modPort p PortRecord.abandonOrder) = givesBack p it s := by
    cases it <;> simp [givesBack, slots]
  unfold abandonReport
  rw [port, kept]
  cases (s.port p).report with
  | none => rfl
  | some k =>
    simp only [given]
    split <;> rw [State.modPort_modPort, State.modPort_modPort] <;>
      exact State.modPort_congr (by unfold PortRecord.abandonOrder; dsimp [PortRecord.restore_eq]; split <;> rfl)

/-- Settles O50, by the order in assembly, if any, and the port's record after the abandonments. -/
theorem resultReadsPresentTheBlock : Obligations.ResultReadsPresentTheBlock := by
  unfold Obligations.ResultReadsPresentTheBlock
  intro p s free r s0 a
  have answered : exec (.resultRead a) s =
      .next (s0.modPort p fun r => r.abandonOrder.presentResult) := by
    rw [exec_resultRead free, answerResultRead, abandonReport_abandonOrder, State.modPort_modPort]
  obtain ⟨-, -, -, -, -, assembly, result, position, -⟩ := abandonReport_port (readStart p s) p
  simp only [readStart, State.modPort_port_self] at assembly result position
  refine ⟨fun word empty first there => ?_, fun ws n inAssembly => ?_⟩
  · rw [answered]
    refine congrArg _ (State.modPort_congr ?_)
    have short : r.resultPos ≤ r.result.length := by
      have := (List.getElem?_eq_some_iff.mp there).1
      omega
    have last : (r.result.length ≤ r.resultPos) ↔ r.resultPos = r.result.length := by omega
    have shown : wordAt r.result (r.resultPos - 1) = word := by simp [wordAt, there]
    have same : (s0.port p).abandonOrder = s0.port p := by
      simp only [PortRecord.abandonOrder, s0, readStart, assembly, show (s.port p).assembly = .empty from empty]
    simp only [same, PortRecord.presentResult]
    simp only [s0, readStart, result, position, show (s.port p).result = r.result from rfl,
      show (s.port p).resultPos = r.resultPos from rfl, last, shown, decide_eq_true_eq]
  · rw [answered]
    refine congrArg _ (State.modPort_congr ?_)
    simp only [PortRecord.abandonOrder, s0, readStart, assembly, show (s.port p).assembly = .assembling ws n from inAssembly]
    rfl

end PortProofs

end Sys2Proof.Machine

/-! PROOFS. The selects of a control port (R137, R138; log entry 5): which are answered, which stand and which are withdrawn. -/

namespace Sys2Proof.Machine

section Selects

variable {s : State} {p : Port} {sel : Select} {act : State → State}

/-! ## Selects asserted -/

/-- A select that is asserted while the other is, or while the port replies, stands and is not answered. -/
theorem assertSelect_stands (h : (s.port p).selected sel = false)
    (busy : (s.port p).selected (otherSelect sel) = true ∨ (s.port p).handshake ≠ .quiet) :
    assertSelect p sel false act s = s.modPort p fun r => r.setSelect sel true := by
  have waits : ¬ ((s.port p).handshake = .quiet ∧ !(s.port p).selected (otherSelect sel)) := by
    rintro ⟨quiet, alone⟩
    rcases busy with busy | busy
    · simp [busy] at alone
    · exact busy quiet
  have other : ((s.port p).setSelect sel true).selected (otherSelect sel) = (s.port p).selected (otherSelect sel) := by
    cases sel <;> rfl
  have shake : ((s.port p).setSelect sel true).handshake = (s.port p).handshake := by cases sel <;> rfl
  unfold assertSelect
  simp only [h, State.modPort_port_self, other, shake, if_neg waits, Bool.false_eq_true, if_false]

/-- The write of a word on CH 0: the row of the order that it completes, or an order word. -/
def writeRow (p : Port) (beside : Bool) (data : Word) (mperm : Bool) (r : PortRecord) (u : State) :
    Host.Outcome State Fault Refusal :=
  let w : OrderWrite := { port := p, data := data, mperm := mperm, beside := beside }
  match r.completedKind data with
  | none => exec (.orderWord w) u
  | some kind => exec (rowOf kind w) u

/-- A CH 0 write asserts WSEL, and its answer is that of its word, whatever the word completes. -/
theorem writeRow_eq (beside : Bool) (data : Word) (mperm : Bool) {u : State}
    (same : (u.port p).assembly = (s.port p).assembly) (awake : u.resetAsserted = false) :
    writeRow p beside data mperm (s.port p) u = .next (assertSelect p .write beside (fun v =>
      match (s.port p).completedKind data with
      | some kind => takeOrder kind (orderBody kind) p data mperm v
      | none => takeWord p data v) u) := by
  have completed : (u.port p).completedKind data = (s.port p).completedKind data := by
    simp [PortRecord.completedKind, PortRecord.completes, PortRecord.taken_congr same]
  unfold writeRow
  cases kind : (s.port p).completedKind data with
  | none =>
    refine (unlessReset_of _ awake).trans ?_
    rw [plainWrite, if_pos (completed.trans kind)]
  | some kind =>
    simp only
    rw [exec_rowOf, unlessReset_of _ awake, orderWrite, if_pos (completed.trans ‹_›)]

theorem exec_reportChannelWrite_select (awake : s.resetAsserted = false) (beside : Bool) (data : Word) :
    exec (.reportChannelWrite { port := p, beside := beside } data) s =
      .next (assertSelect p .write beside (answerReportWrite p) s) := unlessReset_of _ awake

theorem exec_resultRead_select (awake : s.resetAsserted = false) (beside : Bool) :
    exec (.resultRead { port := p, beside := beside }) s = .next (assertSelect p .read beside (answerResultRead p) s) :=
  unlessReset_of _ awake

theorem exec_reportRead_select (awake : s.resetAsserted = false) (beside : Bool) :
    exec (.reportRead { port := p, beside := beside }) s = .next (assertSelect p .read beside (answerReportRead p) s) :=
  unlessReset_of _ awake

/-! ## Selects deasserted -/

theorem PortRecord.released_handshake (r : PortRecord) (sel : Select) :
    (r.released sel).handshake = if r.answers sel then .quiet else r.handshake := rfl

theorem PortRecord.released_other (r : PortRecord) (sel : Select) :
    (r.released sel).selected (otherSelect sel) = r.selected (otherSelect sel) := by cases sel <;> rfl

/-- The deassertion of an asserted select changes the port alone where no other select is asserted, or the port answers the
other. -/
theorem deassertSelect_alone {d : Deassertion} (on : (s.port p).selected d.select = true)
    (idle : (s.port p).selected (otherSelect d.select) = false ∨
      (s.port p).handshake ≠ .quiet ∧ (s.port p).answers d.select = false) :
    deassertSelect p d s = s.modPort p fun r => r.released d.select := by
  have stays : ¬ (((s.port p).released d.select).handshake = .quiet ∧
      ((s.port p).released d.select).selected (otherSelect d.select) = true) := by
    rw [PortRecord.released_handshake, PortRecord.released_other]
    rcases idle with idle | ⟨replies, other⟩
    · simp [idle]
    · simp [replies, other]
  unfold deassertSelect
  simp only [if_pos on, State.modPort_port_self, if_neg stays]

/-- The deassertion of an asserted select on a port that is QUIET or answers it begins the access of the other select, if that
is asserted. -/
theorem deassertSelect_other {d : Deassertion} (on : (s.port p).selected d.select = true)
    (released : (s.port p).handshake = .quiet ∨ (s.port p).answers d.select = true)
    (waits : (s.port p).selected (otherSelect d.select) = true) :
    deassertSelect p d s = beginOther p d (s.modPort p fun r => r.released d.select) := by
  have begins : ((s.port p).released d.select).handshake = .quiet ∧
      ((s.port p).released d.select).selected (otherSelect d.select) = true := by
    rw [PortRecord.released_handshake, PortRecord.released_other]
    exact ⟨by rcases released with h | h <;> simp [h], waits⟩
  unfold deassertSelect
  simp only [if_pos on, State.modPort_port_self, if_pos begins]

/-- A port with neither select asserted and no access in progress. -/
def freed (p : Port) (s : State) : State := s.modPort p fun k => { k with handshake := .quiet, wsel := false, rsel := false }

theorem freed_open (awake : s.resetAsserted = false) : Open p (freed p s) := by
  refine ⟨by simpa [freed] using awake, ?_, ?_, ?_⟩ <;> simp [freed]

/-- On a freed port the other select is asserted as by an access of its own. -/
theorem freed_setSelect (released : (s.port p).handshake = .quiet ∨ (s.port p).answers sel = true)
    (on : (s.port p).selected (otherSelect sel) = true) :
    (freed p s).modPort p (fun r => r.setSelect (otherSelect sel) true) = s.modPort p fun r => r.released sel := by
  rw [freed, State.modPort_modPort]
  refine State.modPort_congr ?_
  have quiet : (if (s.port p).answers sel then .quiet else (s.port p).handshake) = Handshake.quiet := by
    rcases released with h | h <;> simp [h]
  unfold PortRecord.released
  rw [quiet]
  cases sel <;> simp [PortRecord.selected, otherSelect] at on <;> simp [PortRecord.setSelect, otherSelect, on]

/-- The deassertion of the select being answered takes a port whose other select is deasserted to QUIET. -/
theorem deassertSelect_freed {d : Deassertion} (on : (s.port p).selected d.select = true)
    (answered : (s.port p).answers d.select = true) (alone : (s.port p).selected (otherSelect d.select) = false) :
    deassertSelect p d s = freed p s := by
  rw [deassertSelect_alone on (.inl alone)]
  refine State.modPort_congr ?_
  cases hd : d.select <;> simp [hd, PortRecord.selected, otherSelect] at alone <;>
    simp [hd] at answered <;> simp [PortRecord.released, PortRecord.setSelect, answered, alone]

/-- The deassertion of a select while the port answers the other withdraws it. -/
theorem deassertSelect_withdraws {d : Deassertion} (on : (s.port p).selected d.select = true)
    (replies : (s.port p).handshake ≠ .quiet) (other : (s.port p).answers d.select = false) :
    deassertSelect p d s = s.modPort p fun r => r.setSelect d.select false := by
  rw [deassertSelect_alone on (.inr ⟨replies, other⟩)]
  exact State.modPort_congr (by cases hd : d.select <;> simp [hd] at other <;>
    simp [PortRecord.released, PortRecord.setSelect, other])

/-- A CH 0 write is answered by what its word completes with the order in assembly. -/
theorem answerOrderWrite_kind {r : PortRecord} (data : Word) (mperm : Bool) (same : (s.port p).assembly = r.assembly) :
    answerOrderWrite p data mperm s =
      match r.completedKind data with
      | some kind => takeOrder kind (orderBody kind) p data mperm s
      | none => takeWord p data s := by
  have completed : (s.port p).completedKind data = r.completedKind data := by
    simp [PortRecord.completedKind, PortRecord.completes, PortRecord.taken_congr same]
  cases kind : r.completedKind data <;> simp only [answerOrderWrite, completed, kind]

/-- Settles O52, by the select that the command asserts or deasserts and the access that the port is answering. -/
theorem selectsAreAnsweredInTurn : Obligations.SelectsAreAnsweredInTurn := by
  unfold Obligations.SelectsAreAnsweredInTurn
  intro p s awake r freedState alone both write
  have writes (beside : Bool) (data : Word) (mperm : Bool) (u : State) :
      write beside data mperm u = writeRow p beside data mperm r u := rfl
  have same : (freedState.port p).assembly = r.assembly := by simp [freedState, r]
  have freedOpen : Open p freedState := freed_open awake
  have deasserted (d : Deassertion) : exec (.selectDeassert p d) s = .next (deassertSelect p d s) := unlessReset_of _ awake
  refine ⟨fun off busy data mperm => ?_, fun off busy => ?_, fun woff roff data mperm => ?_, fun ⟨dir, ch, data, mperm⟩ =>
    ⟨fun hd hs hw hr => ?_, fun word last hd hs hr hw => ?_, fun hd hs hw hr => ?_, fun hd hs hw hr => ?_,
      fun word last hd hs hw => ?_, fun hd hs hr => ?_⟩⟩
  · rw [writes, writeRow_eq false data mperm rfl awake, exec_reportChannelWrite_select awake,
      assertSelect_stands (p := p) (sel := .write) off busy, assertSelect_stands (p := p) (sel := .write) off busy]
    exact ⟨rfl, rfl⟩
  · rw [exec_resultRead_select awake, exec_reportRead_select awake, assertSelect_stands (p := p) (sel := .read) off busy,
      assertSelect_stands (p := p) (sel := .read) off busy]
    exact ⟨rfl, rfl⟩
  · rw [writes, writeRow_eq true data mperm rfl awake, exec_reportChannelWrite_select awake, exec_resultRead_select awake,
      exec_reportRead_select awake, assertSelect_beside p .write _ woff, assertSelect_beside p .write _ woff,
      assertSelect_beside p .read _ roff, assertSelect_beside p .read _ roff]
    exact ⟨rfl, rfl, rfl, rfl⟩
  all_goals simp only at hd; subst hd; rw [deasserted]
  · rw [deassertSelect_freed (p := p) (d := ⟨.write, ch, data, mperm⟩) hw (by simp [PortRecord.answers, show (s.port p).handshake = _ from hs]) hr]; rfl
  · rw [deassertSelect_freed (p := p) (d := ⟨.read, ch, data, mperm⟩) hr (by simp [PortRecord.answers, show (s.port p).handshake = _ from hs]) hw]; rfl
  · have released : (s.port p).handshake = .quiet ∨ (s.port p).answers .write = true :=
      hs.imp_right fun h => by simp [PortRecord.answers, show (s.port p).handshake = _ from h]
    rw [deassertSelect_other (p := p) (d := ⟨.write, ch, data, mperm⟩) hw released hr, ← freed_setSelect released hr]
    refine ⟨fun hc => ?_, fun hc => ?_⟩ <;> simp only at hc <;> subst hc
    · exact (exec_resultRead freedOpen).symm
    · exact (exec_reportRead freedOpen).symm
  · have released : (s.port p).handshake = .quiet ∨ (s.port p).answers .read = true :=
      hs.imp_right fun ⟨word, last, h⟩ => by simp [PortRecord.answers, show (s.port p).handshake = _ from h]
    rw [deassertSelect_other (p := p) (d := ⟨.read, ch, data, mperm⟩) hr released hw, ← freed_setSelect released hw]
    refine ⟨fun hc => ?_, fun hc => ?_⟩ <;> simp only at hc <;> subst hc
    · rw [writes, writeRow_eq false data mperm same freedOpen.1, assertSelect_open _ _ _ freedOpen]
      refine congrArg _ ?_
      exact answerOrderWrite_kind data mperm (by simp [PortRecord.setSelect, otherSelect, freed])
    · refine ((unlessReset_of _ freedOpen.1).trans ?_).symm
      rw [assertSelect_open _ _ _ freedOpen]
      rfl
  · rw [deassertSelect_withdraws (p := p) (d := ⟨.write, ch, data, mperm⟩) hw (by simp [show (s.port p).handshake = _ from hs])
      (by simp [PortRecord.answers, show (s.port p).handshake = _ from hs])]
    rfl
  · rw [deassertSelect_withdraws (p := p) (d := ⟨.read, ch, data, mperm⟩) hr (by simp [show (s.port p).handshake = _ from hs])
      (by simp [PortRecord.answers, show (s.port p).handshake = _ from hs])]
    rfl

end Selects

end Sys2Proof.Machine

/-! PROOFS. The intervals whose end changes one circuit, one unit or one slot (R34, R58 to R60, R73, R80, R84, R95, R117, R118,
R120), with the frames of the changes they are made of. -/

namespace Sys2Proof.Machine

section Frames

variable {s t v : State} {c : Fin 96} {u : Fin 16}

/-! ## One circuit -/

theorem OnlyCircuit.refl (s : State) (c : Fin 96) : OnlyCircuit c s s := ⟨fun _ _ => rfl, rfl, PoolKept.refl s, LinesKept.refl s⟩

theorem CircuitsKept.trans {l : List (Fin 96)} (h : CircuitsKept l s t) (k : CircuitsKept l t v) : CircuitsKept l s v :=
  fun d hd => (k d hd).trans (h d hd)

theorem UnitsKept.trans {l : List (Fin 16)} (h : UnitsKept l s t) (k : UnitsKept l t v) : UnitsKept l s v :=
  fun d hd => (k d hd).trans (h d hd)

theorem GroupsKept.trans {l : List (Fin 8)} (h : GroupsKept l s t) (k : GroupsKept l t v) : GroupsKept l s v :=
  fun d hd => (k d hd).trans (h d hd)

theorem OnlyCircuit.trans (h : OnlyCircuit c s t) (k : OnlyCircuit c t v) : OnlyCircuit c s v := by
  obtain ⟨circuits, groups, pool, lines⟩ := h
  obtain ⟨circuits', groups', pool', lines'⟩ := k
  exact ⟨circuits.trans circuits', groups'.trans groups, pool.trans pool', lines.trans lines'⟩

theorem OnlyCircuit.modCircuit (h : OnlyCircuit c s t) (f : Circuit → Circuit) : OnlyCircuit c s (t.modCircuit c f) :=
  h.trans ⟨fun _ hd => State.modCircuit_circuit_ne t c f (by simpa using hd), rfl, PoolKept.refl t, LinesKept.refl t⟩

theorem OnlyCircuit.drive (h : OnlyCircuit c s t) (cond : Cond) : OnlyCircuit c s (t.drive c cond) := h.modCircuit _

theorem OnlyCircuit.startTimer (h : OnlyCircuit c s t) (n : Nat) : OnlyCircuit c s (t.startTimer c n) := h.modCircuit _

theorem OnlyCircuit.raiseCircuit (h : OnlyCircuit c s t) (d : Fin 96) (e : Event) : OnlyCircuit c s (t.raiseCircuit d e) :=
  h.trans ⟨fun _ _ => by simp, by simp, by simp [PoolKept], by simp [LinesKept]⟩

/-- An event routed by the owner that a circuit had before its record was changed. -/
theorem CircuitEvent.raise (owner : (t.circuit c).owner = (s.circuit c).owner) (ports : PortsKept s t) (e : Event) :
    CircuitEvent c e s (t.raiseCircuit c e) := by
  intro p
  rw [State.raiseCircuit_port, owner, ports.port p]

theorem CircuitEvent.of_modCircuit (f : Circuit → Circuit) (owner : (f (s.circuit c)).owner = (s.circuit c).owner) :
    CircuitEvent c e s ((s.modCircuit c f).raiseCircuit c e) := by
  refine CircuitEvent.raise ?_ ?_ e
  · rw [State.modCircuit_circuit_self, owner]
  · exact ⟨rfl, rfl⟩

theorem CircuitEvent.ports (h : CircuitEvent c e s t) (k : PortsKept t v) : CircuitEvent c e s v :=
  fun p => (k.port p).trans (h p)

/-! ## One unit -/

theorem OnlyUnit.modUnit (s : State) (u : Fin 16) (f : DigitUnit → DigitUnit) : OnlyUnit u s (s.modUnit u f) :=
  ⟨fun _ hv => State.modUnit_unit_ne s u f (by simpa using hv), rfl, rfl, rfl, rfl, rfl, LinesKept.refl s⟩

/-! ## Commands that are due -/

theorem onCircuit_due {due : Fin 96 → State → Bool} {act : Fin 96 → State → State} (awake : s.resetAsserted = false)
    (h : due c s = true) : onCircuit c.val due act s = .next (act c s) := by
  rw [onCircuit_val, if_pos ⟨awake, h⟩]

theorem onUnit_due {due : Fin 16 → State → Bool} {act : Fin 16 → State → State} (awake : s.resetAsserted = false)
    (h : due u s = true) : onUnit u.val due act s = .next (act u s) := by
  rw [onUnit_val, if_pos ⟨awake, h⟩]

theorem timerDue_iff : s.timerDue c = true ↔ TimerReached c s := by
  unfold State.timerDue timerDue TimerReached
  cases (s.circuit c).timer <;> simp

theorem instantDue_iff {now : Time} {at_ : Option Time} : instantDue now at_ = true ↔ Come now at_ := by
  cases at_ <;> simp [instantDue, Come]

theorem leadOn_eq {cond : Cond} (h : (s.filter c).recCond = cond) : s.leadOn c = decide (cond = .on) := by
  rw [← h]; rfl

end Frames

section Intervals

variable {s : State} {c : Fin 96} {u : Fin 16}

/-! ## What the lead and the timer leave alone -/

@[simp] theorem State.drive_timeBase (c : Fin 96) (cond : Cond) : (s.drive c cond).timeBase = s.timeBase := rfl
@[simp] theorem State.drive_groups (c : Fin 96) (cond : Cond) : (s.drive c cond).groups = s.groups := rfl
@[simp] theorem State.drive_group (c : Fin 96) (cond : Cond) (g : Fin 8) : (s.drive c cond).group g = s.group g := rfl
@[simp] theorem State.drive_unit (c : Fin 96) (cond : Cond) (u : Fin 16) : (s.drive c cond).unit u = s.unit u := rfl
@[simp] theorem State.drive_filter (c x : Fin 96) (cond : Cond) : (s.drive c cond).filter x = s.filter x := rfl
@[simp] theorem State.drive_port (c : Fin 96) (cond : Cond) (p : Port) : (s.drive c cond).port p = s.port p :=
  State.modCircuit_port s c _ p
@[simp] theorem State.drive_slot (c : Fin 96) (cond : Cond) (id : SlotId) : (s.drive c cond).slot id = s.slot id :=
  State.modCircuit_slot s c _ id
@[simp] theorem State.drive_par (c x : Fin 96) (cond : Cond) (p : Param) : (s.drive c cond).par x p = s.par x p := by
  refine State.par_congr (s := s) (t := s.drive c cond) ?_ (fun _ => rfl) p
  by_cases h : x = c <;> simp [State.drive_circuit, h]

@[simp] theorem State.startTimer_timeBase (c : Fin 96) (n : Nat) : (s.startTimer c n).timeBase = s.timeBase := rfl
@[simp] theorem State.startTimer_groups (c : Fin 96) (n : Nat) : (s.startTimer c n).groups = s.groups := rfl
@[simp] theorem State.startTimer_group (c : Fin 96) (n : Nat) (g : Fin 8) : (s.startTimer c n).group g = s.group g := rfl
@[simp] theorem State.startTimer_unit (c : Fin 96) (n : Nat) (u : Fin 16) : (s.startTimer c n).unit u = s.unit u := rfl
@[simp] theorem State.startTimer_filter (c x : Fin 96) (n : Nat) : (s.startTimer c n).filter x = s.filter x := rfl
@[simp] theorem State.startTimer_port (c : Fin 96) (n : Nat) (p : Port) : (s.startTimer c n).port p = s.port p :=
  State.modCircuit_port s c _ p
@[simp] theorem State.startTimer_slot (c : Fin 96) (n : Nat) (id : SlotId) : (s.startTimer c n).slot id = s.slot id :=
  State.modCircuit_slot s c _ id

/-! ## The release of a circuit (R58 to R60, R84) -/

/-- Settles O16: each interval's end is a change of the lead, the timer and the state of its circuit. -/
theorem releaseIntervalsEnd : Obligations.ReleaseIntervalsEnd := by
  unfold Obligations.ReleaseIntervalsEnd
  intro c s awake reached k
  have due := timerDue_iff.mpr reached
  refine ⟨fun state sup => ?_, fun state sup => ?_, fun state sup => ?_⟩
  · refine ⟨_, onCircuit_due awake (by simp [seizeHoldDue, due, show (s.circuit c).state = _ from state,
      show (s.circuit c).sup = _ from sup]), ?_, ((OnlyCircuit.refl s c).drive _).startTimer _, rfl, rfl⟩
    simp [endSeizeHold, State.startTimer_circuit, State.drive_circuit, show (s.circuit c).sup = _ from sup, k]
  · refine ⟨_, onCircuit_due awake (by simp [guardSepDue, due, show (s.circuit c).state = _ from state,
      show (s.circuit c).sup = _ from sup]), ?_, ((OnlyCircuit.refl s c).drive _).startTimer _, rfl, rfl⟩
    simp [beginGuardOn, State.startTimer_circuit, State.drive_circuit, k]
  · have raised : CircuitEvent c .guardFailed s
        ((s.modCircuit c fun k => { k with cause := .guardFailed }).raiseCircuit c .guardFailed) :=
      CircuitEvent.of_modCircuit _ rfl
    refine ⟨_, onCircuit_due awake (by simp [guardWaitDue, due, show (s.circuit c).state = _ from state,
      show (s.circuit c).sup = _ from sup]), ?_,
      ((((OnlyCircuit.refl s c).modCircuit _).raiseCircuit c _).modCircuit _).drive _,
      raised.ports ⟨rfl, rfl⟩⟩
    have off : s.circuit c = { s.circuit c with sup := .off } :=
      congrArg (fun v => { s.circuit c with sup := v }) (show (s.circuit c).sup = .off from sup)
    rw [show k = { s.circuit c with sup := .off } from off]
    simp [expireGuardWait, State.drive_circuit, show (s.circuit c).sup = _ from sup]

/-! ## The acknowledgement pulse and the deferred answer (R73, R80, R95) -/

theorem CircuitState.pulsing_iff (st : CircuitState) :
    st.pulsing = true ↔ st = .inReceiving ∨ st = .inHeld ∨ st = .inAnswered ∨ st = .inClearedBack := by
  cases st <;> simp [CircuitState.pulsing]

theorem endAckPulse_circuit (c : Fin 96) (s : State) :
    (endAckPulse c s).circuit c =
      { s.circuit c with
        ackPulse := .ended, ackEndSep := s.par c .sep, sup := .off
        lastOff := if (s.circuit c).sup = .on then some { start := s.timeBase, value := s.par c .sep }
          else (s.circuit c).lastOff
        timer := if (s.circuit c).state = .inReceiving ∧ (s.circuit c).digits = [] then
          some { start := s.timeBase, value := 1000 * s.par c .fdWait } else (s.circuit c).timer } := by
  unfold endAckPulse
  simp only [State.drive_circuit, State.modCircuit_circuit_self, if_true]
  split <;> simp_all [State.startTimer_circuit, State.par, State.drive]

theorem endAckPulse_frame (c : Fin 96) (s : State) : OnlyCircuit c s (endAckPulse c s) ∧ PortsKept s (endAckPulse c s) := by
  have ended := ((OnlyCircuit.refl s c).modCircuit fun k => { k with ackPulse := .ended, ackEndSep := s.par c .sep }).drive .off
  unfold endAckPulse
  simp only
  split
  · exact ⟨ended.startTimer _, rfl, rfl⟩
  · exact ⟨ended, rfl, rfl⟩

/-- Settles O21: each of the three is a change of its circuit's lead and of the record of the pulse or the answer. -/
theorem pulseAndDeferredAnswerAreShown : Obligations.PulseAndDeferredAnswerAreShown := by
  unfold Obligations.PulseAndDeferredAnswerAreShown
  intro c s awake k inCall
  have pulsing (h : inCall) : (s.circuit c).state.pulsing = true := (CircuitState.pulsing_iff _).mpr h
  refine ⟨fun at_ calls scheduled come => ?_, fun calls running come => ?_, fun answered come => ?_⟩
  · refine ⟨_, onCircuit_due awake (by simp [ackPulseStartDue, show (s.circuit c).ackPulse = _ from scheduled,
      pulsing calls, come]), ?_, ((OnlyCircuit.refl s c).modCircuit _).drive _, rfl, rfl⟩
    simp [startAckPulse, State.drive_circuit, k]
  · refine ⟨_, onCircuit_due awake (by simp [ackPulseEndDue, show (s.circuit c).ackPulse = _ from running,
      pulsing calls, instantDue_iff.mpr (show Come s.timeBase (s.circuit c).ackEnd from come)]), ?_, endAckPulse_frame c s⟩
    exact endAckPulse_circuit c s
  · refine ⟨_, onCircuit_due awake (by simp [answerDueNow, show (s.circuit c).state = _ from answered,
      instantDue_iff.mpr (show Come s.timeBase (s.circuit c).ansDue from come)]), ?_, ((OnlyCircuit.refl s c).modCircuit _).drive _, rfl, rfl⟩
    simp [showAnswer, State.drive_circuit, k]

/-! ## A waiting slot (R34) -/

/-- Settles O24: the slot leaves its queue and is written, and its event is raised for its port. -/
theorem waitingSlotExpires : Obligations.WaitingSlotExpires := by
  unfold Obligations.WaitingSlotExpires
  intro id call digits eon expiry s awake waiting come
  have num : sixteenOf id.num.val = some id.num := sixteenOf_some.mpr rfl
  have acts : exec (.slotExpiry id.port id.num.val) s = .next
      (((leaveQueue call.group id s).setSlot id (.outcome call .expired)).raiseSlot id .expired) := by
    show execSlotExpiry id.port id.num.val s = _
    unfold execSlotExpiry
    rw [num]
    refine (unlessReset_of _ awake).trans ?_
    simp [slotExpiryDue, expireSlot, waiting, come]
  refine ⟨_, acts, ?_, ?_, ?_, fun x hx => ?_, ?_, ?_, ?_⟩
  · simp [State.raiseSlot_port, State.setSlot_port, leaveQueue]
  · have other : otherPort id.port ≠ id.port := by cases id.port <;> simp [otherPort]
    simp [State.raiseSlot_port, State.setSlot_port, leaveQueue, other]
  · simp [leaveQueue_group]
  · have hx : x ≠ call.group := by simpa using hx
    simp [leaveQueue_group, hx]
  · simp [leaveQueue]
  · simp [PoolKept, leaveQueue]
  · simp [LinesKept, leaveQueue]

/-! ## The intervals of a unit (R117, R118, R120) -/

theorem startDigit_eq {d : Fin 10} (attached : (s.unit u).circuit = some c)
    (digit : (s.circuit c).digits[(s.circuit c).sent]? = some d) :
    startDigit u s = s.modUnit u fun k =>
      { k with state := .sender .inBreak, count := 1, pulses := pulseNumber d, brkStart := some s.timeBase
               prevBrkStart := none, subEnd := some (timeAfter s.timeBase (s.par c .brkSend)) } := by
  simp [startDigit, attached, beginDigit, digit]

theorem senderDue_of {sub : SenderSub} (come : Come s.timeBase (s.unit u).subEnd) (state : (s.unit u).state = .sender sub) :
    senderDue sub u s = true := by simp [senderDue, state, instantDue_iff.mpr come]

/-- Settles O26: each interval's end writes one unit. -/
theorem unitIntervalsEnd : Obligations.UnitIntervalsEnd := by
  unfold Obligations.UnitIntervalsEnd
  intro u c s awake attached come k
  refine ⟨fun d digit => ⟨fun state => ?_, fun state => ?_⟩, fun state left => ?_, fun state => ?_, fun state short => ?_⟩
  · refine ⟨_, onUnit_due awake (senderDue_of come state), ?_⟩
    rw [startDigit_eq attached digit]
    exact ⟨State.modUnit_unit_self s u _, OnlyUnit.modUnit s u _, rfl, rfl⟩
  · refine ⟨_, onUnit_due awake (senderDue_of come state), ?_⟩
    rw [startDigit_eq attached digit]
    exact ⟨State.modUnit_unit_self s u _, OnlyUnit.modUnit s u _, rfl, rfl⟩
  · refine ⟨_, onUnit_due awake (senderDue_of come state), ?_⟩
    unfold endBreak
    simp only [attached, if_pos (show (s.unit u).count < (s.unit u).pulses from left)]
    exact ⟨State.modUnit_unit_self s u _, OnlyUnit.modUnit s u _, rfl, rfl⟩
  · refine ⟨_, onUnit_due awake (senderDue_of come state), ?_⟩
    unfold endMake
    simp only [attached]
    exact ⟨State.modUnit_unit_self s u _, OnlyUnit.modUnit s u _, rfl, rfl⟩
  · refine ⟨_, onUnit_due awake (by simp [longBreakDue, instantDue_iff.mpr come,
      show (s.unit u).state = _ from state, show (s.unit u).longBrk = _ from short]), ?_⟩
    exact ⟨State.modUnit_unit_self s u _, OnlyUnit.modUnit s u _, rfl, rfl⟩

end Intervals

end Sys2Proof.Machine

/-! PROOFS. The events that are raised on a circuit, composed (R153, R154); what the watch channels leave alone (R178, R179); and
the units of the circuits by their states (R102, R109). -/

namespace Sys2Proof.Machine

section Reports

variable {s t v : State} {c : Fin 96} {l l' : List (Option Port × Event)}

/-! ## Events on a circuit -/

/-- A frame for reports: the circuit's pending sets and its places on the lists are kept, and the lists only grow. -/
theorem NoCircuitEvent.of_books
    (h : ∀ p, (t.port p).pend[(Item.circuit c).index] = (s.port p).pend[(Item.circuit c).index] ∧
      (Item.circuit c ∈ (t.port p).attention ↔ Item.circuit c ∈ (s.port p).attention) ∧
      (s.port p).attention <+: (t.port p).attention) : NoCircuitEvent c s t := by
  intro p
  obtain ⟨pend, listed, grows⟩ := h p
  exact ⟨by simp [pend], fun _ => by rw [pend], by simp [listed], grows⟩

theorem NoCircuitEvent.of_same (h : ∀ p, (t.port p).pend = (s.port p).pend ∧ (t.port p).attention = (s.port p).attention) :
    NoCircuitEvent c s t :=
  .of_books fun p => by simp [(h p).1, (h p).2]

theorem NoCircuitEvent.of_ports (h : PortsKept s t) : NoCircuitEvent c s t :=
  .of_same fun p => by rw [h.port p]; exact ⟨rfl, rfl⟩

theorem NoCircuitEvent.refl (c : Fin 96) (s : State) : NoCircuitEvent c s s := .of_same fun _ => ⟨rfl, rfl⟩

/-- What is raised first and then is raised together. -/
theorem Reports.trans (h : Reports c l s t) (k : Reports c l' t v) : Reports c (l ++ l') s v := by
  intro p
  obtain ⟨bits, discarded, listed, grows⟩ := h p
  obtain ⟨bits', discarded', listed', grows'⟩ := k p
  simp only [List.filter_append, List.foldl_append] at *
  refine ⟨by rw [bits', bits], fun none_ => ?_, ?_, grows.trans grows'⟩
  · rw [discarded' fun x hx => none_ x (List.mem_append_right _ hx), discarded fun x hx => none_ x (List.mem_append_left _ hx)]
  · rw [listed', listed]
    simp only [ne_eq, List.append_eq_nil_iff, not_and_or, or_assoc]

theorem Reports.quiet (h : Reports c l s t) (k : NoCircuitEvent c t v) : Reports c l s v := by
  have both := h.trans k
  rwa [List.append_nil] at both

theorem Reports.after_quiet (h : NoCircuitEvent c s t) (k : Reports c l t v) : Reports c l s v := h.trans k

/-- One event on the circuit, routed by an owner. -/
theorem CircuitEventBy.reports {owner : Option Port} {e : Event} (h : CircuitEventBy owner c e s t) :
    Reports c [(owner, e)] s t := by
  intro p
  rw [h p]
  by_cases routed : routedTo owner p = true
  · simp only [if_pos routed, List.filter_cons, List.filter_nil, List.foldl_cons, List.foldl_nil]
    refine ⟨by simp [PortRecord.withEvent, EventSet.add], fun _ => by simp [PortRecord.withEvent, EventSet.add], ?_, ?_⟩
    · simp [PortRecord.mem_withEvent]
    · unfold PortRecord.withEvent
      split <;> simp
  · simp only [routed, if_false, Bool.false_eq_true, List.filter_cons, List.filter_nil, List.foldl_nil]
    exact ⟨trivial, fun _ => trivial, by simp, List.prefix_rfl⟩

theorem Reports.raiseCircuit (s : State) (c : Fin 96) (e : Event) :
    Reports c [((s.circuit c).owner, e)] s (s.raiseCircuit c e) :=
  CircuitEventBy.reports fun p => State.raiseCircuit_port s c p e

/-- An event on another item is none on the circuit. -/
theorem PortRecord.withEvent_other (r : PortRecord) {it x : Item} (h : x ≠ it) (e : Event) :
    (r.withEvent it e).pend[x.index] = r.pend[x.index] ∧
      (x ∈ (r.withEvent it e).attention ↔ x ∈ r.attention) := by
  refine ⟨?_, by simp [PortRecord.mem_withEvent, h]⟩
  have apart : it.index ≠ x.index := fun same => h (Item.index_injective same).symm
  have apart' : it.index.val ≠ x.index.val := fun same => apart (Fin.ext same)
  simp [PortRecord.withEvent, apart']

theorem PortRecord.withEvent_prefix (r : PortRecord) (it : Item) (e : Event) :
    r.attention <+: (r.withEvent it e).attention := by
  unfold PortRecord.withEvent
  split <;> simp

theorem NoCircuitEvent.withEvent {it : Item} {e : Event} (h : it ≠ .circuit c)
    (ports : ∀ p, t.port p = s.port p ∨ t.port p = (s.port p).withEvent it e) : NoCircuitEvent c s t := by
  refine .of_books fun p => ?_
  rcases ports p with same | raised
  · simp [same]
  · rw [raised]
    obtain ⟨pend, listed⟩ := (s.port p).withEvent_other h.symm e
    exact ⟨pend, listed, PortRecord.withEvent_prefix _ it e⟩

theorem NoCircuitEvent.raiseSlot (s : State) (c : Fin 96) (id : SlotId) (e : Event) :
    NoCircuitEvent c s (s.raiseSlot id e) := by
  refine .withEvent (it := .slot id.num) (e := e) (by simp) fun p => ?_
  rw [State.raiseSlot_port]
  split <;> simp

theorem NoCircuitEvent.raiseGroup (s : State) (c : Fin 96) (g : Fin 8) (e : Event) :
    NoCircuitEvent c s (s.raiseGroup g e) :=
  .withEvent (it := .group g) (e := e) (by simp) fun p => .inr (State.raiseGroup_port s g p e)

theorem NoCircuitEvent.setSlot (s : State) (c : Fin 96) (id : SlotId) (k : Slot) : NoCircuitEvent c s (s.setSlot id k) := by
  refine .of_same fun p => ?_
  rw [State.setSlot_port]
  split <;> simp [*]

/-! ## The watch channels (R178, R179) -/

/-- A port whose pending sets and list may differ for watch channels alone, the list having grown at its end. -/
structure PortRecord.Watched (r x : PortRecord) : Prop where
  record : ∃ pend attention, x = { r with pend := pend, attention := attention }
  pend : ∀ it : Item, (∀ w, it ≠ .watch w) → x.pend[it.index] = r.pend[it.index]
  listed : ∀ it : Item, (∀ w, it ≠ .watch w) → (it ∈ x.attention ↔ it ∈ r.attention)
  grows : r.attention <+: x.attention

theorem PortRecord.Watched.refl (r : PortRecord) : r.Watched r :=
  ⟨⟨_, _, rfl⟩, fun _ _ => rfl, fun _ _ => .rfl, List.prefix_rfl⟩

theorem PortRecord.Watched.trans {r x y : PortRecord} (h : r.Watched x) (k : x.Watched y) : r.Watched y := by
  obtain ⟨a, b, e⟩ := h.record
  obtain ⟨a', b', e'⟩ := k.record
  exact ⟨⟨a', b', by rw [e', e]⟩, fun it hit => (k.pend it hit).trans (h.pend it hit),
    fun it hit => (k.listed it hit).trans (h.listed it hit), h.grows.trans k.grows⟩

theorem PortRecord.Watched.withEvent (r : PortRecord) (w : Fin 8) (e : Event) : r.Watched (r.withEvent (.watch w) e) :=
  ⟨⟨_, _, rfl⟩, fun _ hit => (r.withEvent_other (hit w) e).1, fun _ hit => (r.withEvent_other (hit w) e).2,
    r.withEvent_prefix _ e⟩

/-- What the watch channels leave alone as they take a transition: everything but the test matrix, and of the ports everything
but what is pending on watch channels. -/
structure Watched (s t : State) : Prop where
  circuits : t.circuits = s.circuits
  groups : t.groups = s.groups
  pool : PoolKept s t
  filters : t.filters = s.filters
  timeBase : t.timeBase = s.timeBase
  resetAsserted : t.resetAsserted = s.resetAsserted
  pending : t.pending = s.pending
  choices : t.choices = s.choices
  ports : ∀ p, (s.port p).Watched (t.port p)

theorem Watched.refl (s : State) : Watched s s :=
  ⟨rfl, rfl, PoolKept.refl s, rfl, rfl, rfl, rfl, rfl, fun _ => .refl _⟩

theorem Watched.trans (h : Watched s t) (k : Watched t v) : Watched s v :=
  ⟨k.circuits.trans h.circuits, k.groups.trans h.groups, h.pool.trans k.pool, k.filters.trans h.filters,
    k.timeBase.trans h.timeBase, k.resetAsserted.trans h.resetAsserted, k.pending.trans h.pending,
    k.choices.trans h.choices, fun p => (h.ports p).trans (k.ports p)⟩

/-- The ports to which a watch channel's report_to sends matched (R154). -/
theorem State.raiseMatched_port (s : State) (w : Fin 8) (dest : ReportTo) (p : Port) :
    (s.raiseMatched w dest).port p =
      if dest.names p = true then (s.port p).withEvent (.watch w) .matched else s.port p := by
  cases dest <;> cases p <;> simp [State.raiseMatched, ReportTo.names, State.raiseAt_port, State.raiseBoth_port]

theorem countMatch_port (w : Fin 8) (s : State) (p : Port) :
    (countMatch w s).port p =
      if (s.watch w).reportTo.names p = true then (s.port p).withEvent (.watch w) .matched else s.port p := by
  simp [countMatch, State.raiseMatched_port]

theorem Watched.countMatch (h : Watched s t) (w : Fin 8) : Watched s (countMatch w t) := by
  refine h.trans ⟨by simp [Machine.countMatch], by simp [Machine.countMatch], by simp [Machine.countMatch, PoolKept],
    by simp [Machine.countMatch], by simp [Machine.countMatch], by simp [Machine.countMatch], by simp [Machine.countMatch],
    by simp [Machine.countMatch], fun p => ?_⟩
  rw [countMatch_port]
  split
  · exact .withEvent _ w _
  · exact .refl _

theorem Watched.setForce (h : Watched s t) (f : Fin 8) (k : ForceChannel) : Watched s (t.setForce f k) :=
  h.trans ⟨rfl, rfl, PoolKept.refl t, rfl, rfl, rfl, rfl, rfl, fun p => by rw [State.setForce_port]; exact .refl _⟩

theorem Watched.watchTransition (s : State) (c : Fin 96) (cond : Cond) : Watched s (watchTransition c cond s) := by
  unfold Machine.watchTransition
  simp only
  refine List.foldlRecOn _ _ ?_ fun t h f _ => h.setForce f _
  exact List.foldlRecOn _ _ (.refl s) fun t h w _ => h.countMatch w

theorem Watched.circuit (h : Watched s t) (d : Fin 96) : t.circuit d = s.circuit d := by
  simp only [State.circuit, h.circuits]

theorem Watched.group (h : Watched s t) (g : Fin 8) : t.group g = s.group g := by simp only [State.group, h.groups]

theorem Watched.unit (h : Watched s t) (u : Fin 16) : t.unit u = s.unit u := by simp only [State.unit, h.pool.1]

theorem Watched.filter (h : Watched s t) (d : Fin 96) : t.filter d = s.filter d := by simp only [State.filter, h.filters]

theorem Watched.slot (h : Watched s t) (id : SlotId) : t.slot id = s.slot id := by
  obtain ⟨_, _, e⟩ := (h.ports id.port).record
  simp only [State.slot, e]

theorem Watched.portState (h : Watched s t) : PortStateKept s t := by
  intro p
  obtain ⟨_, _, e⟩ := (h.ports p).record
  simp [e]

theorem Watched.quiet (h : Watched s t) (c : Fin 96) : NoCircuitEvent c s t :=
  .of_books fun p => ⟨(h.ports p).pend _ (by simp), (h.ports p).listed _ (by simp), (h.ports p).grows⟩

theorem Watched.reported {p : Port} {it : Item} {e : Event} (h : Watched s t) (other : ∀ w, it ≠ .watch w)
    (k : Reported p it e s) : Reported p it e t := by
  obtain ⟨has, on⟩ := k
  exact ⟨by rw [(h.ports p).pend it other]; exact has, ((h.ports p).listed it other).mpr on⟩

/-! ## The unit of a circuit by its state (R102, R109) -/

/-- A unit attached to a circuit is a sender or a register. -/
theorem PoolSound.unit_kind (h : PoolSound s) {u : Fin 16} (hu : (s.circuit c).unit = some u) :
    (s.unit u).state.isSender = true ∨ (s.unit u).state.isRegister = true := by
  have circuit := (h.linked u c).mpr hu
  cases k : (s.unit u).state with
  | free => rw [h.unattached u (.inl k)] at circuit; cases circuit
  | outOfService => rw [h.unattached u (.inr k)] at circuit; cases circuit
  | sender sub => exact .inl rfl
  | register sub => exact .inr rfl

/-- A circuit with a unit is in one of the states in which it is served. -/
theorem PoolSound.served (h : PoolSound s) {u : Fin 16} (hu : (s.circuit c).unit = some u) :
    (s.circuit c).state = .outSeizing ∨ (s.circuit c).state = .outSending ∨ (s.circuit c).state = .inReceiving := by
  have circuit := (h.linked u c).mpr hu
  rcases h.unit_kind hu with sender | register
  · rcases h.senders u c sender circuit with state | state
    · exact .inl state
    · exact .inr (.inl state)
  · exact .inr (.inr (h.registers u c register circuit))

theorem PoolSound.no_unit (h : PoolSound s) (seizing : (s.circuit c).state ≠ .outSeizing)
    (sending : (s.circuit c).state ≠ .outSending) (receiving : (s.circuit c).state ≠ .inReceiving) :
    (s.circuit c).unit = none := by
  cases hu : (s.circuit c).unit with
  | none => rfl
  | some u =>
    rcases h.served hu with state | state | state
    · exact absurd state seizing
    · exact absurd state sending
    · exact absurd state receiving

/-- The unit of a circuit that is not in IN_RECEIVING is no register. -/
theorem PoolSound.no_register (h : PoolSound s) (receiving : (s.circuit c).state ≠ .inReceiving) {u : Fin 16}
    (hu : (s.circuit c).unit = some u) (sub : RegisterSub) : (s.unit u).state ≠ .register sub := fun state =>
  receiving (h.registers u c (by rw [state]; rfl) ((h.linked u c).mpr hu))

end Reports

end Sys2Proof.Machine

/-! PROOFS. Nothing but a match raises an event on a watch channel (R154, R178): a walk over what a recognized transition does
before the watch channels take it. -/

namespace Sys2Proof.Machine

section Unwatched

variable {s t v : State} {c : Fin 96} {u : Fin 16}

/-- What is pending on the watch channels, and their places on the lists, are as before. -/
def Unwatched (s t : State) : Prop :=
  ∀ (p : Port) (w : Fin 8), (t.port p).pend[(Item.watch w).index] = (s.port p).pend[(Item.watch w).index] ∧
    (Item.watch w ∈ (t.port p).attention ↔ Item.watch w ∈ (s.port p).attention)

theorem Unwatched.refl (s : State) : Unwatched s s := fun _ _ => ⟨rfl, .rfl⟩

theorem Unwatched.trans (h : Unwatched s t) (k : Unwatched t v) : Unwatched s v := fun p w =>
  ⟨(k p w).1.trans (h p w).1, (k p w).2.trans (h p w).2⟩

theorem Unwatched.of_same (same : SameBooks s t) : Unwatched s t := fun p w => by
  obtain ⟨pend, attention, -⟩ := same.port p
  rw [pend, attention]
  exact ⟨rfl, .rfl⟩

theorem Unwatched.same (h : Unwatched s t) (same : SameBooks t v) : Unwatched s v := h.trans (.of_same same)

/-! ## Events -/

theorem Unwatched.withEvent {it : Item} {e : Event} (h : Unwatched s t) (other : ∀ w, Item.watch w ≠ it)
    (ports : ∀ p, v.port p = t.port p ∨ v.port p = (t.port p).withEvent it e) : Unwatched s v := by
  refine h.trans fun p w => ?_
  rcases ports p with same | raised
  · rw [same]; exact ⟨rfl, .rfl⟩
  · rw [raised]; exact (t.port p).withEvent_other (other w) e

theorem Unwatched.raiseCircuit (h : Unwatched s t) (c : Fin 96) (e : Event) : Unwatched s (t.raiseCircuit c e) := by
  refine h.withEvent (it := .circuit c) (e := e) (by simp) fun p => ?_
  rw [State.raiseCircuit_port]
  split <;> simp

theorem Unwatched.raiseSlot (h : Unwatched s t) (id : SlotId) (e : Event) : Unwatched s (t.raiseSlot id e) := by
  refine h.withEvent (it := .slot id.num) (e := e) (by simp) fun p => ?_
  rw [State.raiseSlot_port]
  split <;> simp

theorem Unwatched.raiseGroup (h : Unwatched s t) (g : Fin 8) (e : Event) : Unwatched s (t.raiseGroup g e) :=
  h.withEvent (it := .group g) (e := e) (by simp) fun p => .inr (State.raiseGroup_port t g p e)

/-- Writing the pending set of another item touches no watch channel. -/
theorem PortRecord.setPend_watch (r : PortRecord) {it : Item} (k : EventSet) (w : Fin 8) (other : Item.watch w ≠ it) :
    (r.setPend it k).pend[(Item.watch w).index] = r.pend[(Item.watch w).index] := by
  have set := r.setPend_pendOf it (.watch w) k
  rwa [if_neg other] at set

theorem Unwatched.raiseWith (h : Unwatched s t) (p : Port) (c : Fin 96) (f : EventSet → EventSet) :
    Unwatched s (t.raiseWith p (.circuit c) f) := by
  refine h.trans fun q w => ?_
  rw [State.raiseWith_port]
  split
  · next same =>
    subst same
    exact ⟨PortRecord.setPend_watch _ _ w (by simp), by rw [PortRecord.mem_join]; simp [PortRecord.setPend]⟩
  · exact ⟨rfl, .rfl⟩

theorem Unwatched.raiseAnswered (h : Unwatched s t) (c : Fin 96) (n : Nat) : Unwatched s (t.raiseAnswered c n) := by
  unfold State.raiseAnswered
  split
  · exact h.raiseWith _ c _
  · exact (h.raiseWith _ c _).raiseWith _ c _

theorem Unwatched.forgetSeized (h : Unwatched s t) (id : SlotId) : Unwatched s (forgetSeized id t) := by
  refine h.trans fun p w => ?_
  rw [forgetSeized_eq, State.modPort_port]
  split
  · next same => subst same; exact ⟨PortRecord.setPend_watch _ _ w (by simp), .rfl⟩
  · exact ⟨rfl, .rfl⟩

/-! ## The references (R123 to R129) -/

theorem Unwatched.modGroup (h : Unwatched s t) (g : Fin 8) (f : Group → Group) : Unwatched s (t.modGroup g f) :=
  h.trans fun p w => by rw [State.modGroup_port]; exact ⟨rfl, .rfl⟩

theorem Unwatched.setThresholds (h : Unwatched s t) (g : Fin 8) (r : Reference) : Unwatched s (t.setThresholds g r) := by
  unfold State.setThresholds
  simp only
  split
  · exact h.modGroup g _
  · exact (h.modGroup g _).raiseGroup g _

theorem Unwatched.countDigit (h : Unwatched s t) (g : Fin 8) : Unwatched s (countDigit g t) := by
  unfold Machine.countDigit
  simp only
  split
  · exact (h.modGroup g _).setThresholds g _
  · exact h.modGroup g _

theorem Unwatched.takePeriod (h : Unwatched s t) (g : Fin 8) (p : Nat) : Unwatched s (takePeriod g p t) := by
  unfold Machine.takePeriod
  simp only
  split
  · split
    · exact h.modGroup g _
    · split
      · exact (h.modGroup g _).raiseGroup g _
      · exact h.modGroup g _
  · split
    · split
      · split
        · exact ((h.modGroup g _).raiseGroup g _).setThresholds g _
        · exact (h.modGroup g _).raiseGroup g _
      · exact h.modGroup g _
    · exact h.modGroup g _

/-! ## Calls that end, go on and begin (R24 to R99) -/

theorem Unwatched.becomesIdle (h : Unwatched s t) (c : Fin 96) : Unwatched s (becomesIdle c t) := by
  have same := SameBooks.refl t
  obtain ⟨-, e⟩ | ⟨g, -, ⟨-, e⟩ | ⟨-, ⟨id, rest, call, digits, eon, expiry, -, -, e⟩ | e⟩⟩ := becomesIdle_cases t c
  · rw [e]; exact h
  · rw [e]; exact h.same ((same.modCircuit c _).enterBlocked c)
  · have taken := ((same.modGroup g (f := fun k => { k with queue := k.queue.tail }) fun _ => ⟨rfl, rfl⟩).setSlot id
      (.seizing call c)).enterOutSeizing c id digits eon
    rw [e]; exact (h.same taken).raiseSlot id _
  · rw [e]; exact h.same (same.enterIdle c g)

theorem Unwatched.offerCall (h : Unwatched s t) (c : Fin 96) : Unwatched s (offerCall c t) := by
  cases group : (t.circuit c).group with
  | none => simpa only [Machine.offerCall, group] using h
  | some g =>
    obtain ⟨t1, -, -, -, -, -, ports, e⟩ := offerCall_cases t c g group
    have offered : Unwatched s t1 := h.withEvent (it := .circuit c) (e := .offered) (by simp) fun p => by
      rw [ports p]; split <;> simp
    rw [e]
    split
    · exact offered.same ((SameBooks.refl t1).requestUnit c .register)
    · exact offered

theorem Unwatched.autoClear (h : Unwatched s t) (c : Fin 96) (cause : Cause) (e : Event) :
    Unwatched s (autoClear c cause e t) :=
  ((h.same ((SameBooks.refl t).modCircuit c _)).raiseCircuit c e).same ((SameBooks.refl _).clearForward c)

theorem Unwatched.recognizeAnswer (h : Unwatched s t) (c : Fin 96) : Unwatched s (recognizeAnswer c t) :=
  (h.same (((SameBooks.refl t).letGo c).modCircuit c _)).raiseAnswered c _

theorem Unwatched.entryTest (h : Unwatched s t) (c : Fin 96) : Unwatched s (entryTest c t) := by
  have same := SameBooks.refl t
  unfold Machine.entryTest
  simp only
  split
  · split
    · next u _ =>
      split
      · exact h.same ((same.modCircuit c _).resume u c)
      · split
        · exact h.same ((same.modCircuit c _).decideStart u c)
        · exact h.same (same.modCircuit c _)
      all_goals exact h.same (same.modCircuit c _)
    · split
      · exact h.same ((same.modCircuit c _).requestUnit c .sender)
      · exact h.same (same.modCircuit c _)
  · split
    · exact (h.same (((same.detachFrom c).withdraw c).modCircuit c _)).raiseCircuit c _
    · exact h.same (same.startTimer c _)

theorem Unwatched.proceed (h : Unwatched s t) (c : Fin 96) : Unwatched s (proceed c t) := by
  have raised := (h.same ((SameBooks.refl t).modCircuit c fun k => { k with timer := none })).raiseCircuit c .proceed
  have tested := (raised.same (((SameBooks.refl _).breakLink c).modCircuit c fun k =>
    { k with state := .outSending })).entryTest c
  unfold Machine.proceed
  simp only
  split
  · exact tested.recognizeAnswer c
  · exact tested

theorem Unwatched.failGlare (h : Unwatched s t) (id : SlotId) (call : SlotCall) : Unwatched s (failGlare id call t) :=
  (h.same ((SameBooks.refl t).setSlot id _)).raiseSlot id _

theorem Unwatched.rehunt (h : Unwatched s t) (id : SlotId) (call : SlotCall) (digits : List (Fin 10)) (eon : Bool) :
    Unwatched s (rehunt id call digits eon t) := by
  have same := SameBooks.refl t
  unfold Machine.rehunt
  split
  · next d _ => exact (h.same (((same.leaveIdleList d).setSlot id _).enterOutSeizing d id digits eon)).raiseSlot id _
  · split
    · exact (h.same ((same.setSlot id _).modGroup call.group
        (f := fun k => { k with queue := id :: k.queue }) fun _ => ⟨rfl, rfl⟩)).raiseSlot id _
    · exact h.failGlare id call

theorem Unwatched.displaceCall (h : Unwatched s t) (c : Fin 96) : Unwatched s (displaceCall c t) := by
  have cleared := h.same ((SameBooks.refl t).modCircuit c fun k => { k with digits := [], eon := false, slot := none })
  unfold Machine.displaceCall
  simp only
  split
  · exact cleared
  · next id _ =>
    split
    · split
      · exact (cleared.forgetSeized id).rehunt id _ _ _
      · exact (cleared.forgetSeized id).failGlare id _
    all_goals exact cleared

theorem Unwatched.reachAckMax (h : Unwatched s t) (c : Fin 96) : Unwatched s (reachAckMax c t) := by
  have failed (cause : Cause) := h.autoClear c cause .seizeFailed
  unfold Machine.reachAckMax
  split
  · exact failed _
  split
  · split
    · split
      · exact (h.same ((SameBooks.refl t).modCircuit c _)).raiseCircuit c _
      · have off := h.same
          (((SameBooks.refl t).modCircuit c fun k => { k with timer := none }).drive c .off |>.letGo c)
        exact (((off.raiseCircuit c .glareLost).displaceCall c).same ((SameBooks.refl _).modCircuit c _)).offerCall c
    all_goals exact failed _
  · exact failed _

theorem Unwatched.recognizeClearForward (h : Unwatched s t) (c : Fin 96) : Unwatched s (recognizeClearForward c t) := by
  have cut := (((SameBooks.refl t).letGo c).modCircuit c fun k => { k with timer := none, ansDue := none }).cutAckPulse c
  exact ((h.same cut).raiseCircuit c .clearedForward).same (((SameBooks.refl _).modCircuit c _).beginGuard c _)

/-! ## Registers (R119 to R122) -/

theorem Unwatched.completeDigit (h : Unwatched s t) (u : Fin 16) : Unwatched s (completeDigit u t) := by
  have waits := h.same ((SameBooks.refl t).modUnit u DigitUnit.awaitDigit)
  have received (c : Fin 96) (d : Fin 10) : Unwatched s (receiveDigit c d (t.modUnit u DigitUnit.awaitDigit)) := by
    unfold Machine.receiveDigit
    split
    · exact (waits.same (((SameBooks.refl _).modCircuit c _).startTimer c _)).raiseCircuit c _
    · exact (waits.raiseCircuit c .digitOverflow).same (((SameBooks.refl _).modCircuit c _).detachFrom c)
  unfold Machine.completeDigit
  split
  · next c _ =>
    simp only
    split
    · split
      · exact (received c _).countDigit _
      · exact received c _
    · exact waits.raiseCircuit c _
  · exact h

theorem Unwatched.registerTransition (h : Unwatched s t) (c : Fin 96) (cond : Cond) :
    Unwatched s (registerTransition c cond t) := by
  have handed {v : State} (k : Unwatched s v) (start : Option Time) : Unwatched s (handPeriod c start v) := by
    unfold handPeriod
    split
    · simp only
      split
      · exact k.takePeriod _ _
      · exact k
    all_goals exact k
  unfold Machine.registerTransition
  split
  · split
    · unfold registerOn
      simp only
      split
      · split
        · exact (h.same ((SameBooks.refl t).modUnit _ _)).raiseCircuit c _
        · exact h.same ((SameBooks.refl t).modUnit _ _)
      all_goals exact h
    · unfold registerOff
      simp only
      split
      · exact h.same ((SameBooks.refl t).modUnit _ _)
      · exact handed (h.same ((SameBooks.refl t).modUnit _ _)) _
      all_goals exact h
  · exact h

/-! ## The users of a transition (R5, R6) -/

theorem Unwatched.supervisionOn (h : Unwatched s t) (c : Fin 96) : Unwatched s (supervisionOn c t) := by
  have same := SameBooks.refl t
  unfold Machine.supervisionOn
  simp only
  split
  · split
    · exact h.same (same.enterPreseize c)
    · exact h
  all_goals exact h.same same

theorem Unwatched.supervisionOff (h : Unwatched s t) (c : Fin 96) (width : Nat) (held : Held) :
    Unwatched s (supervisionOff c width held t) := by
  have same := SameBooks.refl t
  have off := h.same (same.modCircuit c fun r => { r with presentOn := false })
  unfold Machine.supervisionOff
  simp only
  split
  · exact (h.same (same.modCircuit c _)).becomesIdle c
  · exact h.same (same.modCircuit c _)
  · split
    · exact (h.same ((same.withdraw c).modCircuit c _)).raiseCircuit c _
    · exact h
  · unfold seizingOff
    simp only
    split
    · split
      all_goals exact off.same (SameBooks.refl _)
    · split
      · exact off.proceed c
      · exact off
  · split
    · exact ((off.raiseCircuit c .released).same ((SameBooks.refl _).modCircuit c _)).becomesIdle c
    · exact off
  · split
    · exact (off.raiseCircuit c .lateGuard).becomesIdle c
    · exact off
  all_goals exact h

theorem Unwatched.reachedFirst (h : Unwatched s t) (c : Fin 96) : Unwatched s (reachedFirst c t) := by
  have same := SameBooks.refl t
  unfold Machine.reachedFirst
  extract_lets t'
  have supervised : Unwatched s t' := by
    unfold t'
    split
    · exact h.offerCall c
    split
    · exact (h.same (same.modCircuit c _)).raiseCircuit c _
    split
    · exact h.reachAckMax c
    split
    · exact h.recognizeAnswer c
    split
    · exact (h.same (same.modCircuit c _)).raiseCircuit c _
    split
    · exact (h.same (same.modCircuit c _)).raiseCircuit c _
    split
    · exact h.recognizeClearForward c
    · exact h
  split
  · split
    · exact supervised.completeDigit _
    · split
      · exact supervised.same ((SameBooks.refl _).modUnit _ _)
      · exact supervised
  · exact supervised

end Unwatched

end Sys2Proof.Machine

/-! PROOFS. Raw lead changes and recognized transitions (R4 to R6, R167, R178; log entries 6 and 23): what the users of a
transition take it in, and what the watch channels do with it. -/

namespace Sys2Proof.Machine

section Transition

variable {s t : State} {c : Fin 96}

/-! ## What a transition reaches first (R6) -/

/-- The supervision machine's recognitions that the interval now ending may have reached. -/
def supervisionDue (c : Fin 96) (s : State) : Bool :=
  seizureDue c s || farSeizeDue c s || ackMaxDue c s || answerRecognizedDue c s || clearBackDue c s || reanswerDue c s ||
    clearForwardDue c s

/-- What the ending interval of a register has reached. -/
def registerFirst (c : Fin 96) (s : State) : State :=
  match (s.circuit c).unit with
  | some u => if digitCompleteDue u s then completeDigit u s else if longBreakDue u s then markLong u s else s
  | none => s

/-- The supervision machine takes the recognition that the interval now ending has reached. -/
def supervisionFirst (c : Fin 96) (s : State) : State :=
  if seizureDue c s then offerCall c s
  else if farSeizeDue c s then reportFarSeize c s
  else if ackMaxDue c s then reachAckMax c s
  else if answerRecognizedDue c s then recognizeAnswer c s
  else if clearBackDue c s then recognizeClearBack c s
  else if reanswerDue c s then recognizeReanswer c s
  else if clearForwardDue c s then recognizeClearForward c s
  else s

theorem reachedFirst_eq (c : Fin 96) (s : State) : reachedFirst c s = registerFirst c (supervisionFirst c s) := rfl

theorem reachedFirst_of_none (h : supervisionDue c s = false) : reachedFirst c s = registerFirst c s := by
  simp only [supervisionDue, Bool.or_eq_false_iff] at h
  obtain ⟨⟨⟨⟨⟨⟨seizure, farSeize⟩, ackMax⟩, answer⟩, clearBack⟩, reanswer⟩, clear⟩ := h
  rw [reachedFirst_eq, supervisionFirst]
  simp only [seizure, farSeize, ackMax, answer, clearBack, reanswer, clear, Bool.false_eq_true, if_false]

theorem registerFirst_of_no_register
    (h : ∀ u, (s.circuit c).unit = some u → ∀ sub, (s.unit u).state ≠ .register sub) : registerFirst c s = s := by
  unfold registerFirst
  cases hu : (s.circuit c).unit with
  | none => rfl
  | some u => simp [digitCompleteDue, longBreakDue, h u hu]

theorem registerTransition_of_no_register (cond : Cond)
    (h : ∀ u, (s.circuit c).unit = some u → ∀ sub, (s.unit u).state ≠ .register sub) :
    registerTransition c cond s = s := by
  unfold registerTransition
  cases hu : (s.circuit c).unit with
  | none => rfl
  | some u =>
    cases state : (s.unit u).state with
    | register sub => exact absurd state (h u hu sub)
    | free | outOfService | sender => cases cond <;> simp [registerOn, registerOff, state]

/-! ## The state in which a transition is taken (R5) -/

/-- The state in which the users of a transition take it: the channel has the new condition and the stamp, and the circuit the
thresholds that the new interval is timed against. -/
def stamped (c : Fin 96) (s : State) : State :=
  (s.setFilter c { recCond := oppositeCond (s.filter c).recCond, recTime := s.timeBase, cand := none }).modCircuit c
    fun k => { k with held := s.thresholds c }

/-- The supervision machine takes a transition. -/
def supervise (c : Fin 96) (cond : Cond) (width : Nat) (held : Held) (s : State) : State :=
  match cond with
  | .on => supervisionOn c s
  | .off => supervisionOff c width held s

/-- The state that the watch channels find. -/
def delivered (c : Fin 96) (s : State) : State :=
  let cond := oppositeCond (s.filter c).recCond
  registerTransition c cond (supervise c cond (s.recFor c) (s.heldOf c) (stamped c s))

theorem acceptCandidate_eq (c : Fin 96) (s : State) :
    acceptCandidate c s =
      watchTransition c (oppositeCond ((reachedFirst c s).filter c).recCond) (delivered c (reachedFirst c s)) := by
  unfold acceptCandidate
  generalize reachedFirst c s = r
  unfold delivered supervise stamped
  dsimp only
  cases oppositeCond (r.filter c).recCond <;> rfl

/-- A transition that is due, from the state that the recognitions first reached leave, up to the watch channels. -/
theorem exec_delivered (awake : s.resetAsserted = false) (due : TransitionDue c s) :
    ∃ t, exec (.recognizedTransition c.val) s = .next t ∧ Watched (delivered c (reachedFirst c s)) t :=
  ⟨_, exec_recognizedTransition awake due, acceptCandidate_eq c s ▸ Watched.watchTransition _ c _⟩

@[simp] theorem stamped_circuit_self (c : Fin 96) (s : State) :
    (stamped c s).circuit c = { s.circuit c with held := s.thresholds c } := State.modCircuit_circuit_self _ c _

theorem stamped_circuit_ne {d : Fin 96} (h : d ≠ c) : (stamped c s).circuit d = s.circuit d :=
  State.modCircuit_circuit_ne _ c _ h

theorem stamped_filter (c : Fin 96) (s : State) :
    (stamped c s).filter c = { recCond := oppositeCond (s.filter c).recCond, recTime := s.timeBase, cand := none } :=
  State.setFilter_filter_self s c _

@[simp] theorem stamped_timeBase (c : Fin 96) (s : State) : (stamped c s).timeBase = s.timeBase := rfl
@[simp] theorem stamped_groups (c : Fin 96) (s : State) : (stamped c s).groups = s.groups := rfl
@[simp] theorem stamped_group (c : Fin 96) (s : State) (g : Fin 8) : (stamped c s).group g = s.group g := rfl
@[simp] theorem stamped_unit (c : Fin 96) (s : State) (u : Fin 16) : (stamped c s).unit u = s.unit u := rfl
theorem stamped_pool (c : Fin 96) (s : State) : PoolKept s (stamped c s) := ⟨rfl, rfl, rfl, rfl⟩
theorem stamped_ports (c : Fin 96) (s : State) : PortsKept s (stamped c s) := ⟨rfl, rfl⟩
@[simp] theorem stamped_port (c : Fin 96) (s : State) (p : Port) : (stamped c s).port p = s.port p :=
  (stamped_ports c s).port p
@[simp] theorem stamped_slot (c : Fin 96) (s : State) (id : SlotId) : (stamped c s).slot id = s.slot id :=
  (stamped_ports c s).slot id

@[simp] theorem stamped_par (c : Fin 96) (s : State) (p : Param) : (stamped c s).par c p = s.par c p :=
  State.par_congr (s := s) (t := stamped c s) (by simp) (fun _ => rfl) p

@[simp] theorem stamped_startMode (c : Fin 96) (s : State) : (stamped c s).startMode c = s.startMode c := by
  simp [State.startMode]

@[simp] theorem stamped_direction (c : Fin 96) (s : State) : (stamped c s).direction c = s.direction c := by
  simp [State.direction]

theorem stamped_circuitsKept (c : Fin 96) (s : State) : CircuitsKept [c] s (stamped c s) := fun _ hd =>
  stamped_circuit_ne (by simpa using hd)

theorem stamped_quiet (c d : Fin 96) (s : State) : NoCircuitEvent d s (stamped c s) := .of_ports (stamped_ports c s)

theorem delivered_on (h : (s.filter c).recCond = .off) :
    delivered c s = registerTransition c .on (supervisionOn c (stamped c s)) := by
  simp only [delivered, h, oppositeCond, supervise]

theorem delivered_off (h : (s.filter c).recCond = .on) :
    delivered c s = registerTransition c .off (supervisionOff c (s.recFor c) (s.heldOf c) (stamped c s)) := by
  simp only [delivered, h, oppositeCond, supervise]

/-! ## Raw lead changes (R4) -/

theorem beginCandidate_eq (c : Fin 96) (s : State) :
    beginCandidate c s = s.setFilter c
      { s.filter c with
        cand := some { start := s.timeBase, persistence :=
          match (s.circuit c).group with
          | some g => (s.group g).par .filt
          | none => 8 } } := by
  unfold beginCandidate State.par
  cases (s.circuit c).group <;> rfl

theorem oppositeCond_ne (cond : Cond) : oppositeCond cond ≠ cond := by cases cond <;> decide

theorem FilterChannel.raw_of_candidate {k : FilterChannel} {x : Candidate} (h : k.cand = some x) :
    k.raw ≠ k.recCond := by simpa [FilterChannel.raw, h] using oppositeCond_ne k.recCond

/-- Settles O6, by the candidate, if any, and whether it has reached its persistence. -/
theorem rawLeadChangesAreCandidates : Obligations.RawLeadChangesAreCandidates := by
  unfold Obligations.RawLeadChangesAreCandidates
  intro c s awake start
  have runs {cond : Cond} (h : (s.filter c).raw ≠ cond) : exec (.rawLeadChange c.val cond) s = .next (changeRaw c s) :=
    onCircuit_due awake (by simpa using h)
  refine ⟨fun cond none_ away => ?_, fun k candidate early => ?_, fun due u taken => ?_⟩
  · rw [runs (by simpa [FilterChannel.raw, none_] using away.symm)]
    simp only [changeRaw, none_, beginCandidate_eq]
    rfl
  · rw [runs (FilterChannel.raw_of_candidate candidate)]
    have notDue : candidateDue c s = false := by simp [candidateDue, candidate, Nat.not_le.mpr early]
    simp only [changeRaw, candidate, notDue, Bool.false_eq_true, if_false]
  · obtain ⟨k, candidate, -⟩ := id due
    rw [exec_recognizedTransition awake due] at taken
    rw [runs (FilterChannel.raw_of_candidate candidate), ← Host.Outcome.next.inj taken]
    simp only [changeRaw, candidate, candidateDue_iff.mpr due, if_true, beginCandidate_eq]
    rfl

/-! ## The watch channels (R178) -/

/-- What a port has pending on a watch channel after each of a list of channels has reported. -/
theorem foldl_countMatch_watch (l : List (Fin 8)) (w : Fin 8) (once : l.Nodup) (s : State) :
    (l.foldl (fun s w => countMatch w s) s).watch w =
        (if w ∈ l then { s.watch w with matchCount := min 65535 ((s.watch w).matchCount + 1) } else s.watch w) ∧
      ∀ p, let r := (l.foldl (fun s w => countMatch w s) s).port p
        if w ∈ l ∧ (s.watch w).reportTo.names p = true then
          r.pend[(Item.watch w).index] = ((s.port p).pend[(Item.watch w).index]).add .matched ∧ Item.watch w ∈ r.attention
        else r.pend[(Item.watch w).index] = (s.port p).pend[(Item.watch w).index] ∧
          (Item.watch w ∈ r.attention ↔ Item.watch w ∈ (s.port p).attention) := by
  induction l generalizing s with
  | nil => simp
  | cons x l ih =>
    obtain ⟨fresh, once⟩ := List.nodup_cons.mp once
    obtain ⟨count, reports⟩ := ih once (countMatch x s)
    rw [List.foldl_cons]
    by_cases hx : w = x
    · subst hx
      simp only [fresh, if_false, false_and] at count reports
      refine ⟨by rw [count, countMatch_watch]; simp, fun p => ?_⟩
      obtain ⟨pend, listed⟩ := reports p
      rw [countMatch_port] at pend listed
      by_cases named : (s.watch w).reportTo.names p = true
      · simp only [named, List.mem_cons_self, and_self, if_true] at pend listed ⊢
        exact ⟨by rw [pend]; simp [PortRecord.withEvent], by rw [listed]; simp [PortRecord.mem_withEvent]⟩
      · simp only [named, if_false, and_false, Bool.false_eq_true] at pend listed ⊢
        exact ⟨pend, listed⟩
    · have same : (countMatch x s).watch w = s.watch w := by rw [countMatch_watch, if_neg hx]
      rw [same] at count reports
      refine ⟨by simpa [hx] using count, fun p => ?_⟩
      have books : ((countMatch x s).port p).pend[(Item.watch w).index] = (s.port p).pend[(Item.watch w).index] ∧
          (Item.watch w ∈ ((countMatch x s).port p).attention ↔ Item.watch w ∈ (s.port p).attention) := by
        rw [countMatch_port]
        split
        · exact (s.port p).withEvent_other (by simpa using hx) _
        · exact ⟨rfl, .rfl⟩
      have reported := reports p
      rw [books.1, books.2] at reported
      simpa [hx] using reported

/-- Writing the force channels changes neither the watch channels nor the ports. -/
theorem foldl_takeActions_kept (l fs : List (Fin 8)) (s : State) (w : Fin 8) (p : Port) :
    (fs.foldl (takeActions l) s).watch w = s.watch w ∧ (fs.foldl (takeActions l) s).port p = s.port p :=
  List.foldlRecOn (motive := fun t => t.watch w = s.watch w ∧ t.port p = s.port p) fs (takeActions l) ⟨rfl, rfl⟩
    fun t h f _ => ⟨(State.setForce_watch t f _ w).trans h.1, (State.setForce_port t f _ p).trans h.2⟩

/-- What the watch channels do with a transition: those that match count it and report it. -/
theorem watchTransition_watch (c : Fin 96) (cond : Cond) (s : State) (w : Fin 8) :
    (watchTransition c cond s).watch w =
        (if w ∈ s.matched c cond then { s.watch w with matchCount := min 65535 ((s.watch w).matchCount + 1) }
        else s.watch w) ∧
      ∀ p, let r := (watchTransition c cond s).port p
        if w ∈ s.matched c cond ∧ (s.watch w).reportTo.names p = true then
          r.pend[(Item.watch w).index] = ((s.port p).pend[(Item.watch w).index]).add .matched ∧ Item.watch w ∈ r.attention
        else r.pend[(Item.watch w).index] = (s.port p).pend[(Item.watch w).index] ∧
          (Item.watch w ∈ r.attention ↔ Item.watch w ∈ (s.port p).attention) := by
  obtain ⟨count, reports⟩ := foldl_countMatch_watch (s.matched c cond) w ((List.nodup_finRange 8).filter _) s
  have kept (p : Port) := foldl_takeActions_kept (s.matched c cond) allEight
    ((s.matched c cond).foldl (fun s w => countMatch w s) s) w p
  refine ⟨(kept .A).1.trans count, fun p => ?_⟩
  have port : (watchTransition c cond s).port p = _ := (kept p).2
  rw [port]
  exact reports p

/-- A transition delivered raises nothing on the watch channels. -/
theorem Unwatched.delivered (h : Unwatched s t) (c : Fin 96) : Unwatched s (delivered c t) := by
  have taken : Unwatched s (stamped c t) := h.same ⟨fun _ => ⟨rfl, rfl⟩, .refl _, .refl _⟩
  unfold Machine.delivered supervise
  refine Unwatched.registerTransition ?_ c _
  split
  · exact taken.supervisionOn c
  · exact taken.supervisionOff c _ _

theorem LinesKept.delivered (c : Fin 96) (s : State) :
    LinesKept (s.setFilter c { recCond := oppositeCond (s.filter c).recCond, recTime := s.timeBase, cand := none })
      (delivered c s) := by
  unfold Machine.delivered supervise
  refine LinesKept.registerTransition ?_ c _
  split
  · exact ((LinesKept.refl _).modCircuit c _).supervisionOn c
  · exact ((LinesKept.refl _).modCircuit c _).supervisionOff c _ _

/-- Settles O7: the lines are kept up to the watch channels, which find no event raised on them and count the transition. -/
theorem recognizedTransitionIsStampedAndWatched : Obligations.RecognizedTransitionIsStampedAndWatched := by
  unfold Obligations.RecognizedTransitionIsStampedAndWatched
  intro c s awake due
  have first := (LinesKept.refl s).reachedFirst c
  have quiet := ((Unwatched.refl s).reachedFirst c).delivered c
  obtain ⟨reset, time, filters, watches, forces, pending, choices⟩ := first
  have lead : (reachedFirst c s).filter c = s.filter c := by simp only [State.filter, filters]
  obtain ⟨reset', time', filters', watches', forces', pending', choices'⟩ := LinesKept.delivered c (reachedFirst c s)
  have watch (w : Fin 8) : (delivered c (reachedFirst c s)).watch w = s.watch w := by
    simp only [State.watch, watches', State.setFilter_watches, watches]
  have accepted := acceptCandidate_eq c s
  rw [lead] at accepted
  have kept : Watched (delivered c (reachedFirst c s)) (acceptCandidate c s) := accepted ▸ Watched.watchTransition _ c _
  have filter (d : Fin 96) : (acceptCandidate c s).filter d = ((reachedFirst c s).setFilter c
      { recCond := oppositeCond (s.filter c).recCond, recTime := (reachedFirst c s).timeBase, cand := none }).filter d := by
    rw [kept.filter, ← lead]
    simp only [State.filter, filters']
  refine ⟨_, exec_recognizedTransition awake due, ?_, fun d hd => ?_, ?_, ?_, ?_, ?_, fun w => ?_⟩
  · rw [filter, State.setFilter_filter_self, time]
  · rw [filter, State.setFilter_filter_ne _ _ _ hd]
    simp only [State.filter, filters]
  · rw [kept.timeBase, time']; exact time
  · rw [kept.resetAsserted, reset']; exact reset.trans awake
  · rw [kept.pending, pending']; exact pending
  · rw [kept.choices, choices']; exact choices
  · obtain ⟨count, reports⟩ := watchTransition_watch c (oppositeCond (s.filter c).recCond)
      (delivered c (reachedFirst c s)) w
    rw [← accepted, watch] at count
    have member := State.mem_matched (c := c) (cond := oppositeCond (s.filter c).recCond) (delivered c (reachedFirst c s)) w
    rw [watch] at member
    simp only [← accepted, watch] at reports
    refine ⟨fun matched => by rw [count, if_pos (member.mpr matched)],
      fun unmatched => by rw [count, if_neg fun h => unmatched (member.mp h)], fun p => ?_⟩
    obtain ⟨pend, listed⟩ := quiet p w
    have reported := reports p
    rw [pend, listed] at reported
    refine ⟨fun matched named => ?_, fun neither => ?_⟩
    · rwa [if_pos ⟨member.mpr matched, named⟩] at reported
    · rwa [if_neg fun both => neither.elim (fun h => h (member.mp both.1)) fun h => by simp [h] at both] at reported

/-! ## A blocked circuit (R167) -/

/-- In BLOCKED nothing but a far seizure is reached first. -/
theorem reachedFirst_of_blocked (sound : PoolSound s) (blocked : (s.circuit c).state = .blocked) :
    reachedFirst c s = if s.timerDue c then reportFarSeize c s else s := by
  have unitless : (s.circuit c).unit = none := sound.no_unit (by simp [blocked]) (by simp [blocked]) (by simp [blocked])
  have first : supervisionFirst c s = if s.timerDue c then reportFarSeize c s else s := by
    simp [supervisionFirst, seizureDue, farSeizeDue, ackMaxDue, answerRecognizedDue, clearBackDue, reanswerDue,
      clearForwardDue, blocked, CircuitState.clearable]
  rw [reachedFirst_eq, first]
  refine registerFirst_of_no_register fun u hu => ?_
  split at hu <;> simp [reportFarSeize, unitless] at hu

/-- A BLOCKED circuit takes a transition by its timer alone. -/
theorem delivered_of_blocked (unitless : (s.circuit c).unit = none) (blocked : (s.circuit c).state = .blocked) :
    delivered c s = (stamped c s).modCircuit c fun k =>
      { k with timer := if (s.filter c).recCond = .off then some { start := s.timeBase, value := s.par c .szRec } else none } := by
  have loose (t : State) (h : (t.circuit c).unit = none) (cond : Cond) : registerTransition c cond t = t :=
    registerTransition_of_no_register cond fun u hu => by rw [h] at hu; cases hu
  cases cond : (s.filter c).recCond with
  | off =>
    have on : supervisionOn c (stamped c s) = (stamped c s).startTimer c (s.par c .szRec) := by
      simp [supervisionOn, blocked]
    rw [delivered_on cond, on, loose _ (by simp [State.startTimer_circuit, unitless])]
    rfl
  | on =>
    have off (width : Nat) (held : Held) : supervisionOff c width held (stamped c s) =
        (stamped c s).modCircuit c fun r => { r with timer := none } := by
      simp [supervisionOff, blocked]
    rw [delivered_off cond, off, loose _ (by simp [unitless])]
    rfl

theorem CircuitEventBy.portState {owner : Option Port} {e : Event} (h : CircuitEventBy owner c e s t) : PortStateKept s t := by
  intro p
  rw [h p]
  split <;> simp [PortRecord.withEvent]

theorem PortStateKept.raiseCircuit (s : State) (c : Fin 96) (e : Event) : PortStateKept s (s.raiseCircuit c e) :=
  CircuitEventBy.portState fun p => State.raiseCircuit_port s c p e

/-- A BLOCKED circuit after a transition, from a state that differs in its timer and in an event. -/
theorem transition_of_blocked {r : State} {x : Option Timer} (watched : Watched (delivered c r) t) (first : OnlyCircuit c s r)
    (ports : PortStateKept s r) (record : r.circuit c = { s.circuit c with timer := x })
    (unitless : (s.circuit c).unit = none) (blocked : (s.circuit c).state = .blocked) :
    t.circuit c =
        { s.circuit c with
          held := s.thresholds c
          timer := if (s.filter c).recCond = .off then some { start := s.timeBase, value := s.par c .szRec } else none } ∧
      CircuitsKept [c] s t ∧ t.groups = s.groups ∧ PoolKept s t ∧ PortStateKept s t ∧ NoCircuitEvent c r t := by
  obtain ⟨circuits, groups, pool, -, time, filters, -⟩ := first
  have group (g : Fin 8) : r.group g = s.group g := by simp only [State.group, groups]
  have lead : r.filter c = s.filter c := by simp only [State.filter, filters]
  have par : r.par c .szRec = s.par c .szRec := State.par_congr (by rw [record]) (fun g => by rw [group]) _
  have thresholds : r.thresholds c = s.thresholds c := by simp [State.thresholds, record, group]
  have taken := delivered_of_blocked (s := r) (c := c) (by simp [record, unitless]) (by simp [record, blocked])
  rw [taken] at watched
  refine ⟨?_, fun d hd => ?_, ?_, ?_, ?_, ?_⟩
  · rw [watched.circuit, State.modCircuit_circuit_self, stamped_circuit_self, record, thresholds, lead, time, par]
  · have other : d ≠ c := by simpa using hd
    rw [watched.circuit, State.modCircuit_circuit_ne _ _ _ other, stamped_circuit_ne other]
    exact circuits d hd
  · exact watched.groups.trans groups
  · exact pool.trans ((stamped_pool c r).trans watched.pool)
  · exact ports.trans ((stamped_ports c r).portState.trans watched.portState)
  · exact (stamped_quiet c c r).quiet (watched.quiet c)

/-- Settles O14: the recognitions write one circuit and raise one event, and a transition in BLOCKED moves the timer. -/
theorem recognitionsChangeOneCircuit : Obligations.RecognitionsChangeOneCircuit := by
  unfold Obligations.RecognitionsChangeOneCircuit
  intro c s awake
  have seized : OnlyCircuit c s (reportFarSeize c s) := ((OnlyCircuit.refl s c).modCircuit _).raiseCircuit c _
  have event : CircuitEvent c .farSeizeBlocked s (reportFarSeize c s) := CircuitEvent.of_modCircuit _ rfl
  have record : (reportFarSeize c s).circuit c = { s.circuit c with timer := none } := by simp [reportFarSeize]
  refine ⟨fun state off long => ?_, fun state on long => ?_, fun blocked reached => ?_, fun blocked sound due => ?_⟩
  · refine ⟨_, onCircuit_due awake (by simp [clearBackDue, state, leadOn_eq off, long]), ?_,
      ((OnlyCircuit.refl s c).modCircuit _).raiseCircuit c _, CircuitEvent.of_modCircuit _ rfl⟩
    simp [recognizeClearBack]
  · refine ⟨_, onCircuit_due awake (by simp [reanswerDue, state, leadOn_eq on, long]), ?_,
      ((OnlyCircuit.refl s c).modCircuit _).raiseCircuit c _, CircuitEvent.of_modCircuit _ rfl⟩
    simp [recognizeReanswer]
  · exact ⟨_, onCircuit_due awake (by simp [farSeizeDue, blocked, timerDue_iff.mpr reached]), record, seized, event⟩
  · obtain ⟨t, runs, watched⟩ := exec_delivered awake due
    have unitless : (s.circuit c).unit = none :=
      sound.no_unit (by simp [blocked]) (by simp [blocked]) (by simp [blocked])
    rw [reachedFirst_of_blocked sound blocked] at watched
    by_cases reached : s.timerDue c = true
    · rw [if_pos reached] at watched
      obtain ⟨own, circuits, groups, pool, ports, quiet⟩ :=
        transition_of_blocked watched seized event.portState record unitless blocked
      exact ⟨t, runs, own, circuits, groups, pool, ports, fun h => absurd (timerDue_iff.mp reached) h,
        fun _ => event.reports.quiet quiet⟩
    · rw [if_neg reached] at watched
      obtain ⟨own, circuits, groups, pool, ports, quiet⟩ :=
        transition_of_blocked watched (OnlyCircuit.refl s c) (PortStateKept.refl s) rfl unitless blocked
      exact ⟨t, runs, own, circuits, groups, pool, ports, fun _ => quiet,
        fun h => absurd (timerDue_iff.mpr h) reached⟩

end Transition

end Sys2Proof.Machine

/-! PROOFS. Orders and their tests: the common tests (R143), the call orders' own tests in the order of their rules (R35,
R49, R57, R77, R78, R81), REFERENCE CONTROL APPLY (R132) and ASSIGN CIRCUIT (R23). -/

namespace Sys2Proof.Machine

/-! ## The common tests (R143) -/

/-- Settles O31: each test of R143 in turn is the one the order fails. -/
theorem ordersMeetTheCommonTests : Obligations.OrdersMeetTheCommonTests := by
  unfold Obligations.OrdersMeetTheCommonTests
  intro kind w ws s last
  refine ⟨fun length => ?_, fun length enabled read => ?_, fun length enabled maintenance mperm => ?_⟩
  · exact exec_commonRefusal last (by simp [commonRefusal, length])
  · exact exec_commonRefusal last (by simp [commonRefusal, length, enabled, read])
  · exact exec_commonRefusal last (by simp [commonRefusal, length, enabled, maintenance, mperm])

section CallOrders

variable {ws : List Word} {p : Port} {s : State}

/-! ## Digits that an order carries (R184) -/

/-- Values that are all digits are read as digits, in their order. -/
theorem digitsOf_vals (digits : List (Fin 10)) : digitsOf (digits.map (·.val)) = some digits := by
  induction digits with
  | nil => rfl
  | cons d rest ih => simp [digitsOf, ih]

/-- A value above 9 spoils the string. -/
theorem digitsOf_bad {l : List Nat} (h : ∃ v ∈ l, 9 < v) : digitsOf l = none := by
  induction l with
  | nil => simp at h
  | cons v l ih =>
    unfold digitsOf
    split
    · next low =>
      obtain ⟨x, hx, high⟩ := h
      obtain rfl | hx := List.mem_cons.mp hx
      · omega
      · rw [ih ⟨x, hx, high⟩]; rfl
    · rfl

theorem digitsOf_good {l : List Nat} (h : ∀ v ∈ l, v ≤ 9) : ∃ digits, digitsOf l = some digits := by
  induction l with
  | nil => exact ⟨[], rfl⟩
  | cons v l ih =>
    obtain ⟨digits, hd⟩ := ih fun x hx => h x (List.mem_cons_of_mem _ hx)
    have low : v < 10 := Nat.lt_succ_of_le (h v List.mem_cons_self)
    exact ⟨⟨v, low⟩ :: digits, by simp [digitsOf, low, hd]⟩

/-- A nibble above 9 within the count is DIGIT_BAD. -/
theorem digitsOf_nibbles_bad {n : Nat} (h : ∃ i, i < n ∧ 9 < nibbleAt ws i) : digitsOf (nibbles ws n) = none := by
  obtain ⟨i, hi, high⟩ := h
  exact digitsOf_bad ⟨_, List.mem_map.mpr ⟨i, List.mem_range.mpr hi, rfl⟩, high⟩

theorem digitsOf_nibbles_good {n : Nat} (h : ∀ i, i < n → nibbleAt ws i ≤ 9) :
    ∃ digits, digitsOf (nibbles ws n) = some digits := by
  refine digitsOf_good fun v hv => ?_
  obtain ⟨i, hi, rfl⟩ := List.mem_map.mp hv
  exact h i (List.mem_range.mp hi)

/-! ## The tests of SEIZE (R35) -/

theorem freeSlot_none (h : ∀ n : Fin 16, s.slot { port := p, num := n } ≠ .free) : s.freeSlot p = none := by
  have none_ : allSixteen.find? (fun n => s.slot { port := p, num := n } = .free) = none :=
    List.find?_eq_none.mpr fun n _ => by simpa using h n
  simp [State.freeSlot, none_]

theorem orderSeize_badGroup (h : 7 < field (wordAt ws 1) 7 4) : orderSeize p ws s = refuse .badGroup s := by
  simp [orderSeize, eightOf_none.mpr h]

section Group

variable {g : Fin 8} (hg : field (wordAt ws 1) 7 4 = g.val)
include hg

theorem orderSeize_incapable (h : (s.group g).direction.outgoingCapable = false) :
    orderSeize p ws s = refuse .badGroup s := by
  simp [orderSeize, eightOf_some.mpr hg, h]

theorem orderSeize_badValue (capable : (s.group g).direction.outgoingCapable = true)
    (h : 60 < field (wordAt ws 2) 15 10) : orderSeize p ws s = refuse .badValue s := by
  simp [orderSeize, eightOf_some.mpr hg, capable, h]

variable (capable : (s.group g).direction.outgoingCapable = true) (wait : field (wordAt ws 2) 15 10 ≤ 60)
include capable wait

theorem orderSeize_digitBad (h : ∃ i, i < field (wordAt ws 2) 4 0 ∧ 9 < nibbleAt (ws.drop 3) i) :
    orderSeize p ws s = refuse .digitBad s := by
  simp [orderSeize, eightOf_some.mpr hg, capable, wait, digitsOf_nibbles_bad h]

variable (digits : ∀ i, i < field (wordAt ws 2) 4 0 → nibbleAt (ws.drop 3) i ≤ 9)
include digits

theorem orderSeize_digitOverflow (h : 24 < field (wordAt ws 2) 4 0) :
    orderSeize p ws s = refuse .digitOverflow s := by
  obtain ⟨ds, hd⟩ := digitsOf_nibbles_good digits
  simp [orderSeize, eightOf_some.mpr hg, capable, wait, hd, h]

theorem orderSeize_noSlot (few : field (wordAt ws 2) 4 0 ≤ 24)
    (h : ∀ n : Fin 16, s.slot { port := p, num := n } ≠ .free) : orderSeize p ws s = refuse .noSlot s := by
  obtain ⟨ds, hd⟩ := digitsOf_nibbles_good digits
  simp [orderSeize, eightOf_some.mpr hg, capable, not_lt.mpr wait, hd, not_lt.mpr few, freeSlot_none h]

end Group

/-! ## The tests of ADD DIGITS (R49) -/

theorem orderAddDigits_badValue (h : 95 < field (wordAt ws 1) 15 9) : orderAddDigits p ws s = refuse .badValue s := by
  simp [orderAddDigits, circuitOf_none.mpr h]

section Circuit

variable {c : Fin 96} (hc : field (wordAt ws 1) 15 9 = c.val)
include hc

theorem orderAddDigits_digitBad (h : ∃ i, i < field (wordAt ws 1) 4 0 ∧ 9 < nibbleAt (ws.drop 2) i) :
    orderAddDigits p ws s = refuse .digitBad s := by
  simp [orderAddDigits, circuitOf_some.mpr hc, digitsOf_nibbles_bad h]

variable (digits : ∀ i, i < field (wordAt ws 1) 4 0 → nibbleAt (ws.drop 2) i ≤ 9)
include digits

theorem orderAddDigits_notOwner (h : (s.circuit c).owner ≠ some p) :
    orderAddDigits p ws s = refuse .notOwner s := by
  obtain ⟨ds, hd⟩ := digitsOf_nibbles_good digits
  simp [orderAddDigits, circuitOf_some.mpr hc, hd, h]

theorem orderAddDigits_wrongState (owner : (s.circuit c).owner = some p)
    (h : ((s.circuit c).state ≠ .outSeizing ∧ (s.circuit c).state ≠ .outSending) ∨ (s.circuit c).eon = true) :
    orderAddDigits p ws s = refuse .wrongState s := by
  obtain ⟨ds, hd⟩ := digitsOf_nibbles_good digits
  simp only [orderAddDigits, circuitOf_some.mpr hc, hd]
  rw [if_neg (not_not_intro owner), if_pos h]

theorem orderAddDigits_digitOverflow (owner : (s.circuit c).owner = some p)
    (state : (s.circuit c).state = .outSeizing ∨ (s.circuit c).state = .outSending)
    (eon : (s.circuit c).eon = false) (h : 24 < (s.circuit c).digits.length + field (wordAt ws 1) 4 0) :
    orderAddDigits p ws s = refuse .digitOverflow s := by
  obtain ⟨ds, hd⟩ := digitsOf_nibbles_good digits
  have passes : ¬ (((s.circuit c).state ≠ .outSeizing ∧ (s.circuit c).state ≠ .outSending) ∨
      (s.circuit c).eon = true) := by
    obtain state | state := state <;> simp [state, eon]
  simp only [orderAddDigits, circuitOf_some.mpr hc, hd]
  rw [if_neg (not_not_intro owner), if_neg passes, if_pos h]

end Circuit

/-! ## The tests of the orders on an owned circuit (R57, R77, R78, R81) -/

section Owned

variable {allowed : CircuitState → Bool} {act : Fin 96 → State → State}

theorem ownedOrder_badValue (h : 95 < field (wordAt ws 1) 6 0) :
    ownedOrder allowed act p ws s = refuse .badValue s := by
  simp [ownedOrder, circuitOf_none.mpr h]

variable {c : Fin 96} (hc : field (wordAt ws 1) 6 0 = c.val)
include hc

theorem ownedOrder_notOwner (h : (s.circuit c).owner ≠ some p) :
    ownedOrder allowed act p ws s = refuse .notOwner s := by
  simp [ownedOrder, circuitOf_some.mpr hc, h]

theorem ownedOrder_wrongState (owner : (s.circuit c).owner = some p) (h : allowed (s.circuit c).state = false) :
    ownedOrder allowed act p ws s = refuse .wrongState s := by
  simp [ownedOrder, circuitOf_some.mpr hc, owner, h]

theorem ownedOrder_acts (owner : (s.circuit c).owner = some p) (h : allowed (s.circuit c).state = true) :
    ownedOrder allowed act p ws s = accept (act c s) := by
  simp [ownedOrder, circuitOf_some.mpr hc, owner, h]

end Owned

/-- CLEAR, RELEASE REGISTER, ANSWER and CLEAR BACK are orders on an owned circuit, each in its states. -/
theorem orderBody_owned {kind : OrderKind}
    (h : kind = .clear ∨ kind = .releaseRegister ∨ kind = .answer ∨ kind = .clearBack) :
    ∃ allowed act, orderBody kind = ownedOrder allowed act ∧ ∀ st, allowed st = true ↔ st ∈ statesOf kind := by
  obtain rfl | rfl | rfl | rfl := h
  · exact ⟨_, _, rfl, fun st => by cases st <;> simp [CircuitState.clearsForward, statesOf]⟩
  · exact ⟨fun st => st = .inReceiving, holdCall, rfl, fun st => by simp [statesOf]⟩
  · exact ⟨_, _, rfl, fun st => by cases st <;> simp [CircuitState.answerable, statesOf]⟩
  · exact ⟨fun st => st = .inAnswered, clearBackCall, rfl, fun st => by simp [statesOf]⟩

end CallOrders

/-- Settles O32: each refusal is the body's, in the state the order starts from, whose circuits, groups and slots are those
before. -/
theorem callOrdersAreRefusedInOrder : Obligations.CallOrdersAreRefusedInOrder := by
  unfold Obligations.CallOrdersAreRefusedInOrder
  intro w ws s w2 w3
  obtain ⟨-, -, -, -, -, slot, -⟩ := orderStart_frame s w
  obtain ⟨-, circuit, group, -, -⟩ := orderStart_records s w
  refine ⟨fun ready => ⟨fun high => refuses_of_body ready (orderSeize_badGroup high), fun g hg => ?_⟩,
    fun ready => ⟨fun high => refuses_of_body ready (orderAddDigits_badValue high), fun c hc => ?_⟩,
    fun kind owned ready => ?_⟩
  · refine ⟨fun incapable => refuses_of_body ready (orderSeize_incapable hg ?_), fun capable => ?_⟩
    · obtain h | h := incapable <;> rw [group, h] <;> rfl
    have capable' : ((orderStart w s).group g).direction.outgoingCapable = true := by
      obtain h | h := capable <;> rw [group, h] <;> rfl
    refine ⟨fun high => refuses_of_body ready (orderSeize_badValue hg capable' high), fun wait => ?_⟩
    refine ⟨fun bad => refuses_of_body ready (orderSeize_digitBad hg capable' wait bad), fun digits => ?_⟩
    exact ⟨fun many => refuses_of_body ready (orderSeize_digitOverflow hg capable' wait digits many),
      fun few taken => refuses_of_body ready
        (orderSeize_noSlot hg capable' wait digits few fun n => by rw [slot]; exact taken n)⟩
  · refine ⟨fun bad => refuses_of_body ready (orderAddDigits_digitBad hc bad), fun digits => ?_⟩
    refine ⟨fun other => refuses_of_body ready (orderAddDigits_notOwner hc digits (by rw [circuit]; exact other)),
      fun owner => ⟨fun wrong => ?_, fun state eon many => ?_⟩⟩
    · exact refuses_of_body ready (orderAddDigits_wrongState hc digits (by rw [circuit]; exact owner)
        (by rw [circuit]; exact wrong))
    · exact refuses_of_body ready (orderAddDigits_digitOverflow hc digits (by rw [circuit]; exact owner)
        (by rw [circuit]; exact state) (by rw [circuit]; exact eon) (by rw [circuit]; exact many))
  · obtain ⟨allowed, act, body, states⟩ := orderBody_owned owned
    refine ⟨fun high => refuses_of_body ready (by rw [body]; exact ownedOrder_badValue high), fun c hc => ?_⟩
    refine ⟨fun other => refuses_of_body ready ?_, fun owner wrong => refuses_of_body ready ?_⟩
    · rw [body]
      exact ownedOrder_notOwner hc (by rw [circuit]; exact other)
    · rw [body]
      refine ownedOrder_wrongState hc (by rw [circuit]; exact owner) ?_
      rw [circuit]
      exact Bool.eq_false_iff.mpr fun h => wrong ((states _).mp h)

/-! ## REFERENCE CONTROL APPLY (R128, R132) -/

section ReferenceApplyOrder

variable {ws : List Word} {p : Port} {s : State} {g : Fin 8}

theorem orderReferenceApply_high (h : 7 < field (wordAt ws 1) 3 0) :
    orderReferenceApply p ws s = refuse .badGroup s := by
  simp [orderReferenceApply, eightOf_none.mpr h]

theorem orderReferenceApply_badValue (hg : field (wordAt ws 1) 3 0 = g.val) (h : field (wordAt ws 1) 11 8 ≠ 0) :
    orderReferenceApply p ws s = refuse .badValue s := by
  simp [orderReferenceApply, eightOf_some.mpr hg, h]

theorem orderReferenceApply_applies (hg : field (wordAt ws 1) 3 0 = g.val) (h : field (wordAt ws 1) 11 8 = 0) :
    orderReferenceApply p ws s = accept (applyReference g s) := by
  simp [orderReferenceApply, eightOf_some.mpr hg, h]

/-- An apply clears since_apply and, with override off, takes the computed thresholds (R128). -/
theorem Group.applied_eq (k : Group) :
    k.applied =
      let computed := if k.par .override = 0 then thresholdsOf k else (k.reference.tBm, k.reference.tId)
      { k.reference with sinceApply := 0, tBm := computed.1, tId := computed.2 } := by
  by_cases off : k.par .override = 0
  · rw [Group.applied_of_override_off off, if_pos off]
    rfl
  · rw [Group.applied_of_override_on off, if_neg off]

/-- The ports take applied where the thresholds changed, and nothing otherwise (R128, R130). -/
theorem setThresholds_port (g : Fin 8) (r : Reference) (s : State) (q : Port) :
    (s.setThresholds g r).port q =
      if (s.group g).reference.tBm = r.tBm ∧ (s.group g).reference.tId = r.tId then s.port q
      else (s.port q).withEvent (.group g) .applied := by
  simp only [State.setThresholds]
  split
  · exact State.modGroup_port s g _ q
  · rw [State.raiseGroup_port, State.modGroup_port]

end ReferenceApplyOrder

/-- Settles O44: the body of the order is an apply in the state the order starts from, whose groups are those before. -/
theorem referenceApplySetsTheThresholds : Obligations.ReferenceApplySetsTheThresholds := by
  unfold Obligations.ReferenceApplySetsTheThresholds
  intro w ws s ready
  refine ⟨fun high => refuses_of_body ready (orderReferenceApply_high (p := w.port) high), fun g hg =>
    ⟨fun bad => refuses_of_body ready (orderReferenceApply_badValue (p := w.port) hg bad), fun action => ?_⟩⟩
  intro k computed same
  obtain ⟨circuits, -, pool, lines, -⟩ := orderStart_frame s w
  obtain ⟨-, -, group, -, -⟩ := orderStart_records s w
  obtain ⟨groups', -, circuits', pool', lines', -⟩ := applyReference_frame (orderStart w s) g
  have own := applyReference_group g (orderStart w s)
  have port : ∀ q, (applyReference g (orderStart w s)).port q =
      if same then (orderStart w s).port q else ((orderStart w s).port q).withEvent (.group g) .applied := fun q => by
    rw [applyReference, setThresholds_port, group, Group.applied_eq]
  rw [group, Group.applied_eq] at own
  refine ⟨_, answers_of_body ready (orderReferenceApply_applies (p := w.port) hg action), own,
    fun x hx => (groups' x hx).trans (group x), circuits'.trans circuits, pool.trans pool', lines.trans lines',
    fun same => ?_, fun changed q => by rw [port, if_neg changed]⟩
  exact ⟨by have h := port .A; rwa [if_pos same] at h, by have h := port .B; rwa [if_pos same] at h⟩

/-! ## ASSIGN CIRCUIT (R23) -/

section Assign

variable {ws : List Word} {p : Port} {s : State} {c : Fin 96}

theorem orderAssignCircuit_badValue (h : 95 < field (wordAt ws 1) 6 0 ∨ 999 < field (wordAt ws 2) 9 0) :
    orderAssignCircuit p ws s = refuse .badValue s := by
  cases hc : circuitOf (field (wordAt ws 1) 6 0) with
  | none => simp [orderAssignCircuit, hc]
  | some c =>
    have low : ¬ 95 < field (wordAt ws 1) 6 0 := fun high => by simp [circuitOf_none.mpr high] at hc
    simp [orderAssignCircuit, hc, h.resolve_left low]

variable (hc : field (wordAt ws 1) 6 0 = c.val) (trunk : field (wordAt ws 2) 9 0 ≤ 999)
include hc trunk

theorem orderAssignCircuit_none (none_ : bitSet (wordAt ws 1) 15 = true) :
    orderAssignCircuit p ws s =
      if (s.circuit c).state ≠ .unequipped ∧ (s.circuit c).state ≠ .blocked then refuse .wrongState s
      else accept (assignCircuit c none (field (wordAt ws 2) 9 0) s) := by
  simp [orderAssignCircuit, circuitOf_some.mpr hc, trunk, none_]

variable (named : bitSet (wordAt ws 1) 15 = false)
include named

theorem orderAssignCircuit_badGroup (h : 7 < field (wordAt ws 1) 11 8) :
    orderAssignCircuit p ws s = refuse .badGroup s := by
  simp [orderAssignCircuit, circuitOf_some.mpr hc, trunk, named, eightOf_none.mpr h]

variable {g : Fin 8} (hg : field (wordAt ws 1) 11 8 = g.val)
include hg

theorem orderAssignCircuit_unmade (h : (s.group g).direction = .none) :
    orderAssignCircuit p ws s = refuse .badGroup s := by
  simp [orderAssignCircuit, circuitOf_some.mpr hc, trunk, named, eightOf_some.mpr hg, h]

theorem orderAssignCircuit_group (h : (s.group g).direction ≠ .none) :
    orderAssignCircuit p ws s =
      if (s.circuit c).state ≠ .unequipped ∧ (s.circuit c).state ≠ .blocked then refuse .wrongState s
      else accept (assignCircuit c (some g) (field (wordAt ws 2) 9 0) s) := by
  simp [orderAssignCircuit, circuitOf_some.mpr hc, trunk, named, eightOf_some.mpr hg, h]

omit hc trunk named hg

/-- What an ASSIGN CIRCUIT makes of the circuit's record, whichever way it is placed. -/
def Assigned (c : Fin 96) (group : Option (Fin 8)) (state : CircuitState) (trunkNo : Nat) (s t : State) : Prop :=
  (t.circuit c).state = state ∧ (t.circuit c).group = group ∧ (t.circuit c).trunkNo = trunkNo ∧
    (t.circuit c).blockPending = false ∧ CallKept (s.circuit c) (t.circuit c) ∧
    (t.circuit c).owner = (s.circuit c).owner ∧ OnlyCircuit c s t ∧ PortsKept s t

theorem assignCircuit_none (trunkNo : Nat) :
    Assigned c none .unequipped trunkNo s (assignCircuit c none trunkNo s) := by
  refine ⟨?_, ?_, ?_, ?_, ?_, ?_, ?_, ⟨rfl, rfl⟩⟩
  case refine_7 => exact (((OnlyCircuit.refl s c).modCircuit _).modCircuit _).drive _
  all_goals simp [assignCircuit, State.drive_circuit, CallKept]

/-- A circuit that is not BLOCKED yet enters BLOCKED, and a BLOCKED one goes on as it was. -/
theorem assignCircuit_group (g : Fin 8) (trunkNo : Nat) :
    Assigned c (some g) .blocked trunkNo s (assignCircuit c (some g) trunkNo s) := by
  by_cases blocked : (s.circuit c).state = .blocked
  · simp only [assignCircuit, if_pos blocked]
    refine ⟨?_, ?_, ?_, ?_, ?_, ?_, (OnlyCircuit.refl s c).modCircuit _, ⟨rfl, rfl⟩⟩
    all_goals simp [CallKept, blocked]
  · simp only [assignCircuit, if_neg blocked]
    refine ⟨?_, ?_, ?_, ?_, ?_, ?_, ?_, ⟨rfl, rfl⟩⟩
    case refine_7 => exact (((OnlyCircuit.refl s c).modCircuit _).modCircuit _).drive _
    all_goals simp [enterBlocked_circuit, CallKept]

end Assign

/-- Settles O40: the tests in their order, and `assignCircuit` in the state the order starts from. -/
theorem assignCircuitPlacesTheCircuit : Obligations.AssignCircuitPlacesTheCircuit := by
  unfold Obligations.AssignCircuitPlacesTheCircuit
  intro w ws s ready w2 trunkNo
  obtain ⟨circuits, groups, pool, lines, -⟩ := orderStart_frame s w
  obtain ⟨-, circuit, group, -, -⟩ := orderStart_records s w
  refine ⟨fun bad => refuses_of_body ready (orderAssignCircuit_badValue (p := w.port) bad), fun c hc trunk => ?_⟩
  intro k free placed
  have wrong : ¬ free ↔ ((orderStart w s).circuit c).state ≠ .unequipped ∧
      ((orderStart w s).circuit c).state ≠ .blocked := by
    rw [circuit]
    exact not_or
  have place : ∀ {grp : Option (Fin 8)} {state : CircuitState},
      Assigned c grp state trunkNo (orderStart w s) (assignCircuit c grp trunkNo (orderStart w s)) →
      orderBody .assignCircuit w.port ws (orderStart w s) =
        accept (assignCircuit c grp trunkNo (orderStart w s)) → placed grp state := by
    intro grp state assigned body
    obtain ⟨hs, hg, ht, hb, hk, ho, only, ports⟩ := assigned
    rw [circuit] at hk ho
    exact ⟨_, answers_of_body ready body, hs, hg, ht, hb, hk, ho, only, ports⟩
  refine ⟨fun none_ => ⟨fun busy => ?_, fun free => ?_⟩, fun named => ⟨fun high => ?_, fun g hg => ⟨fun unmade => ?_,
    fun made => ⟨fun busy => ?_, fun free => ?_⟩⟩⟩⟩
  · exact refuses_of_body ready ((orderAssignCircuit_none (p := w.port) hc trunk none_).trans (if_pos (wrong.mp busy)))
  · exact place (assignCircuit_none trunkNo)
      ((orderAssignCircuit_none (p := w.port) hc trunk none_).trans (if_neg fun h => wrong.mpr h free))
  · exact refuses_of_body ready (orderAssignCircuit_badGroup (p := w.port) hc trunk named high)
  · exact refuses_of_body ready (orderAssignCircuit_unmade (p := w.port) hc trunk named hg (by rw [group]; exact unmade))
  · exact refuses_of_body ready ((orderAssignCircuit_group (p := w.port) hc trunk named hg (by rw [group]; exact made)).trans
      (if_pos (wrong.mp busy)))
  · exact place (assignCircuit_group g trunkNo)
      ((orderAssignCircuit_group (p := w.port) hc trunk named hg (by rw [group]; exact made)).trans
        (if_neg fun h => wrong.mpr h free))

end Sys2Proof.Machine

/-! PROOFS. The arbiter's rules, each told once: the start instant of a sender (R47, R117), what an attachment makes of its
unit and its circuit (R72, R104), and how a request is served or queued (R105, R113). -/

namespace Sys2Proof.Machine

section Start

variable {c : Fin 96} {u : Fin 16} {s s' t : State} {k r : DigitUnit} {digits : List (Fin 10)}

/-! ## The start instant (R47, R117) -/

theorem timeAfter_ne_of_elapsed {now since : Time} {gap : Nat} (h : elapsed now since < gap) (bound : gap < 2 ^ 32) :
    timeAfter since gap ≠ now := by
  intro same
  have wrap : elapsed now since = gap := by
    rw [← same, elapsed, timeAfter, add_sub_cancel_left, BitVec.toNat_ofNat, Nat.mod_eq_of_lt bound]
  omega

theorem laterOf_of_come {now since : Time} {gap : Nat} (h : gap ≤ elapsed now since) : laterOf now since gap = now :=
  if_neg (Nat.not_lt.mpr h)

theorem laterOf_of_wait {now since : Time} {gap : Nat} (h : elapsed now since < gap) :
    laterOf now since gap = timeAfter since gap := if_pos h

/-- The start instant is the later of the present one and a gap after the last break, or after the seizure. -/
theorem startInstant_eq (c : Fin 96) (s : State) :
    startInstant c s =
      laterOf s.timeBase (if (s.circuit c).sent = 0 then (s.circuit c).seizeTime else (s.circuit c).lastBrkEnd)
        (if (s.circuit c).sent = 0 then (s.circuit c).prePause else (s.circuit c).idSend) := by
  unfold startInstant
  simp only
  split <;> rfl

/-- Beginning a digit writes the unit with the digit's pulse number. -/
theorem beginDigit_of_digit {d : Fin 10} (h : (s.circuit c).digits[(s.circuit c).sent]? = some d) :
    (beginDigit u c s).unit u =
      { s.unit u with state := .sender .inBreak, count := 1, pulses := if d.val = 0 then 10 else d.val
                      brkStart := some s.timeBase, prevBrkStart := none
                      subEnd := some (timeAfter s.timeBase (s.par c .brkSend)) } := by
  unfold beginDigit
  rw [h]
  simp [pulseNumber]

/-- The decision of R117 as the claims state it. -/
theorem startDecided_decideStart (u : Fin 16) (c : Fin 96) (s : State) :
    StartDecided c (s.circuit c).digits (s.unit u) ((decideStart u c s).unit u) s := by
  unfold StartDecided
  refine ⟨fun come d hd => ?_, fun wait bound => ?_⟩
  · have now : startInstant c s = s.timeBase := (startInstant_eq c s).trans (laterOf_of_come come)
    simp only [decideStart, now, if_pos]
    exact beginDigit_of_digit hd
  · have later := (startInstant_eq c s).trans (laterOf_of_wait wait)
    simp only [decideStart, later]
    rw [if_neg (timeAfter_ne_of_elapsed wait bound), State.modUnit_unit_self]

/-- Only the circuit's sending fields, the instant and brk_send tell the decision. -/
theorem StartDecided.congr (h : StartDecided c digits k r s') (sent : (s'.circuit c).sent = (s.circuit c).sent)
    (seizeTime : (s'.circuit c).seizeTime = (s.circuit c).seizeTime)
    (lastBrkEnd : (s'.circuit c).lastBrkEnd = (s.circuit c).lastBrkEnd)
    (prePause : (s'.circuit c).prePause = (s.circuit c).prePause) (idSend : (s'.circuit c).idSend = (s.circuit c).idSend)
    (time : s'.timeBase = s.timeBase) (par : s'.par c .brkSend = s.par c .brkSend) : StartDecided c digits k r s := by
  simp only [StartDecided, sent, seizeTime, lastBrkEnd, prePause, idSend, time, par] at h ⊢
  exact h

/-- The decision told by the record it leaves. -/
theorem StartDecided.self (h : StartDecided c digits k r s) : StartDecided c digits r r s := by
  obtain ⟨come, wait⟩ := h
  refine ⟨fun hc d hd => ?_, fun hw bound => ?_⟩
  · rw [come hc d hd]
  · rw [wait hw bound]

end Start

section Attach

variable {c : Fin 96} {u : Fin 16} {s s' t : State} {cls : UnitClass}

/-! ## Attachment (R104) -/

/-- The links of an attachment: the unit and the circuit name one another, and the request is none. -/
def State.link (s : State) (u : Fin 16) (c : Fin 96) : State :=
  (s.modUnit u fun k => { k with circuit := some c, attachTime := s.timeBase }).modCircuit c
    fun k => { k with unit := some u, unitReq := none }

theorem attach_sender_eq (u : Fin 16) (c : Fin 96) (s : State) :
    attach u c .sender s = attachSender u c (s.link u c) := rfl

theorem attach_register_eq (u : Fin 16) (c : Fin 96) (s : State) :
    attach u c .register s = attachRegister u c (s.link u c) := rfl

/-- What every attachment does: it links its unit and its circuit, and touches no other record and no list. -/
structure Attached (u : Fin 16) (c : Fin 96) (s t : State) : Prop where
  unit : (t.circuit c).unit = some u
  unitReq : (t.circuit c).unitReq = none
  circuit : (t.unit u).circuit = some c
  attachTime : (t.unit u).attachTime = s.timeBase
  circuits : CircuitsKept [c] s t
  units : UnitsKept [u] s t
  regQueue : t.regQueue = s.regQueue
  sndQueue : t.sndQueue = s.sndQueue
  parked : t.parked = s.parked

/-! ### A sender (R104, R117) -/

/-- A sender that is attached where no digit may begin waits in WAIT_START. -/
def DigitUnit.waitsFor (k : DigitUnit) (c : Fin 96) (now : Time) : DigitUnit :=
  { k with circuit := some c, attachTime := now, state := .sender .waitStart, count := 0, subEnd := none }

/-- The state in which a sender has been attached and its start instant is not decided. -/
def State.waitingFor (s : State) (u : Fin 16) (c : Fin 96) : State :=
  (s.link u c).modUnit u fun k => { k with state := .sender .waitStart, count := 0, subEnd := none }

@[simp] theorem State.waitingFor_unit (s : State) (u : Fin 16) (c : Fin 96) :
    (s.waitingFor u c).unit u = (s.unit u).waitsFor c s.timeBase := by
  simp [State.waitingFor, State.link, DigitUnit.waitsFor]

@[simp] theorem State.waitingFor_circuit (s : State) (u : Fin 16) (c : Fin 96) :
    (s.waitingFor u c).circuit c = { s.circuit c with unit := some u, unitReq := none } := by
  simp [State.waitingFor, State.link]

/-- Whether an attached sender has its start instant decided at once. -/
def Circuit.begins (k : Circuit) : Prop := k.state = .outSending ∧ k.digitLeft = true

theorem attach_sender_of_waiting (h : ¬ (s.circuit c).begins) :
    attach u c .sender s = s.waitingFor u c := by
  rw [attach_sender_eq, attachSender]
  refine if_neg fun begins => h ?_
  simpa [State.link, Circuit.begins, Circuit.digitLeft] using begins

theorem attach_sender_of_begins (h : (s.circuit c).begins) :
    attach u c .sender s = decideStart u c (s.waitingFor u c) := by
  rw [attach_sender_eq, attachSender]
  refine if_pos ?_
  simpa [State.link, Circuit.begins, Circuit.digitLeft] using h

/-- The circuit of an attached sender differs by its unit and its request alone. -/
theorem attach_sender_circuit (u : Fin 16) (c : Fin 96) (s : State) :
    (attach u c .sender s).circuit c = { s.circuit c with unit := some u, unitReq := none } := by
  by_cases h : (s.circuit c).begins
  · have left : ((s.waitingFor u c).circuit c).digitLeft = true := by
      simpa [Circuit.digitLeft] using h.2
    obtain ⟨f, eq, -⟩ := decideStart_modUnit u c _ left
    rw [attach_sender_of_begins h, eq]
    exact State.waitingFor_circuit s u c
  · rw [attach_sender_of_waiting h, State.waitingFor_circuit]

theorem attach_sender_unit_of_waiting (h : ¬ (s.circuit c).begins) :
    (attach u c .sender s).unit u = (s.unit u).waitsFor c s.timeBase := by
  rw [attach_sender_of_waiting h, State.waitingFor_unit]

/-- A sender attached in OUT_SENDING with a digit left has its start instant decided (R117). -/
theorem attach_sender_unit_of_begins (h : (s.circuit c).begins) :
    StartDecided c (s.circuit c).digits ((s.unit u).waitsFor c s.timeBase) ((attach u c .sender s).unit u) s := by
  have decided := startDecided_decideStart u c (s.waitingFor u c)
  rw [← attach_sender_of_begins h, State.waitingFor_unit, State.waitingFor_circuit] at decided
  exact decided.congr (by simp) (by simp) (by simp) (by simp) (by simp) rfl
    (State.par_congr (s := s) (t := s.waitingFor u c) (by simp) (fun _ => rfl) _)

/-- A unit record's links survive the decision of the start instant. -/
theorem decideStart_link (u : Fin 16) (c : Fin 96) (s : State) :
    ((decideStart u c s).unit u).circuit = (s.unit u).circuit ∧
      ((decideStart u c s).unit u).attachTime = (s.unit u).attachTime ∧
      (decideStart u c s).regQueue = s.regQueue ∧ (decideStart u c s).sndQueue = s.sndQueue ∧
      (decideStart u c s).parked = s.parked := by
  unfold decideStart beginDigit
  simp only
  split
  · split <;> simp
  · simp

theorem attached_sender (u : Fin 16) (c : Fin 96) (s : State) : Attached u c s (attach u c .sender s) := by
  obtain ⟨circuits, units, -⟩ := attach_frame s u c .sender
  have own := attach_sender_circuit u c s
  have link : ((attach u c .sender s).unit u).circuit = some c ∧ ((attach u c .sender s).unit u).attachTime = s.timeBase ∧
      (attach u c .sender s).regQueue = s.regQueue ∧ (attach u c .sender s).sndQueue = s.sndQueue ∧
      (attach u c .sender s).parked = s.parked := by
    by_cases h : (s.circuit c).begins
    · rw [attach_sender_of_begins h]
      obtain ⟨hc, ht, hr, hs, hp⟩ := decideStart_link u c (s.waitingFor u c)
      rw [State.waitingFor_unit] at hc ht
      exact ⟨hc, ht, hr, hs, hp⟩
    · rw [attach_sender_unit_of_waiting h, attach_sender_of_waiting h]
      exact ⟨rfl, rfl, rfl, rfl, rfl⟩
  obtain ⟨circuit, attachTime, regQueue, sndQueue, parked⟩ := link
  exact ⟨by rw [own], by rw [own], circuit, attachTime, circuits, units, regQueue, sndQueue, parked⟩

/-! ### A register (R72, R104, R119) -/

/-- A unit as its attachment as a register leaves it. -/
def DigitUnit.listensTo (k : DigitUnit) (c : Fin 96) (now : Time) : DigitUnit :=
  { k with circuit := some c, attachTime := now, state := .register .waitDigit, count := 0, brkStart := none
           prevBrkStart := none, longBrk := false, subEnd := none }

/-- The state in which an attached register sends its acknowledgement or starts fd_wait. -/
def State.listening (s : State) (u : Fin 16) (c : Fin 96) : State :=
  ((s.link u c).modUnit u fun k =>
    { k with state := .register .waitDigit, count := 0, brkStart := none, prevBrkStart := none, longBrk := false
             subEnd := none }).modCircuit c fun k => { k with state := .inReceiving }

@[simp] theorem State.listening_circuit (s : State) (u : Fin 16) (c : Fin 96) :
    (s.listening u c).circuit c = { s.circuit c with unit := some u, unitReq := none, state := .inReceiving } := by
  simp [State.listening, State.link]

@[simp] theorem State.listening_unit (s : State) (u : Fin 16) (c : Fin 96) :
    (s.listening u c).unit u = (s.unit u).listensTo c s.timeBase := by
  simp [State.listening, State.link, DigitUnit.listensTo]

@[simp] theorem State.listening_timeBase (s : State) (u : Fin 16) (c : Fin 96) :
    (s.listening u c).timeBase = s.timeBase := rfl

@[simp] theorem State.listening_group (s : State) (u : Fin 16) (c : Fin 96) (g : Fin 8) :
    (s.listening u c).group g = s.group g := rfl

@[simp] theorem State.listening_par (s : State) (u : Fin 16) (c : Fin 96) (p : Param) :
    (s.listening u c).par c p = s.par c p :=
  State.par_congr (s := s) (t := s.listening u c) (by simp) (fun _ => rfl) p

theorem State.startMode_congr (hc : (t.circuit c).group = (s.circuit c).group)
    (hg : ∀ g, (t.group g).startMode = (s.group g).startMode) : t.startMode c = s.startMode c := by
  simp only [State.startMode, hc, hg]

@[simp] theorem State.listening_startMode (s : State) (u : Fin 16) (c : Fin 96) :
    (s.listening u c).startMode c = s.startMode c :=
  State.startMode_congr (by simp) (fun _ => rfl)

theorem attach_register_of_ack (h : s.startMode c = .ackStart) :
    attach u c .register s = acknowledge c (s.listening u c) := by
  have mode : (s.listening u c).startMode c = .ackStart := by simpa using h
  change (match (s.listening u c).startMode c with
    | .ackStart => acknowledge c (s.listening u c)
    | .timedStart => (s.listening u c).startTimer c (1000 * (s.listening u c).par c .fdWait)) = _
  rw [mode]

theorem attach_register_of_timed (h : s.startMode c = .timedStart) :
    attach u c .register s = (s.listening u c).startTimer c (1000 * s.par c .fdWait) := by
  have mode : (s.listening u c).startMode c = .timedStart := by simpa using h
  change (match (s.listening u c).startMode c with
    | .ackStart => acknowledge c (s.listening u c)
    | .timedStart => (s.listening u c).startTimer c (1000 * (s.listening u c).par c .fdWait)) = _
  rw [mode, State.listening_par]

/-- The acknowledgement is put off only on a call that began by a yield (R95). -/
theorem acknowledge_at_once (h : (s.circuit c).glarePhase ≠ .yielded) :
    acknowledge c s = (s.modCircuit c fun k =>
      { k with ackPulse := .running, ackEnd := some (timeAfter s.timeBase (s.par c .ackSend)), timer := none }).drive
        c .on := by
  unfold acknowledge
  cases phase : (s.circuit c).glarePhase <;> simp_all

/-- The acknowledgement leaves the links, the state, the units and the lists. -/
theorem acknowledge_kept (c : Fin 96) (s : State) :
    ((acknowledge c s).circuit c).unit = (s.circuit c).unit ∧
      ((acknowledge c s).circuit c).unitReq = (s.circuit c).unitReq ∧
      ((acknowledge c s).circuit c).state = (s.circuit c).state ∧
      (acknowledge c s).units = s.units ∧ (acknowledge c s).regQueue = s.regQueue ∧
      (acknowledge c s).sndQueue = s.sndQueue ∧ (acknowledge c s).parked = s.parked := by
  unfold acknowledge
  simp only
  split <;> simp [State.drive]

/-- Every register attachment leaves the record of `DigitUnit.listensTo` and a circuit in IN_RECEIVING. -/
theorem attach_register_kept (u : Fin 16) (c : Fin 96) (s : State) :
    ((attach u c .register s).circuit c).unit = some u ∧ ((attach u c .register s).circuit c).unitReq = none ∧
      ((attach u c .register s).circuit c).state = .inReceiving ∧
      (attach u c .register s).unit u = (s.unit u).listensTo c s.timeBase ∧
      (attach u c .register s).regQueue = s.regQueue ∧ (attach u c .register s).sndQueue = s.sndQueue ∧
      (attach u c .register s).parked = s.parked := by
  cases mode : s.startMode c with
  | ackStart =>
    rw [attach_register_of_ack mode]
    obtain ⟨unit, unitReq, state, units, reg, snd, parked⟩ := acknowledge_kept c (s.listening u c)
    rw [State.listening_circuit] at unit unitReq state
    refine ⟨unit, unitReq, state, ?_, reg, snd, parked⟩
    rw [State.unit, units]
    exact State.listening_unit s u c
  | timedStart =>
    rw [attach_register_of_timed mode]
    exact ⟨by simp [State.startTimer_circuit], by simp [State.startTimer_circuit], by simp [State.startTimer_circuit],
      by simp, rfl, rfl, rfl⟩

theorem attached_register (u : Fin 16) (c : Fin 96) (s : State) : Attached u c s (attach u c .register s) := by
  obtain ⟨circuits, units, -⟩ := attach_frame s u c .register
  obtain ⟨unit, unitReq, -, record, reg, snd, parked⟩ := attach_register_kept u c s
  exact ⟨unit, unitReq, by rw [record]; rfl, by rw [record]; rfl, circuits, units, reg, snd, parked⟩

theorem attached (u : Fin 16) (c : Fin 96) (cls : UnitClass) (s : State) : Attached u c s (attach u c cls s) := by
  cases cls with
  | register => exact attached_register u c s
  | sender => exact attached_sender u c s

/-- A register attachment as R72, R104 and R119 leave it. -/
theorem registerAttached_attach (u : Fin 16) (c : Fin 96) (s : State) :
    RegisterAttached c u s (attach u c .register s) := by
  obtain ⟨unit, unitReq, state, record, -⟩ := attach_register_kept u c s
  refine ⟨state, unit, unitReq, by rw [record]; rfl, by rw [record]; rfl, by rw [record]; rfl, by rw [record]; rfl,
    fun mode phase => ?_, fun mode => ?_⟩
  · have phase' : ((s.listening u c).circuit c).glarePhase ≠ .yielded := by simpa using phase
    rw [attach_register_of_ack mode, acknowledge_at_once phase']
    simp [State.drive_circuit]
  · rw [attach_register_of_timed mode]
    simp [State.startTimer_circuit]

/-- Only the fields that the acknowledgement reads tell a register attachment. -/
theorem RegisterAttached.congr (h : RegisterAttached c u s' t)
    (glare : (s'.circuit c).glarePhase = (s.circuit c).glarePhase) (sup : (s'.circuit c).sup = (s.circuit c).sup)
    (ackPulse : (s'.circuit c).ackPulse = (s.circuit c).ackPulse) (ackEnd : (s'.circuit c).ackEnd = (s.circuit c).ackEnd)
    (time : s'.timeBase = s.timeBase) (mode : s'.startMode c = s.startMode c) (par : ∀ p, s'.par c p = s.par c p) :
    RegisterAttached c u s t := by
  simp only [RegisterAttached, glare, sup, ackPulse, ackEnd, time, mode, par] at h ⊢
  exact h

end Attach

section Request

variable {c d : Fin 96} {u : Fin 16} {s s' t t' : State} {cls : UnitClass}

/-! ## Requests (R105, R113) -/

/-- The lowest FREE unit is the one that a search finds. -/
theorem State.freeUnit_of_lowest (free : (s.unit u).state = .free) (lowest : ∀ v, v < u → (s.unit v).state ≠ .free) :
    s.freeUnit = some u := by
  cases h : s.freeUnit with
  | none => exact absurd free (s.freeUnit_none.mp h u)
  | some v =>
    obtain ⟨hv, below⟩ := s.freeUnit_some h
    rcases lt_trichotomy v u with lt | rfl | gt
    · exact absurd hv (lowest v lt)
    · rfl
    · exact absurd free (below u gt)

/-- A circuit's record as its request is made (R104). -/
def State.asking (s : State) (c : Fin 96) (cls : UnitClass) : State :=
  s.modCircuit c fun k => { k with unitReq := some { cls := cls, time := s.timeBase, wait := s.requestWait c cls } }

theorem requestUnit_of_free (h : s.freeUnit = some u) :
    requestUnit c cls s = attach u c cls (s.asking c cls) := by
  obtain ⟨v, hv, eq⟩ | ⟨v, rest, none_, -⟩ | ⟨none_, -⟩ := requestUnit_cases s c cls
  · rw [h] at hv
    obtain rfl := Option.some.inj hv
    exact eq
  · simp [h] at none_
  · simp [h] at none_

theorem requestUnit_of_parked {rest : List (Fin 16)} (none_ : s.freeUnit = none) (h : s.parked = u :: rest) :
    requestUnit c cls s = attach u c cls (unlinkUnit u (s.asking c cls)) := by
  obtain ⟨v, hv, -⟩ | ⟨v, tail, -, hv, eq⟩ | ⟨-, empty, -⟩ := requestUnit_cases s c cls
  · simp [none_] at hv
  · rw [h] at hv
    obtain ⟨rfl, -⟩ := List.cons.inj hv
    exact eq
  · simp [h] at empty

theorem requestUnit_of_none (none_ : s.freeUnit = none) (h : s.parked = []) :
    requestUnit c cls s = enqueue c cls (s.asking c cls) := by
  obtain ⟨v, hv, -⟩ | ⟨v, tail, -, hv, -⟩ | ⟨-, -, eq⟩ := requestUnit_cases s c cls
  · simp [none_] at hv
  · simp [h] at hv
  · exact eq

/-- A request that a FREE unit serves. -/
theorem requestUnit_attached_free (h : s.freeUnit = some u) : Attached u c s (requestUnit c cls s) := by
  rw [requestUnit_of_free h]
  have a := attached u c cls (s.asking c cls)
  exact ⟨a.unit, a.unitReq, a.circuit, a.attachTime,
    fun x hx => (a.circuits x hx).trans (State.modCircuit_circuit_ne s c _ (by simpa using hx)), a.units, a.regQueue,
    a.sndQueue, a.parked⟩

/-- A request that reclaims a parked sender: of the other circuits only the sender's own differs, and it loses its unit. -/
theorem requestUnit_attached_parked {rest : List (Fin 16)} (none_ : s.freeUnit = none) (h : s.parked = u :: rest) :
    let t := requestUnit c cls s
    (t.circuit c).unit = some u ∧ (t.circuit c).unitReq = none ∧ (t.unit u).circuit = some c ∧
      (t.unit u).attachTime = s.timeBase ∧ UnitsKept [u] s t ∧ t.regQueue = s.regQueue ∧ t.sndQueue = s.sndQueue ∧
      t.parked = rest.filter (fun v => v ≠ u) ∧
      ∀ d, d ≠ c → t.circuit d =
        if (s.unit u).circuit = some d then { s.circuit d with unit := none } else s.circuit d := by
  intro t
  have a := attached u c cls (unlinkUnit u (s.asking c cls))
  obtain ⟨-, others, circuits, parked, reg, snd, -, -, -, time, -⟩ := unlinkUnit_spec (s.asking c cls) u
  rw [← requestUnit_of_parked none_ h] at a
  refine ⟨a.unit, a.unitReq, a.circuit, a.attachTime.trans time,
    fun v hv => (a.units v hv).trans (others v (by simpa using hv)), a.regQueue.trans reg, a.sndQueue.trans snd,
    a.parked.trans (parked.trans ?_), fun d hd => (a.circuits d (by simpa using hd)).trans ((circuits d).trans ?_)⟩
  · have parked' : (s.asking c cls).parked = u :: rest := h
    rw [parked']
    simp
  · have keep : (s.asking c cls).circuit d = s.circuit d := State.modCircuit_circuit_ne s c _ hd
    rw [keep]
    rfl

/-- A request that no unit serves stands in unit_req and at the tail of its class. -/
theorem requestUnit_queued (none_ : s.freeUnit = none) (h : s.parked = []) :
    let t := requestUnit c cls s
    t.circuit c = { s.circuit c with
      unitReq := some { cls := cls, time := s.timeBase, wait := s.requestWait c cls } } ∧
      CircuitsKept [c] s t ∧ t.units = s.units ∧ t.parked = [] ∧
      t.regQueue = s.regQueue ++ (if cls = .register then [{ circuit := c, time := s.timeBase }] else []) ∧
      t.sndQueue = s.sndQueue ++ (if cls = .sender then [{ circuit := c, time := s.timeBase }] else []) := by
  intro t
  have eq : t = enqueue c cls (s.asking c cls) := requestUnit_of_none none_ h
  rw [eq]
  have own : (s.asking c cls).circuit c = { s.circuit c with
      unitReq := some { cls := cls, time := s.timeBase, wait := s.requestWait c cls } } :=
    State.modCircuit_circuit_self s c _
  have others : CircuitsKept [c] s (s.asking c cls) := fun x hx =>
    State.modCircuit_circuit_ne s c _ (by simpa using hx)
  cases cls with
  | register => exact ⟨own, others, rfl, h, rfl, (List.append_nil _).symm⟩
  | sender => exact ⟨own, others, rfl, h, (List.append_nil _).symm, rfl⟩

end Request

/-- Settles O29: by the three ways in which a request can go. -/
theorem requestsAreServedInOrder : Obligations.RequestsAreServedInOrder := by
  unfold Obligations.RequestsAreServedInOrder
  intro c cls s t
  refine ⟨fun u free lowest => ?_, fun u rest none_ parked => ?_, fun none_ parked => ?_⟩
  · have a := requestUnit_attached_free (c := c) (cls := cls) (State.freeUnit_of_lowest free lowest)
    exact ⟨a.unit, a.unitReq, a.circuit, a.attachTime, a.regQueue, a.sndQueue, a.units⟩
  · obtain ⟨unit, unitReq, circuit, time, units, reg, snd, parked', -⟩ :=
      requestUnit_attached_parked (c := c) (cls := cls) (s.freeUnit_none.mpr none_) parked
    exact ⟨unit, unitReq, circuit, time, by rw [parked']; simp, reg, snd, units⟩
  · obtain ⟨own, -, units, -, reg, snd⟩ :=
      requestUnit_queued (c := c) (cls := cls) (s.freeUnit_none.mpr none_) parked
    refine ⟨units, by rw [own], ⟨_, by rw [own], rfl, rfl⟩, fun h => ?_, fun h => ?_⟩
    · subst h
      exact ⟨reg, snd.trans (List.append_nil _)⟩
    · subst h
      exact ⟨snd, reg.trans (List.append_nil _)⟩

section Asked

variable {c d : Fin 96} {u : Fin 16} {s s' t t' : State} {cls : UnitClass}

/-! ## Requests as the claims state them (R104, R105, R113) -/

/-- No parked sender serves a circuit. -/
def NoneParkedOn (c : Fin 96) (s : State) : Prop := ∀ u ∈ s.parked, (s.unit u).circuit ≠ some c

/-- A circuit without a unit has no parked sender. -/
theorem PoolSound.noneParkedOn (h : PoolSound s) (unit : (s.circuit c).unit = none) : NoneParkedOn c s :=
  fun u _ serves => by simp [(h.linked u c).mp serves] at unit

/-- A request has been served or queued. -/
theorem asked_requestUnit (unit : (s.circuit c).unit = none) (once : s.parked.Nodup) (apart : NoneParkedOn c s)
    (cls : UnitClass) : Asked c cls s (requestUnit c cls s) := by
  refine ⟨fun u free lowest => ?_, fun none_ u rest parked => ?_, fun none_ parked => ?_⟩
  · have a := requestUnit_attached_free (c := c) (cls := cls) (State.freeUnit_of_lowest free lowest)
    exact ⟨⟨a.unit, a.unitReq, a.circuit, a.attachTime, a.units, a.regQueue, a.sndQueue⟩, a.parked⟩
  · obtain ⟨unit', unitReq, circuit, time, units, reg, snd, parked', circuits⟩ :=
      requestUnit_attached_parked (c := c) (cls := cls) (s.freeUnit_none.mpr none_) parked
    refine ⟨⟨unit', unitReq, circuit, time, units, reg, snd⟩, ?_, fun d serves => ?_⟩
    · rw [parked] at once
      have fresh : ∀ v ∈ rest, v ≠ u := fun v hv same => (List.nodup_cons.mp once).1 (same ▸ hv)
      rw [parked']
      exact List.filter_eq_self.mpr fun v hv => by simpa using fresh v hv
    · have other : d ≠ c := fun same =>
        apart u (by rw [parked]; exact List.mem_cons_self) (same ▸ serves)
      rw [circuits d other, if_pos serves]
  · obtain ⟨own, -, units, parked', reg, snd⟩ :=
      requestUnit_queued (c := c) (cls := cls) (s.freeUnit_none.mpr none_) parked
    refine ⟨by rw [own]; exact unit, units, parked', ?_⟩
    cases cls with
    | register => exact ⟨by rw [own]; rfl, reg, snd.trans (List.append_nil _)⟩
    | sender => exact ⟨by rw [own]; rfl, snd, reg.trans (List.append_nil _)⟩

/-- A request told from another state with the same pool, time base and waits. -/
theorem Asked.congr_left (h : Asked c cls s' t) (pool : PoolKept s s') (time : s'.timeBase = s.timeBase)
    (par : ∀ p, s'.par c p = s.par c p) (circuits : ∀ d, d ≠ c → s'.circuit d = s.circuit d)
    (apart : NoneParkedOn c s) : Asked c cls s t := by
  obtain ⟨units, reg, snd, parked⟩ := pool
  have unit : ∀ u, s'.unit u = s.unit u := fun u => by rw [State.unit, units, State.unit]
  obtain ⟨free, reclaims, queues⟩ := h
  simp only [unit, UnitsKept, units, reg, snd, parked, time, par] at free reclaims queues
  refine ⟨free, fun none_ u rest hp => ?_, queues⟩
  obtain ⟨served, list, loses⟩ := reclaims none_ u rest hp
  refine ⟨served, list, fun d serves => ?_⟩
  have other : d ≠ c := fun same => apart u (by rw [hp]; exact List.mem_cons_self) (same ▸ serves)
  rw [loses d serves, circuits d other]

/-- A request that is followed by changes outside the circuits and the pool. -/
theorem Asked.congr_right (h : Asked c cls s t) (circuits : t'.circuits = t.circuits) (pool : PoolKept t t') :
    Asked c cls s t' := by
  obtain ⟨units, reg, snd, parked⟩ := pool
  have unit : ∀ u, t'.unit u = t.unit u := fun u => by rw [State.unit, units, State.unit]
  have circuit : ∀ d, t'.circuit d = t.circuit d := fun d => by rw [State.circuit, circuits, State.circuit]
  simp only [Asked, UnitsKept, unit, circuit, units, reg, snd, parked] at h ⊢
  exact h

/-- A request has a unit at once exactly when one is FREE or parked. -/
theorem Asked.unit_iff (h : Asked c cls s t) :
    (t.circuit c).unit ≠ none ↔ s.freeUnit.isSome = true ∨ s.parked ≠ [] := by
  obtain ⟨free, reclaims, queues⟩ := h
  cases hf : s.freeUnit with
  | some u =>
    obtain ⟨state, lowest⟩ := s.freeUnit_some hf
    obtain ⟨⟨unit, -⟩, -⟩ := free u state lowest
    simp [unit]
  | none =>
    have none_ := s.freeUnit_none.mp hf
    cases hp : s.parked with
    | nil =>
      obtain ⟨unit, -⟩ := queues none_ hp
      simp [unit]
    | cons u rest =>
      obtain ⟨⟨unit, -⟩, -⟩ := reclaims none_ u rest hp
      simp [unit]

/-- The reclaimed circuit is that of the sender at the head of the parked list, where no unit is FREE (R105, R113). -/
theorem State.reclaimed_of_parked {rest : List (Fin 16)} (none_ : s.freeUnit = none) (h : s.parked = u :: rest) :
    s.reclaimed = (s.unit u).circuit := by
  simp [State.reclaimed, none_, h]

/-- A request touches its own circuit and the reclaimed one. -/
theorem requestUnit_circuit_other (other : d ≠ c) (kept : s.reclaimed ≠ some d) (cls : UnitClass) :
    (requestUnit c cls s).circuit d = s.circuit d := by
  cases hf : s.freeUnit with
  | some u => exact (requestUnit_attached_free hf).circuits d (by simpa using other)
  | none =>
    cases hp : s.parked with
    | nil =>
      obtain ⟨-, others, -⟩ := requestUnit_queued (c := c) (cls := cls) hf hp
      exact others d (by simpa using other)
    | cons u rest =>
      obtain ⟨-, -, -, -, -, -, -, -, circuits⟩ := requestUnit_attached_parked (c := c) (cls := cls) hf hp
      rw [State.reclaimed_of_parked hf hp] at kept
      rw [circuits d other, if_neg kept]

theorem State.freeUnit_congr (units : s'.units = s.units) : s'.freeUnit = s.freeUnit := by
  have unit : ∀ u, s'.unit u = s.unit u := fun u => by rw [State.unit, units, State.unit]
  simp only [State.freeUnit, unit]

/-- What a request reclaims is told by the pool. -/
theorem State.reclaimed_congr (pool : PoolKept s s') : s'.reclaimed = s.reclaimed := by
  obtain ⟨units, -, -, parked⟩ := pool
  have unit : ∀ u, s'.unit u = s.unit u := fun u => by rw [State.unit, units, State.unit]
  unfold State.reclaimed
  rw [State.freeUnit_congr units, parked]
  simp only [unit]

/-- A request that a unit serves leaves the circuit as the attachment of that unit does, in a state whose circuit and
unit differ at most by the request and by R103's values. -/
theorem requestUnit_served (apart : NoneParkedOn c s)
    (ready : s.freeUnit.isSome = true ∨ s.parked ≠ []) :
    ∃ u s1, requestUnit c cls s = attach u c cls s1 ∧ (s1.timeBase = s.timeBase) ∧ (∀ g, s1.group g = s.group g) ∧
      s1.circuit c = { s.circuit c with
        unitReq := some { cls := cls, time := s.timeBase, wait := s.requestWait c cls } } := by
  have own : (s.asking c cls).circuit c = { s.circuit c with
      unitReq := some { cls := cls, time := s.timeBase, wait := s.requestWait c cls } } :=
    State.modCircuit_circuit_self s c _
  cases hf : s.freeUnit with
  | some u => exact ⟨u, s.asking c cls, requestUnit_of_free hf, rfl, fun _ => rfl, own⟩
  | none =>
    cases hp : s.parked with
    | nil => simp [hf, hp] at ready
    | cons u rest =>
      obtain ⟨-, -, circuits, -, -, -, groups, -, -, time, -⟩ := unlinkUnit_spec (s.asking c cls) u
      refine ⟨u, unlinkUnit u (s.asking c cls), requestUnit_of_parked hf hp, time,
        fun g => by rw [State.group, groups]; rfl, ?_⟩
      have other : ((s.asking c cls).unit u).circuit ≠ some c := apart u (by rw [hp]; exact List.mem_cons_self)
      rw [circuits c, if_neg other, own]

end Asked

end Sys2Proof.Machine

/-! PROOFS. The offer of an incoming call (R29, R68, R69, R72): the port that the distribution chooses, and the register that
is attached or queued. -/

namespace Sys2Proof.Machine

section Offer

variable {c : Fin 96} {g : Fin 8} {u : Fin 16} {s s1 t : State}

/-- A register's attachment writes of its circuit, besides the links and the state, what the acknowledgement or fd_wait
does. -/
theorem attach_register_circuit (u : Fin 16) (c : Fin 96) (s : State) :
    ∃ sup lastOff ackPulse ackEnd timer,
      (attach u c .register s).circuit c =
        { s.circuit c with
          unit := some u, unitReq := none, state := .inReceiving, sup := sup, lastOff := lastOff
          ackPulse := ackPulse, ackEnd := ackEnd, timer := timer } := by
  cases mode : s.startMode c with
  | timedStart =>
    rw [attach_register_of_timed mode, State.startTimer_circuit, if_pos rfl, State.listening_circuit]
    exact ⟨_, _, _, _, _, rfl⟩
  | ackStart =>
    rw [attach_register_of_ack mode]
    unfold acknowledge
    simp only
    split
    · rw [State.modCircuit_circuit_self, State.listening_circuit]
      exact ⟨_, _, _, _, _, rfl⟩
    · rw [State.drive_circuit, if_pos rfl, State.modCircuit_circuit_self, State.listening_circuit]
      exact ⟨_, _, _, _, _, rfl⟩

/-- A request for a register leaves the circuit's owner, whether it is served or queued. -/
theorem requestUnit_register_owner (apart : NoneParkedOn c s) :
    ((requestUnit c .register s).circuit c).owner = (s.circuit c).owner := by
  by_cases ready : s.freeUnit.isSome = true ∨ s.parked ≠ []
  · obtain ⟨u, s1, eq, -, -, own⟩ := requestUnit_served (cls := .register) apart ready
    obtain ⟨_, _, _, _, _, record⟩ := attach_register_circuit u c s1
    rw [eq, record, own]
  · obtain ⟨none_, empty⟩ := not_or.mp ready
    obtain ⟨own, -⟩ := requestUnit_queued (c := c) (cls := .register) (by simpa using none_) (by simpa using empty)
    rw [own]

/-- A request for a register that a unit serves attaches it. -/
theorem requestUnit_register_attached (apart : NoneParkedOn c s) (ready : s.freeUnit.isSome = true ∨ s.parked ≠ []) :
    ∃ u, RegisterAttached c u s (requestUnit c .register s) := by
  obtain ⟨u, s1, eq, time, group, own⟩ := requestUnit_served (cls := .register) apart ready
  refine ⟨u, ?_⟩
  rw [eq]
  exact (registerAttached_attach u c s1).congr (by rw [own]) (by rw [own]) (by rw [own]) (by rw [own]) time
    (State.startMode_congr (by rw [own]) (fun g => by rw [group]))
    (fun p => State.par_congr (by rw [own]) (fun g => by rw [group]) p)

end Offer

/-- Settles O19: `offerCall_cases` tells the offer, and the request that follows it is served or queued. -/
theorem seizureIsOffered : Obligations.SeizureIsOffered := by
  unfold Obligations.SeizureIsOffered
  intro c g s awake pool state reached group k chosen owner served
  obtain ⟨s1, groups, own, circuits, kept, lines, ports, eq⟩ := offerCall_cases s c g group
  have owner_eq : s.offerOwner (s.group g).offerPort = owner := rfl
  rw [owner_eq] at circuits ports eq
  obtain ⟨unit, unitReq⟩ : (s.circuit c).unit = none ∧ (s.circuit c).unitReq = none := by
    obtain ⟨unit, unitReq, -⟩ := pool.apart_of_resting (c := c) (.inr (.inr (.inr (.inl state))))
    exact ⟨unit, unitReq⟩
  have circuit : s1.circuit c = { s.circuit c with state := .inSeized, timer := none, owner := owner } := by
    rw [circuits c, if_pos rfl]
  have unit1 : (s1.circuit c).unit = none := by rw [circuit]; exact unit
  have apart : NoneParkedOn c s := pool.noneParkedOn unit
  have apart1 : NoneParkedOn c s1 := by
    obtain ⟨units, -, -, parked⟩ := kept
    intro u hu
    rw [State.unit, units]
    exact apart u (parked ▸ hu)
  have others : ∀ d, d ≠ c → s1.circuit d = s.circuit d := fun d hd => by rw [circuits d, if_neg hd]
  have params : ∀ x, (s1.group x).par = (s.group x).par := fun x => by
    by_cases hx : x = g
    · rw [hx, own]; rfl
    · rw [groups x (by simpa using hx)]
  have par : ∀ p, s1.par c p = s.par c p := State.par_congr (by rw [circuit]) params
  have mode : s1.startMode c = s.startMode c := State.startMode_congr (by rw [circuit]) fun x => by
    by_cases hx : x = g
    · rw [hx, own]
    · rw [groups x (by simpa using hx)]
  have once : s1.parked.Nodup := kept.2.2.2 ▸ pool.parkedOnce
  have served1 : s1.freeUnit.isSome = true ∨ s1.parked ≠ [] ↔ served := by
    rw [State.freeUnit_congr kept.1, kept.2.2.2]
  have time : s1.timeBase = s.timeBase := lines.2.1
  refine ⟨_, onCircuit_due awake (by simp [seizureDue, state, timerDue_iff.mpr reached]), ?_⟩
  rw [eq]
  cases hasOwner : owner with
  | none =>
    rw [hasOwner] at circuit
    simp only [Option.isSome_none, Bool.false_eq_true, if_false]
    exact ⟨by rw [circuit], fun h => absurd rfl h, fun _ => by simp [circuit, unit],
      fun _ => ⟨by rw [circuit]; exact unitReq, kept⟩, own, by rw [← hasOwner]; exact ports, groups,
      fun d hd _ => others d hd, lines⟩
  | some q =>
    obtain ⟨groups', ports', lines'⟩ := requestUnit_frame s1 c .register
    simp only [Option.isSome_some, if_true]
    refine ⟨?_, fun _ => ⟨?_, fun ready => ?_⟩, fun unserved => ?_, fun h => by simp at h, ?_, ?_, ?_, ?_, ?_⟩
    · rw [requestUnit_register_owner apart1, circuit]
      exact hasOwner
    · exact (asked_requestUnit unit1 once apart1 .register).congr_left kept time par others apart
    · obtain ⟨u, attached⟩ := requestUnit_register_attached apart1 (served1.mpr ready)
      exact ⟨u, attached.congr (by rw [circuit]) (by rw [circuit]) (by rw [circuit]) (by rw [circuit]) time mode par⟩
    · have unserved1 := (not_congr served1).mpr (unserved.resolve_left (by simp))
      obtain ⟨none_, empty⟩ := not_or.mp unserved1
      obtain ⟨record, -⟩ := requestUnit_queued (c := c) (cls := .register) (by simpa using none_) (by simpa using empty)
      rw [record, circuit]
      exact ⟨rfl, rfl, unit, rfl, rfl⟩
    · rw [State.group, groups']
      exact own
    · intro p
      rw [← hasOwner, ← ports p]
      exact ports'.port p
    · exact fun x hx => by rw [State.group, groups']; exact groups x hx
    · intro d hd away
      rw [requestUnit_circuit_other hd (by rw [State.reclaimed_congr kept]; exact away), others d hd]
    · exact lines.trans lines'

end Sys2Proof.Machine

/-! PROOFS. The detachment of a circuit's unit, told once (R107, R109): what it leaves alone, what the queue head makes of the
unit, and the ends of waits that turn on it (R53, R70, R76, R77, R112). -/

namespace Sys2Proof.Machine

section Detach

variable {c d : Fin 96} {u : Fin 16} {s s1 t t' v : State}

/-! ## A circuit and its unit -/

/-- A circuit whose unit, if it has one, is attached to it, and which then waits in no queue. -/
structure Tied (c : Fin 96) (s : State) : Prop where
  linked : ∀ u, (s.circuit c).unit = some u → (s.unit u).circuit = some c
  unqueued : (s.circuit c).unit ≠ none → ¬ s.queued c

theorem PoolSound.tied (h : PoolSound s) (c : Fin 96) : Tied c s := by
  refine ⟨fun u hu => (h.linked u c).mpr hu, fun unit ⟨e, he, same⟩ => unit ?_⟩
  rw [← same]
  rcases List.mem_append.mp he with he | he
  · exact (h.registerEntries e he).2.1
  · exact (h.senderEntries e he).2.1

theorem State.queued_congr (pool : PoolKept s t) (d : Fin 96) : t.queued d ↔ s.queued d := by
  obtain ⟨-, reg, snd, -⟩ := pool
  rw [State.queued, State.queued, reg, snd]

/-- The tie is told by the circuit's unit and the pool. -/
theorem Tied.congr (h : Tied c s) (unit : (t.circuit c).unit = (s.circuit c).unit) (pool : PoolKept s t) : Tied c t := by
  refine ⟨fun u hu => ?_, fun some_ => ?_⟩
  · rw [State.unit, pool.1]
    exact h.linked u (unit ▸ hu)
  · rw [State.queued_congr pool]
    exact h.unqueued (unit ▸ some_)

/-- A change of one circuit that keeps its unit keeps the tie. -/
theorem Tied.only (h : Tied c s) (only : OnlyCircuit c s t) (unit : (t.circuit c).unit = (s.circuit c).unit) :
    Tied c t := h.congr unit only.2.2.1

/-! ## What a detachment leaves alone -/

/-- A unit that becomes available leaves alone every circuit that waits in no queue and every other unit. -/
theorem becomeAvailable_served (u : Fin 16) (s : State) :
    (∀ d, ¬ s.queued d → (becomeAvailable u s).circuit d = s.circuit d) ∧ UnitsKept [u] s (becomeAvailable u s) ∧
      (becomeAvailable u s).parked = s.parked ∧ (becomeAvailable u s).regQueue.Sublist s.regQueue ∧
      (becomeAvailable u s).sndQueue.Sublist s.sndQueue := by
  obtain ⟨-, -, eq⟩ | ⟨e, rest, hq, eq⟩ | ⟨e, rest, -, hq, eq⟩ := becomeAvailable_cases s u
  · rw [eq]
    exact ⟨fun _ _ => rfl, fun _ _ => rfl, rfl, .refl _, .refl _⟩
  · have a := attached u e.circuit .register { s with regQueue := rest }
    rw [← eq] at a
    refine ⟨fun d away => a.circuits d ?_, a.units, a.parked, ?_, a.sndQueue ▸ .refl _⟩
    · exact fun same => away ⟨e, by simp [hq], (List.mem_singleton.mp same).symm⟩
    · rw [a.regQueue, hq]
      exact List.sublist_cons_self _ _
  · have a := attached u e.circuit .sender { s with sndQueue := rest }
    rw [← eq] at a
    refine ⟨fun d away => a.circuits d ?_, a.units, a.parked, a.regQueue ▸ .refl _, ?_⟩
    · exact fun same => away ⟨e, by simp [hq], (List.mem_singleton.mp same).symm⟩
    · rw [a.sndQueue, hq]
      exact List.sublist_cons_self _ _

/-- What a detachment leaves alone, and the circuit that it leaves without a unit. -/
theorem detach_served (serves : (s.unit u).circuit = some c) (unqueued : ¬ s.queued c) :
    (detach u s).circuit c = { s.circuit c with unit := none } ∧
      (∀ d, d ≠ c → ¬ s.queued d → (detach u s).circuit d = s.circuit d) ∧ UnitsKept [u] s (detach u s) ∧
      (detach u s).parked = s.parked.filter (fun v => v ≠ u) ∧ (detach u s).regQueue.Sublist s.regQueue ∧
      (detach u s).sndQueue.Sublist s.sndQueue := by
  obtain ⟨-, others, circ, parked, reg, snd, -⟩ := unlinkUnit_spec s u
  have own : (unlinkUnit u s).circuit c = { s.circuit c with unit := none } := by rw [circ, if_pos serves]
  have other : ∀ d, d ≠ c → (unlinkUnit u s).circuit d = s.circuit d := fun d hd => by
    rw [circ, if_neg fun same => hd (Option.some.inj (serves ▸ same)).symm]
  have waits : ∀ d, (unlinkUnit u s).queued d ↔ s.queued d := fun d => by rw [State.queued, State.queued, reg, snd]
  have units : UnitsKept [u] s (unlinkUnit u s) := fun v hv => others v (by simpa using hv)
  unfold detach
  simp only
  split
  · exact ⟨own, fun d hd _ => other d hd, fun v hv => (State.modUnit_unit_ne _ u _ (by simpa using hv)).trans (units v hv),
      parked, by rw [State.modUnit_regQueue, reg], by rw [State.modUnit_sndQueue, snd]⟩
  · obtain ⟨circuits, units', parked', reg', snd'⟩ := becomeAvailable_served u (unlinkUnit u s)
    exact ⟨(circuits c (by rwa [waits])).trans own,
      fun d hd away => (circuits d (by rwa [waits])).trans (other d hd), units.trans units', parked'.trans parked,
      reg ▸ reg', snd ▸ snd'⟩

theorem UnitServed.refl_of_none (h : (s.circuit c).unit = none) : UnitServed c s s :=
  ⟨fun _ _ _ => rfl, fun _ _ => rfl, by rw [h]; simp, .refl _, .refl _⟩

/-- The detachment of the unit of a circuit. -/
theorem Tied.detachFrom (h : Tied c s) :
    (detachFrom c s).circuit c = { s.circuit c with unit := none } ∧ UnitServed c s (detachFrom c s) := by
  unfold Machine.detachFrom
  cases hu : (s.circuit c).unit with
  | none => exact ⟨congrArg (fun v => { s.circuit c with unit := v }) hu, .refl_of_none hu⟩
  | some u =>
    obtain ⟨own, others, units, parked, reg, snd⟩ := detach_served (h.linked u hu) (h.unqueued (by simp [hu]))
    refine ⟨own, others, fun v hv => units v ?_, ?_, reg, snd⟩
    · rw [hu] at hv
      simpa [eq_comm] using hv
    · rw [parked, hu]
      simp [eq_comm]

/-! ## Changes around a detachment -/

/-- What is served is served after a change of the circuit that keeps its unit. -/
theorem UnitServed.after (h : UnitServed c s1 t) (only : OnlyCircuit c s s1)
    (unit : (s1.circuit c).unit = (s.circuit c).unit) : UnitServed c s t := by
  obtain ⟨circuits, -, pool, -⟩ := only
  obtain ⟨others, units, parked, reg, snd⟩ := h
  have unit' : ∀ u, s1.unit u = s.unit u := fun u => by rw [State.unit, pool.1, State.unit]
  obtain ⟨-, reg', snd', parked'⟩ := id pool
  rw [unit] at units parked
  refine ⟨fun d hd away => ?_, fun u hu => (units u hu).trans (unit' u), parked' ▸ parked, reg' ▸ reg, snd' ▸ snd⟩
  exact (others d hd (by rwa [State.queued_congr pool])).trans (circuits d (by simpa using hd))

/-- What is served stays served as the circuit itself changes. -/
theorem UnitServed.before (h : UnitServed c s t) (only : OnlyCircuit c t t') : UnitServed c s t' := by
  obtain ⟨circuits, -, pool, -⟩ := only
  obtain ⟨others, units, parked, reg, snd⟩ := h
  obtain ⟨units', reg', snd', parked'⟩ := pool
  exact ⟨fun d hd away => (circuits d (by simpa using hd)).trans (others d hd away),
    fun u hu => by rw [State.unit, units']; exact units u hu, parked'.trans parked, reg'.symm ▸ reg, snd'.symm ▸ snd⟩

/-- What is served stays served as the circuit's request is withdrawn. -/
theorem UnitServed.withdraw (h : UnitServed c s t) : UnitServed c s (withdraw c t) := by
  obtain ⟨circuits, reg', snd', units', parked', -⟩ := withdraw_spec t c
  obtain ⟨others, units, parked, reg, snd⟩ := h
  exact ⟨fun d hd away => by rw [circuits, if_neg hd]; exact others d hd away,
    fun u hu => by rw [State.unit, units']; exact units u hu, parked'.trans parked,
    reg'.symm ▸ List.filter_sublist.trans reg, snd'.symm ▸ List.filter_sublist.trans snd⟩

theorem PoolKept.served (h : PoolKept s t) (circuits : CircuitsKept [c] s t) (none_ : (s.circuit c).unit = none) :
    UnitServed c s t := by
  obtain ⟨units, reg, snd, parked⟩ := h
  exact ⟨fun d hd _ => circuits d (by simpa using hd), fun u _ => by rw [State.unit, units, State.unit],
    by rw [none_, parked]; simp, reg ▸ .refl _, snd ▸ .refl _⟩

theorem ServedFrame.of_ports (served : UnitServed c s t) (groups : t.groups = s.groups) (ports : PortsKept s t)
    (lines : LinesKept s t) : ServedFrame c s t := ⟨served, groups, ports.portState, lines⟩

/-- A served frame with changes of the circuit before and after. -/
theorem ServedFrame.around (h : ServedFrame c s1 t) (first : OnlyCircuit c s s1)
    (unit : (s1.circuit c).unit = (s.circuit c).unit) (ports : PortStateKept s s1) (last : OnlyCircuit c t t')
    (ports' : PortStateKept t t') : ServedFrame c s t' := by
  obtain ⟨served, groups, state, lines⟩ := h
  exact ⟨(served.after first unit).before last, last.2.1.trans (groups.trans first.2.1), (ports.trans state).trans ports',
    (first.2.2.2.trans lines).trans last.2.2.2⟩

/-- The unit of a circuit detached, with the frame. -/
theorem Tied.detachFrom_frame (h : Tied c s) :
    (Machine.detachFrom c s).circuit c = { s.circuit c with unit := none } ∧ ServedFrame c s (Machine.detachFrom c s) ∧
      PortsKept s (Machine.detachFrom c s) := by
  obtain ⟨groups, ports, lines⟩ := Machine.detachFrom_frame s c
  obtain ⟨own, served⟩ := h.detachFrom
  exact ⟨own, .of_ports served groups ports lines, ports⟩

/-- The unit of a circuit detached and its request withdrawn. -/
theorem Tied.letGo (h : Tied c s) :
    (letGo c s).circuit c = { s.circuit c with unit := none, unitReq := none } ∧ ServedFrame c s (letGo c s) ∧
      PortsKept s (letGo c s) := by
  obtain ⟨own, ⟨served, groups, -, lines⟩, ports⟩ := h.detachFrom_frame
  obtain ⟨circuits, -, -, -, -, groups', ports', lines'⟩ := withdraw_spec (Machine.detachFrom c s) c
  refine ⟨?_, .of_ports served.withdraw (groups'.trans groups) (ports.trans ports') (lines.trans lines'),
    ports.trans ports'⟩
  rw [Machine.letGo, circuits, if_pos rfl, own]

/-! ## A call that is held (R75 to R77) -/

theorem Tied.holdCall (h : Tied c s) :
    (holdCall c s).circuit c = { s.circuit c with state := .inHeld, timer := none, unit := none } ∧
      ServedFrame c s (holdCall c s) ∧ PortsKept s (holdCall c s) := by
  have only : OnlyCircuit c s (s.modCircuit c fun k => { k with state := .inHeld, timer := none }) :=
    (OnlyCircuit.refl s c).modCircuit _
  have ports : PortsKept s (s.modCircuit c fun k => { k with state := .inHeld, timer := none }) := ⟨rfl, rfl⟩
  have unit : ((s.modCircuit c fun k => { k with state := .inHeld, timer := none }).circuit c).unit =
      (s.circuit c).unit := by simp
  obtain ⟨own, frame, ports'⟩ := (h.only only unit).detachFrom_frame
  refine ⟨?_, frame.around only unit ports.portState (.refl _ c) (PortStateKept.refl _), ports.trans ports'⟩
  rw [Machine.holdCall, own, State.modCircuit_circuit_self]

/-! ## Answer raised with its count (R53, R153) -/

theorem State.raiseAnswered_port (s : State) (c : Fin 96) (n : Nat) (q : Port) :
    (s.raiseAnswered c n).port q =
      if routedTo (s.circuit c).owner q then
        { (s.port q).withEvent (.circuit c) .answered with
          pend := (s.port q).pend.set (Item.circuit c).index
            { ((s.port q).pend[(Item.circuit c).index]).add .answered with discarded := n } }
      else s.port q := by
  unfold State.raiseAnswered routedTo
  cases h : (s.circuit c).owner with
  | none =>
    cases q <;> simp [State.raiseWith_port, PortRecord.join, PortRecord.setPend, PortRecord.withEvent,
      PortRecord.pendOf, EventSet.addAnswered, EventSet.add]
  | some p =>
    cases p <;> cases q <;> simp [State.raiseWith_port, PortRecord.join, PortRecord.setPend, PortRecord.withEvent,
      PortRecord.pendOf, EventSet.addAnswered, EventSet.add]

theorem OnlyCircuit.raiseAnswered (h : OnlyCircuit c s t) (d : Fin 96) (n : Nat) : OnlyCircuit c s (t.raiseAnswered d n) :=
  h.trans ⟨fun _ _ => by simp, by simp, by simp [PoolKept], by simp [LinesKept]⟩

end Detach

section Answer

variable {c : Fin 96} {s : State}

/-- An answer frees the sender, removes the digits not sent and is reported with their number (R53). -/
theorem Tied.recognizeAnswer (h : Tied c s) :
    (Machine.recognizeAnswer c s).circuit c =
        { s.circuit c with
          unit := none, unitReq := none, digits := (s.circuit c).digits.take (s.circuit c).sent, timer := none
          state := .outAnswered, answered := true, ansTime := s.timeBase } ∧
      (∀ p, (Machine.recognizeAnswer c s).port p =
        if routedTo (s.circuit c).owner p then
          { (s.port p).withEvent (.circuit c) .answered with
            pend := (s.port p).pend.set (Item.circuit c).index
              { ((s.port p).pend[(Item.circuit c).index]).add .answered with
                discarded := (s.circuit c).digits.length - (s.circuit c).sent } }
        else s.port p) ∧
      ServedFrame c s (Machine.recognizeAnswer c s) := by
  obtain ⟨own, ⟨served, groups, -, lines⟩, ports⟩ := h.letGo
  have eq : Machine.recognizeAnswer c s =
      ((Machine.letGo c s).modCircuit c fun r =>
        { r with digits := r.digits.take r.sent, timer := none, state := .outAnswered, answered := true
                 ansTime := (Machine.letGo c s).timeBase }).raiseAnswered c
        (((Machine.letGo c s).circuit c).digits.length - ((Machine.letGo c s).circuit c).sent) := rfl
  have time : (Machine.letGo c s).timeBase = s.timeBase := lines.2.1
  have port : ∀ p, (Machine.recognizeAnswer c s).port p =
      if routedTo (s.circuit c).owner p then
        { (s.port p).withEvent (.circuit c) .answered with
          pend := (s.port p).pend.set (Item.circuit c).index
            { ((s.port p).pend[(Item.circuit c).index]).add .answered with
              discarded := (s.circuit c).digits.length - (s.circuit c).sent } }
      else s.port p := fun p => by
    rw [eq, State.raiseAnswered_port, State.modCircuit_circuit_self, State.modCircuit_port, own, ports.port]
  have only : OnlyCircuit c (Machine.letGo c s) (Machine.recognizeAnswer c s) :=
    ((OnlyCircuit.refl _ c).modCircuit _).raiseAnswered c _
  refine ⟨?_, port, served.before only, only.2.1.trans groups, fun p => ?_, lines.trans only.2.2.2⟩
  · rw [eq, State.raiseAnswered_circuit, State.modCircuit_circuit_self, own, time]
  · rw [port]
    split <;> exact ⟨rfl, rfl, rfl, rfl, rfl, rfl, rfl, rfl⟩

end Answer

/-- Settles O13: the circuit's unit is let go, and the record of the call and the port tell the rest. -/
theorem answerIsRecognized : Obligations.AnswerIsRecognized := by
  unfold Obligations.AnswerIsRecognized
  intro c s awake sound state on long k
  have due : answerRecognizedDue c s = true := by
    have state' : (s.circuit c).state = .outSending ∨ (s.circuit c).state = .outWaitAnswer := state
    simp [answerRecognizedDue, state', leadOn_eq on, long]
  obtain ⟨record, port, frame⟩ := (sound.tied c).recognizeAnswer
  exact ⟨_, onCircuit_due awake due, by rw [record], by rw [record], by rw [record], by rw [record], by rw [record],
    by rw [record], by rw [record], by rw [record], by rw [record], port, frame⟩

/-- Settles O25: the parked sender is detached from its circuit, and an empty queue leaves it FREE or out of service. -/
theorem parkLimitFreesTheSender : Obligations.ParkLimitFreesTheSender := by
  unfold Obligations.ParkLimitFreesTheSender
  intro u c s awake sound parked come serves
  have unit : (s.circuit c).unit = some u := (sound.linked u c).mp serves
  obtain ⟨own, frame, ports⟩ := (sound.tied c).detachFrom_frame
  have eq : detachFrom c s = detach u s := by rw [detachFrom, unit]
  rw [eq] at own frame ports
  refine ⟨_, onUnit_due awake (by simp [parkLimitDue, parked, instantDue_iff.mpr come]), own, fun reg snd => ?_, frame,
    ports⟩
  obtain ⟨record, -⟩ := unlinkUnit_spec s u
  rw [detach_of_empty s u reg snd]
  split
  · next oos => simp [record, DigitUnit.detached]
  · next in_ => simpa [record, DigitUnit.detached] using in_

section SeizedTransition

variable {s : State} {c : Fin 96}

/-- In IN_SEIZED with the lead ON nothing is reached first (R6). -/
theorem reachedFirst_of_seized (sound : PoolSound s) (state : (s.circuit c).state = .inSeized)
    (on : (s.filter c).recCond = .on) : reachedFirst c s = s := by
  have lead := leadOn_eq on
  rw [reachedFirst_of_none, registerFirst_of_no_register]
  · intro u hu
    exact sound.no_register (by simp [state]) hu
  · simp [supervisionDue, seizureDue, farSeizeDue, ackMaxDue, answerRecognizedDue, clearBackDue, reanswerDue,
      clearForwardDue, state, lead]

/-- A break in IN_SEIZED of a TIMED_START group as the watch channels find it (R71). -/
theorem delivered_of_lost (sound : PoolSound s) (state : (s.circuit c).state = .inSeized)
    (mode : s.startMode c = .timedStart) (on : (s.filter c).recCond = .on) :
    delivered c s = loseDigits c (stamped c s) := by
  have unit : (s.circuit c).unit = none := sound.no_unit (by simp [state]) (by simp [state]) (by simp [state])
  have taken : supervisionOff c (s.recFor c) (s.heldOf c) (stamped c s) = loseDigits c (stamped c s) := by
    simp [supervisionOff, state, mode]
  obtain ⟨circuits, -⟩ := withdraw_spec (stamped c s) c
  rw [delivered_off on, taken, registerTransition_of_no_register]
  intro u hu
  have none_ : ((loseDigits c (stamped c s)).circuit c).unit = none := by
    simp [loseDigits, circuits, unit]
  rw [none_] at hu
  cases hu

end SeizedTransition

/-- Settles O20: a withdrawal, a held call, and the withdrawal that a break brings about. -/
theorem registerAndDigitWaitsEnd : Obligations.RegisterAndDigitWaitsEnd := by
  unfold Obligations.RegisterAndDigitWaitsEnd
  intro c s awake
  refine ⟨fun r state request cls wait => ?_, fun sound state reached => ?_, fun g sound state group mode on due => ?_⟩
  · obtain ⟨circuits, reg, snd, units, parked, groups, ports, lines⟩ := withdraw_spec s c
    have due : registerWaitDue c s = true := by
      simp [registerWaitDue, State.requestDue, state, request, cls, wait]
    refine ⟨_, onCircuit_due awake due, ?_, fun d hd => ?_, ?_, ?_, ?_, lines.raiseCircuit c _, ?_, ?_, fun p => ?_⟩
    · rw [congestRegister, State.raiseCircuit_circuit, circuits, if_pos rfl]
    · rw [congestRegister, State.raiseCircuit_circuit, circuits, if_neg (by simpa using hd)]
    · rw [congestRegister, State.raiseCircuit_groups, groups]
    · rw [congestRegister, State.raiseCircuit_units, units]
    · rw [congestRegister, State.raiseCircuit_parked, parked]
    · rw [congestRegister, State.raiseCircuit_regQueue, reg]
    · rw [congestRegister, State.raiseCircuit_sndQueue, snd]
    · rw [congestRegister, State.raiseCircuit_port, circuits, if_pos rfl, ports.port]
  · have raised : OnlyCircuit c s (s.raiseCircuit c .digitTimeout) := (OnlyCircuit.refl s c).raiseCircuit c _
    have unit : ((s.raiseCircuit c .digitTimeout).circuit c).unit = (s.circuit c).unit := by simp
    obtain ⟨own, frame, ports⟩ := ((sound.tied c).only raised unit).holdCall
    rw [State.raiseCircuit_circuit] at own
    refine ⟨_, onCircuit_due awake (by simp [digitTimeoutDue, state, timerDue_iff.mpr reached]), own, fun p => ?_,
      frame.around raised unit (.raiseCircuit s c _) (.refl _ c) (PortStateKept.refl _)⟩
    rw [timeOutDigits, ports.port, State.raiseCircuit_port]
  · obtain ⟨t, runs, watched⟩ := exec_delivered awake due
    have mode' : s.startMode c = .timedStart := by simp [State.startMode, group, mode]
    rw [reachedFirst_of_seized sound state on, delivered_of_lost sound state mode' on] at watched
    obtain ⟨circuits, reg, snd, units, parked, groups, ports, lines⟩ := withdraw_spec (stamped c s) c
    have others : OnlyCircuit c (withdraw c (stamped c s)) (loseDigits c (stamped c s)) :=
      ((OnlyCircuit.refl _ c).modCircuit _).raiseCircuit c _
    have record : (loseDigits c (stamped c s)).circuit c =
        { s.circuit c with state := .inHeld, timer := none, unitReq := none, held := s.thresholds c } := by
      simp [loseDigits, circuits]
    have event : CircuitEventBy (s.circuit c).owner c .digitsLost s (loseDigits c (stamped c s)) := fun p => by
      simp [loseDigits, State.raiseCircuit_port, circuits, ports.port]
    obtain ⟨units', reg', snd', parked'⟩ := others.2.2.1
    refine ⟨t, runs, by rw [watched.circuit, record], event.reports.quiet (watched.quiet c), fun d hd => ?_, ?_, ?_, ?_,
      ?_, ?_, ?_⟩
    · have other : d ≠ c := by simpa using hd
      rw [watched.circuit, others.1 d hd, circuits, if_neg other, stamped_circuit_ne other]
    · rw [watched.groups, others.2.1, groups, stamped_groups]
    · exact watched.pool.1.trans (units'.trans units)
    · exact watched.pool.2.2.2.trans (parked'.trans parked)
    · exact watched.pool.2.1.trans (reg'.trans reg)
    · exact watched.pool.2.2.1.trans (snd'.trans snd)
    · refine PortStateKept.trans (fun p => ?_) watched.portState
      rw [event p]
      split <;> exact ⟨rfl, rfl, rfl, rfl, rfl, rfl, rfl, rfl⟩

end Sys2Proof.Machine

/-! PROOFS. Calls that are cleared forward from either end (R57, R58, R83, R84), the slot link that breaks with them (R31), and
the orders of the owner that answer and release (R77, R79, R81). -/

namespace Sys2Proof.Machine

section Releases

variable {c : Fin 96} {s s1 t t' : State}

/-! ## The slot link (R31) -/

/-- The slots as a broken link leaves them. -/
theorem breakLink_linkBroken (c : Fin 96) (s : State) : LinkBroken c s (breakLink c s) := by
  unfold breakLink
  cases h : (s.circuit c).slot with
  | none => exact ⟨fun id call linked => by simp [h] at linked, fun _ _ => rfl⟩
  | some id =>
    refine ⟨fun x call linked seizing => ?_, fun x other => ?_⟩
    · obtain rfl := Option.some.inj (h.symm.trans linked)
      simp only [State.modCircuit_slot, seizing, State.slotPend, State.modCircuit_port]
      split
      · next pend => exact (State.setSlot_slot_self _ id _).trans (if_pos pend).symm
      · next pend => exact (State.setSlot_slot_self _ id _).trans (if_neg pend).symm
    · have apart : x ≠ id := fun same => other (by rw [h, same])
      simp only [State.modCircuit_slot]
      split
      · split <;> simp [State.setSlot_slot_ne, apart]
      all_goals simp

/-- Of the ports, a broken link writes the slots alone. -/
theorem breakLink_port (c : Fin 96) (s : State) (p : Port) :
    (breakLink c s).port p = { s.port p with slots := ((breakLink c s).port p).slots } := by
  have set : ∀ (r : State) id k, (r.setSlot id k).port p = { r.port p with slots := ((r.setSlot id k).port p).slots } := by
    intro r id k
    rw [State.setSlot_port]
    split <;> rfl
  unfold breakLink
  cases (s.circuit c).slot with
  | none => rfl
  | some id =>
    simp only
    split
    · split
      · rw [set]; simp
      · rw [set]; simp
    all_goals simp

/-- The link is broken as the state before it saw it, whose slots and their pending sets are the same. -/
theorem LinkBroken.after (h : LinkBroken c s1 t) (slot : (s1.circuit c).slot = (s.circuit c).slot)
    (slots : ∀ id, s1.slot id = s.slot id) (pend : ∀ id, s1.slotPend id = s.slotPend id) : LinkBroken c s t := by
  obtain ⟨own, others⟩ := h
  simp only [slot, slots, pend] at own others
  exact ⟨own, others⟩

theorem LinkBroken.before (h : LinkBroken c s t) (slots : ∀ id, t'.slot id = t.slot id) : LinkBroken c s t' := by
  obtain ⟨own, others⟩ := h
  exact ⟨fun id call linked seizing => (slots id).trans (own id call linked seizing),
    fun id other => (slots id).trans (others id other)⟩

theorem breakLink_only (c : Fin 96) (s : State) : OnlyCircuit c s (breakLink c s) := by
  obtain ⟨circuits, groups, pool, lines⟩ := breakLink_spec s c
  exact ⟨fun d hd => by rw [circuits, if_neg (by simpa using hd)], groups, pool, lines⟩

/-- A port that differs by its slots alone keeps its port state. -/
theorem PortStateKept.of_slots (h : ∀ p, t.port p = { s.port p with slots := (t.port p).slots }) : PortStateKept s t :=
  fun p => by rw [h p]; exact ⟨rfl, rfl, rfl, rfl, rfl, rfl, rfl, rfl⟩

/-! ## Clearing forward (R57 to R59, R169) -/

theorem OnlyPair.only {u : Fin 16} (h : OnlyPair c u s t) (pool : PoolKept s t) : OnlyCircuit c s t := by
  obtain ⟨circuits, -, groups, -, lines⟩ := h
  exact ⟨circuits, groups, pool, lines⟩

theorem releaseForward_pool (c : Fin 96) (s : State) : PoolKept s (releaseForward c s) := by
  unfold releaseForward
  simp only
  split <;> exact ⟨rfl, rfl, rfl, rfl⟩

theorem releaseForward_presentOn (c : Fin 96) (s : State) :
    ((releaseForward c s).circuit c).presentOn = s.leadOn c := by
  unfold releaseForward
  simp only
  split
  · simp
  · simp [State.startTimer_circuit, State.drive_circuit]

/-- A circuit without unit, request and slot link is released. -/
theorem clearedForward_release (unit : (s.circuit c).unit = none) (unitReq : (s.circuit c).unitReq = none)
    (slot : (s.circuit c).slot = none) : ClearedForward c s (releaseForward c s) := by
  obtain ⟨state, relTime, owner, unit', unitReq', slot', digits, sent, eon, -, rest⟩ := releaseForward_spec s c
  exact ⟨state, relTime, owner, unit'.trans unit, unitReq'.trans unitReq, slot'.trans slot, digits, sent, eon,
    releaseForward_presentOn c s, rest⟩

/-- A release is told from an earlier state by the call, the lead and the times. -/
theorem ClearedForward.congr {unit : Option (Fin 16)} {unitReq : Option UnitReq} {slot : Option SlotId} {cause : Cause}
    (h : ClearedForward c s1 t)
    (own : s1.circuit c =
      { s.circuit c with unit := unit, unitReq := unitReq, slot := slot, cause := cause })
    (lines : LinesKept s s1) (par : s1.par c .guardWait = s.par c .guardWait) : ClearedForward c s t := by
  obtain ⟨-, time, filters, -⟩ := lines
  have lead : s1.leadOn c = s.leadOn c := by rw [State.leadOn, State.filter, filters]; rfl
  simp only [ClearedForward, own, time, lead, par] at h ⊢
  exact h

/-- A clear-forward: the record that it leaves, the broken link, and what it leaves alone. -/
theorem Tied.clearForward (h : Tied c s) :
    ClearedForward c s (Machine.clearForward c s) ∧ ((Machine.clearForward c s).circuit c).cause = (s.circuit c).cause ∧
      LinkBroken c s (Machine.clearForward c s) ∧ ServedFrame c s (Machine.clearForward c s) ∧
      ∀ p, (Machine.clearForward c s).port p = { s.port p with slots := ((Machine.clearForward c s).port p).slots } := by
  obtain ⟨own, frame, ports⟩ := h.letGo
  have broken := breakLink_circuit_self c (Machine.letGo c s)
  rw [own] at broken
  have only := breakLink_only c (Machine.letGo c s)
  have last : OnlyCircuit c (breakLink c (Machine.letGo c s)) (releaseForward c (breakLink c (Machine.letGo c s))) :=
    (releaseForward_frame _ c 0).only (releaseForward_pool c _)
  obtain ⟨-, -, -, portsLast, -⟩ := releaseForward_frame (breakLink c (Machine.letGo c s)) c 0
  have port : ∀ p, (Machine.clearForward c s).port p = { s.port p with slots := ((Machine.clearForward c s).port p).slots } :=
    fun p => by
      rw [show (Machine.clearForward c s).port p = (breakLink c (Machine.letGo c s)).port p from portsLast.port p, breakLink_port,
        ports.port]
  have state : PortStateKept (Machine.letGo c s) (Machine.clearForward c s) := .of_slots fun p => by
    rw [port p, ports.port]
  have lines : LinesKept s (breakLink c (Machine.letGo c s)) := frame.2.2.2.trans only.2.2.2
  have par : (breakLink c (Machine.letGo c s)).par c .guardWait = s.par c .guardWait :=
    State.par_congr (by rw [broken]) (fun g => by rw [State.group, only.2.1, frame.2.1]; rfl) _
  refine ⟨?_, ?_, ?_, ?_, port⟩
  · have release := clearedForward_release (c := c) (s := breakLink c (Machine.letGo c s)) (by rw [broken])
      (by rw [broken]) (by rw [broken])
    exact release.congr broken lines par
  · obtain ⟨-, -, -, -, -, -, -, -, -, cause, -⟩ := releaseForward_spec (breakLink c (Machine.letGo c s)) c
    rw [show (Machine.clearForward c s) = releaseForward c (breakLink c (Machine.letGo c s)) from rfl, cause, broken]
  · exact ((breakLink_linkBroken c (Machine.letGo c s)).after (by rw [own]) (fun id => ports.slot id)
      (fun id => by rw [State.slotPend, ports.port]; rfl)).before fun id => portsLast.slot id
  · exact frame.around (.refl s c) rfl (PortStateKept.refl s) (only.trans last) state

/-- An automatic clear gives the call up. -/
theorem Tied.autoClear (h : Tied c s) (cause : Cause) (e : Event) : CallGivenUp c cause e s (autoClear c cause e s) := by
  have first : OnlyCircuit c s ((s.modCircuit c fun k => { k with cause := cause }).raiseCircuit c e) :=
    ((OnlyCircuit.refl s c).modCircuit _).raiseCircuit c e
  have own : ((s.modCircuit c fun k => { k with cause := cause }).raiseCircuit c e).circuit c =
      { s.circuit c with cause := cause } := by simp
  have port : ∀ p, ((s.modCircuit c fun k => { k with cause := cause }).raiseCircuit c e).port p =
      if routedTo (s.circuit c).owner p then (s.port p).withEvent (.circuit c) e else s.port p := fun p => by
    rw [State.raiseCircuit_port, State.modCircuit_circuit_self, State.modCircuit_port]
  have state : PortStateKept s ((s.modCircuit c fun k => { k with cause := cause }).raiseCircuit c e) := fun p => by
    rw [port p]
    split <;> exact ⟨rfl, rfl, rfl, rfl, rfl, rfl, rfl, rfl⟩
  obtain ⟨cleared, cause', broken, frame, port'⟩ := (h.only first (by rw [own])).clearForward
  refine ⟨cleared.congr (unit := (s.circuit c).unit) (unitReq := (s.circuit c).unitReq) (slot := (s.circuit c).slot)
      (cause := cause) own first.2.2.2 (State.par_congr (by rw [own]) (fun g => by simp) _), ?_, ?_,
    frame.around first (by rw [own]) state (.refl _ c) (PortStateKept.refl _), fun p => ?_⟩
  · rw [Machine.autoClear, cause', own]
  · refine broken.after (by rw [own]) (fun id => ?_) fun id => ?_
    · rw [State.slot, port]
      split <;> rfl
    · rw [State.slotPend, port]
      split
      · exact ((s.port id.port).withEvent_other (it := .circuit c) (x := .slot id.num) (by simp) e).1
      · rfl
  · rw [Machine.autoClear, port', port]

/-- What is served after the circuit's own request is withdrawn is served. -/
theorem UnitServed.after_withdraw (h : UnitServed c (Machine.withdraw c s) t) : UnitServed c s t := by
  obtain ⟨circuits, reg', snd', units', parked', -⟩ := withdraw_spec s c
  obtain ⟨others, units, parked, reg, snd⟩ := h
  have unit : ((Machine.withdraw c s).circuit c).unit = (s.circuit c).unit := by rw [circuits, if_pos rfl]
  rw [unit] at units parked
  refine ⟨fun d hd away => ?_, fun u hu => ?_, parked' ▸ parked, reg.trans (reg' ▸ List.filter_sublist),
    snd.trans (snd' ▸ List.filter_sublist)⟩
  · have stays : ¬ (Machine.withdraw c s).queued d := fun ⟨e, he, same⟩ => away ⟨e, by
      rw [reg', snd'] at he
      exact List.mem_append.mpr ((List.mem_append.mp he).imp List.mem_of_mem_filter List.mem_of_mem_filter), same⟩
    rw [others d hd stays, circuits, if_neg hd]
  · rw [units u hu, State.unit, units']
    rfl

/-- A call given up after its request is withdrawn is given up (R52). -/
theorem CallGivenUp.after_withdraw {cause : Cause} {e : Event} (h : CallGivenUp c cause e (withdraw c s) t) :
    CallGivenUp c cause e s t := by
  obtain ⟨circuits, -, -, -, -, groups', ports', lines'⟩ := withdraw_spec s c
  have own : (withdraw c s).circuit c = { s.circuit c with unitReq := none } := by rw [circuits, if_pos rfl]
  obtain ⟨cleared, cause_, broken, ⟨served, groups, state, lines⟩, port⟩ := h
  refine ⟨cleared.congr (unit := (s.circuit c).unit) (unitReq := none) (slot := (s.circuit c).slot)
      (cause := (s.circuit c).cause) own lines' (State.par_congr (by rw [own]) (fun g => by rw [State.group, groups']; rfl) _),
    cause_, broken.after (by rw [own]) (fun id => ports'.slot id) (fun id => by rw [State.slotPend, ports'.port]; rfl),
    ⟨served.after_withdraw, groups.trans groups', ports'.portState.trans state, lines'.trans lines⟩, fun p => ?_⟩
  have routed := port p
  rw [own, ports'.port] at routed
  exact routed

/-! ## ACK_MAX_REACHED where it is no glare (R43, R93) -/

theorem ackMaxDue_of (state : (s.circuit c).state = .outSeizing) (on : (s.filter c).recCond = .on)
    (phase : (s.circuit c).glarePhase ≠ .holding)
    (long : if (s.circuit c).presentOn then (s.circuit c).seizeAckMax ≤ elapsed s.timeBase (s.circuit c).seizeTime
      else (s.heldOf c).ackMax ≤ s.recFor c) : ackMaxDue c s = true := by
  simp [ackMaxDue, state, leadOn_eq on, phase, long]

theorem reachAckMax_of_line {g : Fin 8} (cleared : (s.circuit c).glarePhase ≠ .farCleared)
    (group : (s.circuit c).group = some g) (direction : (s.group g).direction ≠ .bothway) :
    reachAckMax c s = autoClear c .lineFault .seizeFailed s := by
  simp only [reachAckMax, if_neg cleared, group]
  split
  · next both => exact absurd both direction
  all_goals rfl

end Releases

/-- Settles O15: every expiry gives the call up by `autoClear`, with the cause and the event of R61. -/
theorem expiriesGiveTheCallUp : Obligations.ExpiriesGiveTheCallUp := by
  unfold Obligations.ExpiriesGiveTheCallUp
  intro c g s awake sound group k
  have tied := sound.tied c
  refine ⟨fun state waits reached => ?_, fun state reached => ?_, fun state reached => ?_,
    fun r request cls wait => ⟨fun state => ?_, fun state => ?_⟩, fun state on phase long =>
    ⟨fun cleared => ?_, fun cleared direction => ?_⟩⟩
  · have waits' : s.startMode c = .ackStart ∨ (s.circuit c).glarePhase = .holding := by
      rwa [show s.startMode c = (s.group g).startMode by simp [State.startMode, group]]
    exact ⟨_, onCircuit_due awake (by simp [ackWaitDue, show (s.circuit c).state = _ from state, waits',
      timerDue_iff.mpr reached]), tied.autoClear _ _⟩
  · exact ⟨_, onCircuit_due awake (by simp [stallDue, show (s.circuit c).state = _ from state, timerDue_iff.mpr reached]),
      tied.autoClear _ _⟩
  · exact ⟨_, onCircuit_due awake (by simp [cbLimitDue, show (s.circuit c).state = _ from state,
      timerDue_iff.mpr reached]), tied.autoClear _ _⟩
  · have state' : (s.circuit c).state = .outSeizing := state
    have given := ((sound.withdraw c).tied c).autoClear .senderCongestion .seizeFailed
    refine ⟨_, onCircuit_due awake (by simp [senderWaitDue, State.requestDue, state',
      show (s.circuit c).unitReq = _ from request, cls, wait]), ?_⟩
    rw [expireSenderWait, if_pos state']
    exact given.after_withdraw
  · have state' : (s.circuit c).state = .outSending := state
    have given := ((sound.withdraw c).tied c).autoClear .senderCongestion .autoCleared
    refine ⟨_, onCircuit_due awake (by simp [senderWaitDue, State.requestDue, state',
      show (s.circuit c).unitReq = _ from request, cls, wait]), ?_⟩
    rw [expireSenderWait, if_neg (by simp [state'])]
    exact given.after_withdraw
  · refine ⟨_, onCircuit_due awake (ackMaxDue_of state on phase long), ?_⟩
    rw [reachAckMax, if_pos cleared]
    exact tied.autoClear _ _
  · refine ⟨_, onCircuit_due awake (ackMaxDue_of state on phase long), ?_⟩
    rw [reachAckMax_of_line cleared group direction]
    exact tied.autoClear _ _

end Sys2Proof.Machine

/-! PROOFS. The orders of the owner that clear, hold, answer and take the answer away (R57, R77 to R81), and clear-forward with
the guard that it begins (R83, R84, R95). -/

namespace Sys2Proof.Machine

section Answer

variable {c : Fin 96} {s s1 t : State}

theorem Tied.orderStart (h : PoolSound s) (w : OrderWrite) (c : Fin 96) : Tied c (orderStart w s) := by
  obtain ⟨circuits, -, pool, -⟩ := orderStart_frame s w
  exact (h.tied c).congr (by rw [State.circuit, circuits]; rfl) pool

/-! ## ANSWER and CLEAR BACK (R79 to R81) -/

/-- Only the pulse, its end, the sep of the instant and the instant tell whether an answer is deferred. -/
theorem answerDeferral_congr (ackEnd : (t.circuit c).ackEnd = (s.circuit c).ackEnd)
    (ackPulse : (t.circuit c).ackPulse = (s.circuit c).ackPulse)
    (ackEndSep : (t.circuit c).ackEndSep = (s.circuit c).ackEndSep) (time : t.timeBase = s.timeBase)
    (par : t.par c .sep = s.par c .sep) : answerDeferral c t = answerDeferral c s := by
  simp only [answerDeferral, ackEnd, ackPulse, ackEndSep, time, par]

/-- A circuit as an ANSWER leaves it, deferred or shown. -/
def Circuit.answeredAs (k : Circuit) (now : Time) (deferral : Option Time) : Circuit :=
  match deferral with
  | some t => { k with state := .inAnswered, timer := none, unit := none, ansDue := some t }
  | none =>
    { k with state := .inAnswered, timer := none, unit := none, ansDue := none, answered := true, sup := .on
             ansTime := if k.answered then k.ansTime else now }

theorem showAnswer_circuit (c : Fin 96) (s : State) :
    (showAnswer c s).circuit c =
      { s.circuit c with
        ansDue := none, answered := true, sup := .on
        ansTime := if (s.circuit c).answered then (s.circuit c).ansTime else s.timeBase } := by
  simp [showAnswer, State.drive_circuit]

theorem Tied.answerCall (h : Tied c s) :
    (answerCall c s).circuit c = (s.circuit c).answeredAs s.timeBase (answerDeferral c s) ∧
      ServedFrame c s (answerCall c s) ∧ PortsKept s (answerCall c s) := by
  have only : OnlyCircuit c s (s.modCircuit c fun k => { k with state := .inAnswered, timer := none }) :=
    (OnlyCircuit.refl s c).modCircuit _
  have unit : ((s.modCircuit c fun k => { k with state := .inAnswered, timer := none }).circuit c).unit =
      (s.circuit c).unit := by simp
  obtain ⟨own, frame, ports⟩ := (h.only only unit).detachFrom_frame
  rw [State.modCircuit_circuit_self] at own
  unfold Machine.answerCall
  simp only
  generalize Machine.detachFrom c (s.modCircuit c fun k => { k with state := .inAnswered, timer := none }) = d at *
  have time : d.timeBase = s.timeBase := frame.2.2.2.2.1
  have deferral : answerDeferral c d = answerDeferral c s :=
    answerDeferral_congr (by rw [own]) (by rw [own]) (by rw [own]) time
      (State.par_congr (by rw [own]) (fun g => by rw [State.group, frame.2.1]; rfl) _)
  have whole {t : State} (last : OnlyCircuit c d t) (ports' : PortsKept d t) :
      ServedFrame c s t ∧ PortsKept s t :=
    ⟨frame.around only unit (PortStateKept.refl s) last ports'.portState, PortsKept.trans ⟨rfl, rfl⟩ (ports.trans ports')⟩
  rw [deferral]
  cases answerDeferral c s with
  | some due =>
    refine ⟨?_, whole ((OnlyCircuit.refl d c).modCircuit _) ⟨rfl, rfl⟩⟩
    rw [State.modCircuit_circuit_self, own]
    rfl
  | none =>
    refine ⟨?_, whole (((OnlyCircuit.refl d c).modCircuit _).drive _) ⟨rfl, rfl⟩⟩
    rw [showAnswer_circuit, own, time]
    rfl

theorem clearBackCall_circuit (c : Fin 96) (s : State) :
    (clearBackCall c s).circuit c =
      { s.circuit c with
        state := .inClearedBack, ansDue := none
        sup := if (s.circuit c).ackPulse = .running then (s.circuit c).sup else .off
        lastOff := if (s.circuit c).ackPulse ≠ .running ∧ (s.circuit c).sup = .on then
          some { start := s.timeBase, value := s.par c .sep } else (s.circuit c).lastOff } := by
  unfold clearBackCall
  simp only
  by_cases running : (s.circuit c).ackPulse = .running
  · simp [running]
  · simp [running, State.drive_circuit, State.par]

theorem clearBackCall_only (c : Fin 96) (s : State) :
    OnlyCircuit c s (clearBackCall c s) ∧ PortsKept s (clearBackCall c s) := by
  unfold clearBackCall
  simp only
  split
  · exact ⟨(OnlyCircuit.refl s c).modCircuit _, ⟨rfl, rfl⟩⟩
  · exact ⟨((OnlyCircuit.refl s c).modCircuit _).drive _, ⟨rfl, rfl⟩⟩

end Answer

/-- Settles O35: both orders act by their bodies in the state the order starts from. -/
theorem clearAndReleaseRegisterAct : Obligations.ClearAndReleaseRegisterAct := by
  unfold Obligations.ClearAndReleaseRegisterAct
  intro w ws s c sound hc owner k
  obtain ⟨-, circuit, -, -, -⟩ := orderStart_records s w
  have tied := Tied.orderStart sound w c
  refine ⟨fun ready state => ?_, fun ready state => ?_⟩
  · obtain ⟨cleared, cause, broken, frame, port⟩ := tied.clearForward
    have allowed : ((orderStart w s).circuit c).state.clearsForward = true := by
      rw [circuit]
      rcases state with state | state | state | state | state <;> simp [show (s.circuit c).state = _ from state,
        CircuitState.clearsForward]
    refine ⟨_, answers_of_body ready (ownedOrder_acts hc (by rw [circuit]; exact owner) allowed), cleared, ?_, broken,
      frame, fun p => ?_⟩
    · rw [cause, circuit]
    · rw [port]
      exact ⟨rfl, rfl⟩
  · obtain ⟨own, frame, ports⟩ := tied.holdCall
    rw [circuit] at own
    have body := ownedOrder_acts (allowed := fun st => st = .inReceiving) (act := holdCall) (p := w.port)
      (s := orderStart w s) hc (by rw [circuit]; exact owner) (by rw [circuit]; exact decide_eq_true state)
    exact ⟨_, answers_of_body ready body, own, frame, ports⟩

/-- Settles O36: an answer by its deferral, and what CLEAR BACK writes. -/
theorem answerAndClearBackAct : Obligations.AnswerAndClearBackAct := by
  unfold Obligations.AnswerAndClearBackAct
  intro w ws s c sound hc owner k
  obtain ⟨time, circuit, -, -, -⟩ := orderStart_records s w
  refine ⟨fun ready state => ?_, fun ready state => ?_⟩
  · have deferral : answerDeferral c (orderStart w s) = answerDeferral c s :=
      answerDeferral_congr (by rw [circuit]) (by rw [circuit]) (by rw [circuit]) time (orderStart_par w s c _)
    obtain ⟨own, frame, ports⟩ := (Tied.orderStart sound w c).answerCall
    rw [circuit, time, deferral] at own
    have allowed : ((orderStart w s).circuit c).state.answerable = true := by
      rw [circuit]
      rcases state with state | state | state <;> simp [show (s.circuit c).state = _ from state, CircuitState.answerable]
    refine ⟨_, answers_of_body ready (ownedOrder_acts hc (by rw [circuit]; exact owner) allowed), ?_, frame, ports⟩
    rw [own]
    have kept : ∀ d, ((s.circuit c).answeredAs s.timeBase d).state = .inAnswered ∧
        ((s.circuit c).answeredAs s.timeBase d).timer = none ∧ ((s.circuit c).answeredAs s.timeBase d).unit = none ∧
        ((s.circuit c).answeredAs s.timeBase d).digits = k.digits ∧
        ((s.circuit c).answeredAs s.timeBase d).owner = k.owner := fun d => by
      cases d <;> exact ⟨rfl, rfl, rfl, rfl, rfl⟩
    obtain ⟨state', timer, unit, digits, owner'⟩ := kept (answerDeferral c s)
    refine ⟨state', timer, unit, digits, owner', fun e at_ ackEnd pulse => ?_, fun e ackEnd pulse soon => ?_,
      fun past => ?_⟩
    · have deferred : answerDeferral c s = some (timeAfter e (s.par c .sep)) := by
        rcases pulse with pulse | pulse <;> simp [answerDeferral, show (s.circuit c).ackEnd = _ from ackEnd,
          show (s.circuit c).ackPulse = _ from pulse]
      rw [deferred]
      exact ⟨rfl, rfl, rfl⟩
    · have deferred : answerDeferral c s = some (timeAfter e (s.circuit c).ackEndSep) := by
        simp [answerDeferral, show (s.circuit c).ackEnd = _ from ackEnd, show (s.circuit c).ackPulse = _ from pulse]
        exact soon
      rw [deferred]
      exact ⟨rfl, rfl, rfl⟩
    · have shown : answerDeferral c s = none := by
        rcases past with none_ | none_ | ⟨ended, past⟩
        · simp [answerDeferral, show (s.circuit c).ackEnd = _ from none_]
        · cases ackEnd : (s.circuit c).ackEnd <;>
            simp [answerDeferral, ackEnd, show (s.circuit c).ackPulse = _ from none_]
        · cases ackEnd : (s.circuit c).ackEnd with
          | none => simp [answerDeferral, ackEnd]
          | some e =>
            have late := past e ackEnd
            simpa [answerDeferral, ackEnd, show (s.circuit c).ackPulse = _ from ended] using late
      rw [shown]
      exact ⟨rfl, rfl, rfl, rfl⟩
  · obtain ⟨only, ports⟩ := clearBackCall_only c (orderStart w s)
    have own := clearBackCall_circuit c (orderStart w s)
    rw [circuit, time, orderStart_par] at own
    have body := ownedOrder_acts (allowed := fun st => st = .inAnswered) (act := clearBackCall) (p := w.port)
      (s := orderStart w s) hc (by rw [circuit]; exact owner) (by rw [circuit]; exact decide_eq_true state)
    exact ⟨_, answers_of_body ready body, own, only, ports⟩

section ClearForwardIn

variable {c : Fin 96} {s t : State}

/-! ## Clear-forward of an incoming call (R83, R84, R95) -/

/-- The end of the acknowledgement pulse once it is cut or cancelled. -/
def Circuit.cutEnd (k : Circuit) (now : Time) : Option Time :=
  match k.ackPulse with
  | .running => some now
  | .scheduled _ => none
  | .none | .ended => k.ackEnd

theorem cutAckPulse_circuit (c : Fin 96) (s : State) :
    ∃ pulse sep, (cutAckPulse c s).circuit c =
      { s.circuit c with ackPulse := pulse, ackEnd := (s.circuit c).cutEnd s.timeBase, ackEndSep := sep } := by
  cases pulse : (s.circuit c).ackPulse with
  | running =>
    simp only [cutAckPulse, Circuit.cutEnd, pulse, State.modCircuit_circuit_self]
    exact ⟨_, _, rfl⟩
  | scheduled =>
    simp only [cutAckPulse, Circuit.cutEnd, pulse, State.modCircuit_circuit_self]
    exact ⟨_, _, rfl⟩
  | none | ended =>
    simp only [cutAckPulse, Circuit.cutEnd, pulse]
    exact ⟨(s.circuit c).ackPulse, (s.circuit c).ackEndSep, rfl⟩

theorem cutAckPulse_only (c : Fin 96) (s : State) : OnlyCircuit c s (cutAckPulse c s) ∧ PortsKept s (cutAckPulse c s) := by
  unfold cutAckPulse
  split
  · exact ⟨(OnlyCircuit.refl s c).modCircuit _, ⟨rfl, rfl⟩⟩
  · exact ⟨(OnlyCircuit.refl s c).modCircuit _, ⟨rfl, rfl⟩⟩
  · exact ⟨.refl s c, ⟨rfl, rfl⟩⟩
  · exact ⟨.refl s c, ⟨rfl, rfl⟩⟩

/-- The guard begins by the lead's condition and the gap that is left (R84): of the circuit the lead and the timer differ. -/
theorem beginGuard_circuit (c : Fin 96) (wasOn : Bool) (s : State) :
    ∃ sup lastOff timer, (beginGuard c wasOn s).circuit c =
        { s.circuit c with sup := sup, lastOff := lastOff, timer := timer } ∧
      (wasOn = true → sup = .off ∧ timer = some { start := s.timeBase, value := s.par c .sep }) ∧
      (wasOn = false → ∀ gap, (s.circuit c).lastOff = some gap → elapsed s.timeBase gap.start < gap.value →
        sup = (s.circuit c).sup ∧ timer = some gap) ∧
      (wasOn = false → (∀ gap, (s.circuit c).lastOff = some gap → gap.value ≤ elapsed s.timeBase gap.start) →
        sup = .on ∧ timer = some { start := s.timeBase, value := s.par c .guardSend }) := by
  unfold beginGuard
  cases wasOn with
  | true =>
    simp only [if_true]
    refine ⟨.off, ((s.drive c .off).circuit c).lastOff, some { start := s.timeBase, value := s.par c .sep }, ?_, fun _ => ⟨rfl, rfl⟩,
      fun h => by simp at h, fun h => by simp at h⟩
    simp [State.startTimer_circuit, State.drive_circuit]
  | false =>
    simp only [Bool.false_eq_true, if_false]
    cases remains : remainingGap c s with
    | some gap =>
      have found : (s.circuit c).lastOff = some gap ∧ elapsed s.timeBase gap.start < gap.value := by
        unfold remainingGap at remains
        split at remains
        · next k hk =>
          split at remains
          · next left =>
            obtain rfl := Option.some.inj remains
            exact ⟨hk, left⟩
          · cases remains
        · cases remains
      obtain ⟨last, left⟩ := found
      refine ⟨(s.circuit c).sup, (s.circuit c).lastOff, some gap, State.modCircuit_circuit_self s c _, fun h => by simp at h, fun _ k hk _ => ?_, fun _ past => ?_⟩
      · rw [last] at hk
        exact ⟨rfl, hk⟩
      · exact absurd left (Nat.not_lt.mpr (past gap last))
    | none =>
      refine ⟨.on, ((s.drive c .on).circuit c).lastOff, some { start := s.timeBase, value := s.par c .guardSend }, ?_, fun h => by simp at h,
        fun _ gap last left => ?_, fun _ _ => ⟨rfl, rfl⟩⟩
      · simp [beginGuardOn, State.startTimer_circuit, State.drive_circuit]
      · simp [remainingGap, last, left] at remains

theorem beginGuard_only (c : Fin 96) (wasOn : Bool) (s : State) :
    OnlyCircuit c s (beginGuard c wasOn s) ∧ PortsKept s (beginGuard c wasOn s) := by
  unfold beginGuard
  split
  · exact ⟨((OnlyCircuit.refl s c).drive _).startTimer _, ⟨rfl, rfl⟩⟩
  · split
    · exact ⟨(OnlyCircuit.refl s c).modCircuit _, ⟨rfl, rfl⟩⟩
    · exact ⟨((OnlyCircuit.refl s c).drive _).startTimer _, ⟨rfl, rfl⟩⟩

/-- The state in which the guard of a call that is cleared forward begins. -/
def State.guarding (s : State) (c : Fin 96) : State :=
  ((cutAckPulse c ((letGo c s).modCircuit c fun k => { k with timer := none, ansDue := none })).raiseCircuit c
    .clearedForward).modCircuit c fun k => { k with state := .inGuard }

theorem recognizeClearForward_eq (c : Fin 96) (s : State) :
    recognizeClearForward c s = beginGuard c (decide ((s.circuit c).sup = .on)) (s.guarding c) := rfl

theorem Tied.guarding (h : Tied c s) :
    (∃ pulse sep, (s.guarding c).circuit c =
      { s.circuit c with
        unit := none, unitReq := none, timer := none, ansDue := none, state := .inGuard, ackPulse := pulse
        ackEnd := (s.circuit c).cutEnd s.timeBase, ackEndSep := sep }) ∧
      ServedFrame c s (s.guarding c) ∧ CircuitEvent c .clearedForward s (s.guarding c) := by
  obtain ⟨own, frame, ports⟩ := h.letGo
  obtain ⟨only, kept⟩ := cutAckPulse_only c ((Machine.letGo c s).modCircuit c fun k => { k with timer := none, ansDue := none })
  obtain ⟨pulse, sep, cut⟩ := cutAckPulse_circuit c
    ((Machine.letGo c s).modCircuit c fun k => { k with timer := none, ansDue := none })
  have time : (Machine.letGo c s).timeBase = s.timeBase := frame.2.2.2.2.1
  rw [State.modCircuit_circuit_self, own, State.modCircuit_timeBase, time] at cut
  have event : CircuitEvent c .clearedForward s (s.guarding c) := fun p => by
    rw [State.guarding, State.modCircuit_port, State.raiseCircuit_port, cut, kept.port, State.modCircuit_port, ports.port]
  refine ⟨⟨pulse, sep, ?_⟩, ?_, event⟩
  · rw [State.guarding, State.modCircuit_circuit_self, State.raiseCircuit_circuit, cut]
    rfl
  · have last : OnlyCircuit c (Machine.letGo c s) (s.guarding c) :=
      ((((OnlyCircuit.refl _ c).modCircuit _).trans only).raiseCircuit c _).modCircuit _
    refine frame.around (.refl s c) rfl (PortStateKept.refl s) last fun p => ?_
    rw [event p, ports.port]
    split <;> exact ⟨rfl, rfl, rfl, rfl, rfl, rfl, rfl, rfl⟩

end ClearForwardIn

/-- Settles O22: the guard begins in the state that `State.guarding` tells. -/
theorem clearForwardBeginsTheGuard : Obligations.ClearForwardBeginsTheGuard := by
  unfold Obligations.ClearForwardBeginsTheGuard
  intro c s awake sound k state off long
  have clearable : (s.circuit c).state.clearable = true := by
    rcases state with state | state | state | state | state <;> simp [show (s.circuit c).state = _ from state,
      CircuitState.clearable]
  have due : clearForwardDue c s = true := by simp [clearForwardDue, clearable, leadOn_eq off, long]
  obtain ⟨⟨pulse, sep, record⟩, frame, event⟩ := (sound.tied c).guarding
  obtain ⟨sup, lastOff, timer, own, wasOn, gap, past⟩ :=
    beginGuard_circuit c (decide ((s.circuit c).sup = .on)) (s.guarding c)
  obtain ⟨only, ports⟩ := beginGuard_only c (decide ((s.circuit c).sup = .on)) (s.guarding c)
  have time : (s.guarding c).timeBase = s.timeBase := frame.2.2.2.2.1
  have par : ∀ p, (s.guarding c).par c p = s.par c p :=
    State.par_congr (by rw [record]) fun g => by rw [State.group, frame.2.1]; rfl
  rw [record] at own gap past
  rw [time, par] at wasOn past
  rw [time] at gap
  refine ⟨_, onCircuit_due awake due, ?_, ?_, ?_⟩
  · rw [recognizeClearForward_eq, own]
    exact ⟨rfl, rfl, rfl, rfl, rfl, rfl, rfl, rfl, rfl, rfl, fun on => wasOn (decide_eq_true on),
      fun k off last left => (gap (by simp [show (s.circuit c).sup = _ from off]) k last left).imp (·.trans off) id,
      fun off none_ => past (by simp [show (s.circuit c).sup = _ from off]) none_⟩
  · intro p
    rw [recognizeClearForward_eq, ports.port]
    exact event p
  · rw [recognizeClearForward_eq]
    exact frame.around (.refl s c) rfl (PortStateKept.refl s) only ports.portState

end Sys2Proof.Machine

/-! PROOFS. Entries to the seizing states (R19, R28, R41, R66): what the claims say of a circuit that enters OUT_SEIZING or
IN_PRESEIZE, and of the sender that it asks for. -/

namespace Sys2Proof.Machine

section Entries

variable {c d : Fin 96} {g : Fin 8} {u : Fin 16} {id : SlotId} {digits : List (Fin 10)} {eon : Bool}
  {s s1 t t' : State} {k : Group}

/-! ## A request for a sender (R41, R104) -/

/-- Of the circuit, a request for a sender writes the unit and the request. -/
theorem requestUnit_sender_circuit (apart : NoneParkedOn c s) :
    ∃ unit unitReq, (requestUnit c .sender s).circuit c = { s.circuit c with unit := unit, unitReq := unitReq } := by
  by_cases ready : s.freeUnit.isSome = true ∨ s.parked ≠ []
  · obtain ⟨u, s1, eq, -, -, own⟩ := requestUnit_served (cls := .sender) apart ready
    rw [eq, attach_sender_circuit, own]
    exact ⟨some u, none, rfl⟩
  · obtain ⟨none_, empty⟩ := not_or.mp ready
    obtain ⟨own, -⟩ := requestUnit_queued (c := c) (cls := .sender) (by simpa using none_) (by simpa using empty)
    rw [own]
    exact ⟨(s.circuit c).unit, _, rfl⟩

/-- A sender that is asked for where no digit may begin waits in WAIT_START, or the request stands in the queue. -/
theorem requestUnit_sender_waiting (apart : NoneParkedOn c s) (unit : (s.circuit c).unit = none)
    (waits : ¬ (s.circuit c).begins) :
    let t := requestUnit c .sender s
    (∃ u, (t.circuit c).unit = some u ∧ (t.circuit c).unitReq = none ∧ (t.unit u).circuit = some c ∧
        (t.unit u).state = .sender .waitStart) ∨
      ((t.circuit c).unit = none ∧ ({ circuit := c, time := s.timeBase } : QueueEntry) ∈ t.sndQueue ∧
        ∃ q, (t.circuit c).unitReq = some q ∧ q.cls = .sender ∧ q.time = s.timeBase) := by
  intro t
  by_cases ready : s.freeUnit.isSome = true ∨ s.parked ≠ []
  · obtain ⟨u, s1, eq, -, -, own⟩ := requestUnit_served (cls := .sender) apart ready
    have waits1 : ¬ (s1.circuit c).begins := by rwa [own]
    have a := attached_sender u c s1
    refine .inl ⟨u, ?_, ?_, ?_, ?_⟩
    · rw [show t = _ from eq]; exact a.unit
    · rw [show t = _ from eq]; exact a.unitReq
    · rw [show t = _ from eq]; exact a.circuit
    · rw [show t = _ from eq, attach_sender_unit_of_waiting waits1]; rfl
  · obtain ⟨none_, empty⟩ := not_or.mp ready
    obtain ⟨own, -, -, -, -, snd⟩ :=
      requestUnit_queued (c := c) (cls := .sender) (by simpa using none_) (by simpa using empty)
    refine .inr ⟨by rw [own]; exact unit, ?_,
      { cls := .sender, time := s.timeBase, wait := s.requestWait c .sender }, by rw [own], rfl, rfl⟩
    rw [show t.sndQueue = _ from snd]
    simp

/-! ## OUT_SEIZING (R19, R41) -/

/-- The state of a seizure before its call asks for a sender. -/
def State.seizing (s : State) (c : Fin 96) (id : SlotId) (digits : List (Fin 10)) (eon : Bool) : State :=
  let wait := match s.startMode c with
    | .ackStart => s.par c .ackWait
    | .timedStart => s.par c .prePause
  (s.modCircuit c fun k =>
    { k.startCall .outgoing (s.startMode c) with
      state := .outSeizing, digits := digits, eon := eon, owner := some id.port, slot := some id
      seizeTime := s.timeBase, timer := some { start := s.timeBase, value := wait }, presentOn := s.leadOn c
      seizeAckMax := s.par c .ackMax, minSeize := s.par c .minSeize, prePause := s.par c .prePause }).drive c .on

theorem enterOutSeizing_eq (c : Fin 96) (id : SlotId) (digits : List (Fin 10)) (eon : Bool) (s : State) :
    enterOutSeizing c id digits eon s =
      if digits = [] then s.seizing c id digits eon else requestUnit c .sender (s.seizing c id digits eon) := by
  simp only [enterOutSeizing, List.isEmpty_iff]
  rfl

theorem State.seizing_only (s : State) (c : Fin 96) (id : SlotId) (digits : List (Fin 10)) (eon : Bool) :
    OnlyCircuit c s (s.seizing c id digits eon) := ((OnlyCircuit.refl s c).modCircuit _).drive _

theorem State.seizing_ports (s : State) (c : Fin 96) (id : SlotId) (digits : List (Fin 10)) (eon : Bool) :
    PortsKept s (s.seizing c id digits eon) := ⟨rfl, rfl⟩

theorem State.seizing_loose (s : State) (c : Fin 96) (id : SlotId) (digits : List (Fin 10)) (eon : Bool) :
    ((s.seizing c id digits eon).circuit c).unit = (s.circuit c).unit ∧
      ((s.seizing c id digits eon).circuit c).unitReq = (s.circuit c).unitReq ∧
      ((s.seizing c id digits eon).circuit c).group = (s.circuit c).group ∧
      ((s.seizing c id digits eon).circuit c).state = .outSeizing := by
  simp [State.seizing, State.drive_circuit, Circuit.startCall]

theorem State.startMode_of_group (h : (s.circuit c).group = some g) : s.startMode c = (s.group g).startMode := by
  simp [State.startMode, h]

/-- A call's pool is told from an earlier state with the same pool. -/
theorem NoneParkedOn.congr (h : NoneParkedOn c s) (pool : PoolKept s t) : NoneParkedOn c t := fun u hu => by
  rw [State.unit, pool.1]
  exact h u (pool.2.2.2 ▸ hu)

/-- What `Seizes` says of the circuit but for its unit and request. -/
theorem State.seizing_record (group : (s.circuit c).group = some g) {unit : Option (Fin 16)} {unitReq : Option UnitReq}
    (record : t.circuit c = { (s.seizing c id digits eon).circuit c with unit := unit, unitReq := unitReq }) :
    let r := t.circuit c
    r.state = .outSeizing ∧ FreshCall .outgoing (s.group g).startMode r ∧ r.glarePhase = .none ∧ r.glareTime = none ∧
      r.ackEnd = none ∧ r.digits = digits ∧ r.eon = eon ∧ r.owner = some id.port ∧ r.slot = some id ∧
      r.seizeTime = s.timeBase ∧ r.sup = .on ∧ r.presentOn = s.leadOn c ∧ r.seizeAckMax = (s.group g).par .ackMax ∧
      r.minSeize = (s.group g).par .minSeize ∧ r.prePause = (s.group g).par .prePause ∧
      r.timer = some { start := s.timeBase, value :=
        match (s.group g).startMode with
        | .ackStart => (s.group g).par .ackWait
        | .timedStart => (s.group g).par .prePause } := by
  rw [record]
  cases mode : (s.group g).startMode <;>
    simp [State.seizing, State.drive_circuit, Circuit.startCall, FreshCall, State.startMode_of_group group,
      State.par_of_group group, mode]

/-- The entry to OUT_SEIZING as the claims state it. -/
theorem seizes_enterOutSeizing (group : (s.circuit c).group = some g) (unit : (s.circuit c).unit = none)
    (unitReq : (s.circuit c).unitReq = none) (apart : NoneParkedOn c s) (id : SlotId) (digits : List (Fin 10))
    (eon : Bool) : Seizes (s.group g) c id digits eon s (enterOutSeizing c id digits eon s) := by
  obtain ⟨unit1, unitReq1, -, state1⟩ := s.seizing_loose c id digits eon
  rw [unit] at unit1
  rw [unitReq] at unitReq1
  rw [enterOutSeizing_eq]
  by_cases none_ : digits = []
  · rw [if_pos none_]
    obtain ⟨h1, h2, h3, h4, h5, h6, h7, h8, h9, h10, h11, h12, h13, h14, h15, h16⟩ :=
      s.seizing_record (t := s.seizing c id digits eon) group rfl
    exact ⟨h1, h2, h3, h4, h5, h6, h7, h8, h9, h10, h11, h12, h13, h14, h15, h16, fun _ => ⟨unit1, unitReq1⟩,
      fun some_ => absurd none_ some_⟩
  · rw [if_neg none_]
    have apart1 := apart.congr (s.seizing_only c id digits eon).2.2.1
    obtain ⟨_, _, record⟩ := requestUnit_sender_circuit apart1
    obtain ⟨h1, h2, h3, h4, h5, h6, h7, h8, h9, h10, h11, h12, h13, h14, h15, h16⟩ := s.seizing_record group record
    exact ⟨h1, h2, h3, h4, h5, h6, h7, h8, h9, h10, h11, h12, h13, h14, h15, h16, fun h => absurd h none_,
      fun _ => requestUnit_sender_waiting apart1 unit1 (by simp [Circuit.begins, state1])⟩

/-- What the entry to OUT_SEIZING asks of the pool. -/
theorem senderAsked_enterOutSeizing (unit : (s.circuit c).unit = none) (apart : NoneParkedOn c s)
    (once : s.parked.Nodup) (id : SlotId) (digits : List (Fin 10)) (eon : Bool) :
    SenderAsked c digits s (enterOutSeizing c id digits eon s) := by
  obtain ⟨unit1, -, group1, -⟩ := s.seizing_loose c id digits eon
  obtain ⟨circuits, groups, pool, -, time, -⟩ := s.seizing_only c id digits eon
  rw [enterOutSeizing_eq]
  refine ⟨fun none_ => by rw [if_pos none_]; exact pool, fun some_ => ?_⟩
  rw [if_neg some_]
  have asked := (asked_requestUnit (unit1.trans unit) (pool.2.2.2 ▸ once) (apart.congr pool) .sender).congr_left pool time
    (State.par_congr group1 fun g => by rw [State.group, groups]; rfl) (fun d hd => circuits d (by simpa using hd)) apart
  exact ⟨asked, asked.unit_iff⟩

/-- The entry to OUT_SEIZING touches its own circuit and the reclaimed one, and with no digit its own alone. -/
theorem enterOutSeizing_circuit_other (other : d ≠ c) (kept : digits = [] ∨ s.reclaimed ≠ some d) (id : SlotId)
    (eon : Bool) : (enterOutSeizing c id digits eon s).circuit d = s.circuit d := by
  obtain ⟨circuits, -, pool, -⟩ := s.seizing_only c id digits eon
  rw [enterOutSeizing_eq]
  split
  · exact circuits d (by simpa using other)
  · next some_ =>
    rw [requestUnit_circuit_other other (by rw [State.reclaimed_congr pool]; exact kept.resolve_left some_)]
    exact circuits d (by simpa using other)

/-- A seizure is told by the circuit, the pool and the instant. -/
theorem Seizes.congr (h : Seizes k c id digits eon s t) (circuit : t'.circuit c = t.circuit c) (pool : PoolKept t t')
    (time : s1.timeBase = s.timeBase) (lead : s1.leadOn c = s.leadOn c) : Seizes k c id digits eon s1 t' := by
  have unit : ∀ u, t'.unit u = t.unit u := fun u => by rw [State.unit, pool.1, State.unit]
  simp only [Seizes, circuit, unit, pool.2.2.1, time, lead] at h ⊢
  exact h

theorem SenderAsked.congr_right (h : SenderAsked c digits s t) (circuits : t'.circuits = t.circuits)
    (pool : PoolKept t t') : SenderAsked c digits s t' := by
  obtain ⟨none_, some_⟩ := h
  refine ⟨fun empty => (none_ empty).trans pool, fun digit => ?_⟩
  obtain ⟨asked, served⟩ := some_ digit
  exact ⟨asked.congr_right circuits pool, by rw [State.circuit, circuits]; exact served⟩

theorem SenderAsked.congr_left (h : SenderAsked c digits s1 t) (pool : PoolKept s s1) (time : s1.timeBase = s.timeBase)
    (par : ∀ p, s1.par c p = s.par c p) (circuits : ∀ d, d ≠ c → s1.circuit d = s.circuit d) (apart : NoneParkedOn c s) :
    SenderAsked c digits s t := by
  obtain ⟨none_, some_⟩ := h
  refine ⟨fun empty => pool.trans (none_ empty), fun digit => ?_⟩
  obtain ⟨asked, served⟩ := some_ digit
  refine ⟨asked.congr_left pool time par circuits apart, ?_⟩
  rw [served, State.freeUnit_congr pool.1, pool.2.2.2]

/-! ## IN_PRESEIZE (R19, R66) -/

theorem State.modCircuit_par (s : State) (p : Param) {f : Circuit → Circuit}
    (group : (f (s.circuit c)).group = (s.circuit c).group) : (s.modCircuit c f).par c p = s.par c p :=
  State.par_congr (s := s) (t := s.modCircuit c f) (by rw [State.modCircuit_circuit_self, group]) (fun _ => rfl) p

theorem enterPreseize_circuit (c : Fin 96) (s : State) :
    (enterPreseize c s).circuit c =
      { (s.circuit c).startCall .incoming (s.startMode c) with
        state := .inPreseize, digits := [], eon := false, seizeTime := 0, sup := .off
        timer := some { start := s.timeBase, value := s.par c .szRec }
        lastOff := if (s.circuit c).sup = .on then some { start := s.timeBase, value := s.par c .sep }
          else (s.circuit c).lastOff } := by
  have mode : (leaveIdleList c s).startMode c = s.startMode c :=
    State.startMode_congr (by rw [leaveIdleList_circuit]) fun g => by rw [leaveIdleList_group]; split <;> rfl
  obtain ⟨-, ⟨-, time, -⟩, -⟩ := leaveIdleList_frame c s
  have par : ∀ p, (leaveIdleList c s).par c p = s.par c p := fun p => leaveIdleList_par p
  unfold enterPreseize
  simp only
  rw [State.drive_circuit, if_pos rfl, State.modCircuit_circuit_self, leaveIdleList_circuit, mode, time, par]
  rw [State.modCircuit_par (leaveIdleList c s) _ rfl, par, State.modCircuit_timeBase, time]
  simp [Circuit.startCall]

theorem preseizes_enterPreseize (group : (s.circuit c).group = some g) :
    Preseizes (s.group g) c s (enterPreseize c s) := by
  have own := enterPreseize_circuit c s
  rw [State.startMode_of_group group, State.par_of_group group .szRec] at own
  unfold Preseizes
  simp only
  rw [own]
  exact ⟨rfl, ⟨rfl, rfl, rfl, rfl, rfl, rfl, rfl, rfl, rfl⟩, rfl, rfl, rfl, rfl, rfl, rfl, rfl, rfl⟩

theorem enterPreseize_owner (c : Fin 96) (s : State) :
    ((enterPreseize c s).circuit c).owner = (s.circuit c).owner := by
  rw [enterPreseize_circuit]
  rfl

/-- Beside its circuit, a preseizure changes its group's idle list alone. -/
theorem enterPreseize_frame (group : (s.circuit c).group = some g) :
    (enterPreseize c s).group g = { s.group g with idle := (s.group g).idle.filter fun d => d ≠ c } ∧
      GroupsKept [g] s (enterPreseize c s) ∧ CircuitsKept [c] s (enterPreseize c s) ∧
      PoolKept s (enterPreseize c s) ∧ PortsKept s (enterPreseize c s) ∧ LinesKept s (enterPreseize c s) := by
  obtain ⟨pool, lines, ports⟩ := leaveIdleList_frame c s
  have only : OnlyCircuit c (leaveIdleList c s) (enterPreseize c s) := ((OnlyCircuit.refl _ c).modCircuit _).drive _
  have groups : ∀ x, (enterPreseize c s).group x = (leaveIdleList c s).group x := fun x => by
    rw [State.group, only.2.1]
    rfl
  refine ⟨by rw [groups, leaveIdleList_group, if_pos group], fun x hx => ?_,
    fun d hd => (only.1 d hd).trans (leaveIdleList_circuit d), pool.trans only.2.2.1, ports.trans ⟨rfl, rfl⟩,
    lines.trans only.2.2.2⟩
  rw [groups, leaveIdleList_group, if_neg]
  rw [group]
  simpa [eq_comm] using hx

theorem Preseizes.congr (h : Preseizes k c s t) (circuit : t'.circuit c = t.circuit c)
    (time : s1.timeBase = s.timeBase) : Preseizes k c s1 t' := by
  simp only [Preseizes, circuit, time] at h ⊢
  exact h

end Entries

/-! PROOFS. A circuit that becomes idle (R27, R28): where it goes, and what is left alone. -/

section BecomesIdle

variable {c d : Fin 96} {g : Fin 8} {u : Fin 16} {id : SlotId} {s s1 t t' : State}

/-! ## The places of R27 -/

/-- No waiting slot heads a group's queue. -/
def NoneWaits (g : Fin 8) (s : State) : Prop :=
  ∀ id rest, (s.group g).queue = id :: rest → ∀ call digits eon expiry, s.slot id ≠ .waiting call digits eon expiry

theorem placed_of_block (group : (s.circuit c).group = some g) (block : (s.circuit c).blockPending = true) :
    s.placeOf g c = .blocked ∧ s.ownerOf g c = none ∧
      becomesIdle c s = enterBlocked c (s.modCircuit c fun k => { k with blockPending := false }) := by
  simp [State.placeOf, State.ownerOf, becomesIdle, group, block]

theorem placed_of_waiting {rest : List SlotId} {call : SlotCall} {digits : List (Fin 10)} {eon : Bool} {expiry : Time}
    (group : (s.circuit c).group = some g) (block : (s.circuit c).blockPending = false)
    (queue : (s.group g).queue = id :: rest) (slot : s.slot id = .waiting call digits eon expiry) :
    s.placeOf g c = .outSeizing ∧ s.ownerOf g c = some id.port ∧
      becomesIdle c s = serveWaiting c g id call digits eon s := by
  simp [State.placeOf, State.ownerOf, becomesIdle, group, block, queue, slot]

theorem placed_of_none (group : (s.circuit c).group = some g) (block : (s.circuit c).blockPending = false)
    (none_ : NoneWaits g s) :
    s.placeOf g c = (if s.leadOn c ∧ (s.group g).direction.incomingCapable then .inPreseize else .idle) ∧
      s.ownerOf g c = none ∧ becomesIdle c s = enterIdle c g s := by
  cases queue : (s.group g).queue with
  | nil => simp [State.placeOf, State.ownerOf, becomesIdle, group, block, queue]
  | cons id rest =>
    cases slot : s.slot id with
    | waiting call digits eon expiry => exact absurd slot (none_ id rest queue call digits eon expiry)
    | free | seizing | outcome => simp [State.placeOf, State.ownerOf, becomesIdle, group, block, queue, slot]

/-- A waiting slot heads a group's queue, or none does. -/
theorem waits_or_none (g : Fin 8) (s : State) :
    NoneWaits g s ∨ ∃ id rest call digits eon expiry, (s.group g).queue = id :: rest ∧
      s.slot id = .waiting call digits eon expiry := by
  by_cases none_ : NoneWaits g s
  · exact .inl none_
  · simp only [NoneWaits, ne_eq, not_forall, not_not] at none_
    obtain ⟨id, rest, queue, call, digits, eon, expiry, slot⟩ := none_
    exact .inr ⟨id, rest, call, digits, eon, expiry, queue, slot⟩

/-! ## The tail of the idle list (R24, R27) -/

/-- The state of a circuit at the tail of its group's idle list, before a lead that is ON is looked at. -/
def State.idling (s : State) (c : Fin 96) (g : Fin 8) : State :=
  ((s.modCircuit c fun k => { k with state := .idle, timer := none }).drive c .off).modGroup g
    fun k => { k with idle := k.idle ++ [c] }

theorem enterIdle_eq (c : Fin 96) (g : Fin 8) (s : State) :
    enterIdle c g s =
      if s.leadOn c ∧ (s.group g).direction.incomingCapable then enterPreseize c (s.idling c g) else s.idling c g := by
  have direction : ((s.idling c g).group g).direction = (s.group g).direction := by simp [State.idling]
  rw [← direction]
  rfl

theorem State.idling_circuit (s : State) (c : Fin 96) (g : Fin 8) :
    (s.idling c g).circuit c =
      { s.circuit c with
        state := .idle, timer := none, sup := .off
        lastOff := if (s.circuit c).sup = .on then some { start := s.timeBase, value := s.par c .sep }
          else (s.circuit c).lastOff } := by
  simp [State.idling, State.drive_circuit, State.modCircuit_par]

theorem State.idling_frame (s : State) (c : Fin 96) (g : Fin 8) :
    (s.idling c g).group g = { s.group g with idle := (s.group g).idle ++ [c] } ∧ GroupsKept [g] s (s.idling c g) ∧
      CircuitsKept [c] s (s.idling c g) ∧ PoolKept s (s.idling c g) ∧ PortsKept s (s.idling c g) ∧
      LinesKept s (s.idling c g) := by
  refine ⟨by simp [State.idling], fun x hx => ?_, fun d hd => ?_, ⟨rfl, rfl, rfl, rfl⟩, ⟨rfl, rfl⟩,
    ⟨rfl, rfl, rfl, rfl, rfl, rfl, rfl⟩⟩
  · exact State.modGroup_group_ne _ g _ (by simpa using hx)
  · have other : d ≠ c := by simpa using hd
    simp [State.idling, State.drive_circuit, other, State.modCircuit_circuit_ne]

/-! ## The waiting slot (R28) -/

/-- The state in which the head slot of a queue has taken a circuit and its call begins. -/
def State.serving (s : State) (c : Fin 96) (g : Fin 8) (id : SlotId) (call : SlotCall) : State :=
  (s.modGroup g fun k => { k with queue := k.queue.tail }).setSlot id (.seizing call c)

theorem serveWaiting_eq (c : Fin 96) (g : Fin 8) (id : SlotId) (call : SlotCall) (digits : List (Fin 10)) (eon : Bool)
    (s : State) :
    serveWaiting c g id call digits eon s =
      (enterOutSeizing c id digits eon (s.serving c g id call)).raiseSlot id .seized := rfl

@[simp] theorem State.serving_circuit (s : State) (c x : Fin 96) (g : Fin 8) (id : SlotId) (call : SlotCall) :
    (s.serving c g id call).circuit x = s.circuit x := by simp [State.serving, State.setSlot]

@[simp] theorem State.serving_timeBase (s : State) (c : Fin 96) (g : Fin 8) (id : SlotId) (call : SlotCall) :
    (s.serving c g id call).timeBase = s.timeBase := by simp [State.serving, State.setSlot]

theorem State.serving_group (s : State) (c : Fin 96) (g x : Fin 8) (id : SlotId) (call : SlotCall) :
    (s.serving c g id call).group x = if x = g then { s.group g with queue := (s.group g).queue.tail } else s.group x := by
  simp [State.serving, State.setSlot, State.modGroup_group]

theorem State.serving_pool (s : State) (c : Fin 96) (g : Fin 8) (id : SlotId) (call : SlotCall) :
    PoolKept s (s.serving c g id call) := by simp [State.serving, State.setSlot, PoolKept]

theorem State.serving_lines (s : State) (c : Fin 96) (g : Fin 8) (id : SlotId) (call : SlotCall) :
    LinesKept s (s.serving c g id call) := by simp [State.serving, State.setSlot, LinesKept]

theorem PortStateKept.setSlot (s : State) (id : SlotId) (k : Slot) : PortStateKept s (s.setSlot id k) := fun p => by
  rw [State.setSlot_port]
  split <;> exact ⟨rfl, rfl, rfl, rfl, rfl, rfl, rfl, rfl⟩

theorem PortStateKept.raiseSlot (s : State) (id : SlotId) (e : Event) : PortStateKept s (s.raiseSlot id e) := fun p => by
  rw [State.raiseSlot_port]
  split <;> exact ⟨rfl, rfl, rfl, rfl, rfl, rfl, rfl, rfl⟩

/-- The slot's event is pending for its port. -/
theorem Reported.raiseSlot (s : State) (id : SlotId) (e : Event) :
    Reported id.port (.slot id.num) e (s.raiseSlot id e) := by
  rw [Reported, State.raiseSlot_port, if_pos rfl]
  exact ⟨by simp [PortRecord.withEvent, EventSet.has_add_self], by simp [PortRecord.mem_withEvent]⟩

/-- The circuit that the rule places is without owner, unit and request, and off the idle list (R27). -/
structure Resting (c : Fin 96) (g : Fin 8) (s : State) : Prop where
  group : (s.circuit c).group = some g
  owner : (s.circuit c).owner = none
  unit : (s.circuit c).unit = none
  unitReq : (s.circuit c).unitReq = none
  idle : c ∉ (s.group g).idle
  apart : NoneParkedOn c s
  once : s.parked.Nodup

/-- The head slot of the queue takes a circuit (R28). -/
theorem Resting.slotTakes {rest : List SlotId} {call : SlotCall} {digits : List (Fin 10)} {eon : Bool} {expiry : Time}
    (h : Resting c g s) (queue : (s.group g).queue = id :: rest) (slot : s.slot id = .waiting call digits eon expiry) :
    SlotTakes g c s (serveWaiting c g id call digits eon s) ∧
      ((serveWaiting c g id call digits eon s).circuit c).state = .outSeizing ∧
      ((serveWaiting c g id call digits eon s).circuit c).owner = some id.port := by
  have pool := s.serving_pool c g id call
  have apart : NoneParkedOn c (s.serving c g id call) := h.apart.congr pool
  have group : ((s.serving c g id call).circuit c).group = some g := by rw [State.serving_circuit]; exact h.group
  have unit : ((s.serving c g id call).circuit c).unit = none := by rw [State.serving_circuit]; exact h.unit
  have unitReq : ((s.serving c g id call).circuit c).unitReq = none := by rw [State.serving_circuit]; exact h.unitReq
  obtain ⟨groups', ports', -⟩ := enterOutSeizing_frame (s.serving c g id call) c id digits eon
  obtain ⟨-, -, filters, -⟩ := s.serving_lines c g id call
  have lead : s.leadOn c = (s.serving c g id call).leadOn c := by rw [State.leadOn, State.leadOn, State.filter, State.filter, filters]
  have params : ((s.serving c g id call).group g) = { s.group g with queue := rest } := by
    rw [State.serving_group, if_pos rfl, queue]
    rfl
  have par : ∀ p, (s.serving c g id call).par c p = s.par c p :=
    State.par_congr (by rw [State.serving_circuit]) fun x => by
      rw [State.serving_group]
      split
      · next same => rw [same]; rfl
      · rfl
  have seizes : Seizes (s.group g) c id digits eon s (serveWaiting c g id call digits eon s) := by
    have entered := seizes_enterOutSeizing group unit unitReq apart id digits eon
    rw [params] at entered
    rw [serveWaiting_eq]
    exact Seizes.congr (k := s.group g) entered (by simp) (by simp [PoolKept]) (s.serving_timeBase c g id call).symm lead
  refine ⟨fun x tail hq call' digits' eon' expiry' hs => ?_, ?_, ?_⟩
  · obtain ⟨rfl, rfl⟩ := List.cons.inj (queue.symm.trans hq)
    obtain ⟨rfl, rfl, rfl, rfl⟩ := Slot.waiting.inj (slot.symm.trans hs)
    refine ⟨?_, seizes, ?_, ?_, Reported.raiseSlot _ id .seized⟩
    · have kept : (serveWaiting c g id call digits eon s).slot id = (s.serving c g id call).slot id := by
        rw [serveWaiting_eq, State.slot, State.raiseSlot_port, if_pos rfl, ports'.port]
        rfl
      rw [kept]
      exact State.setSlot_slot_self _ id _
    · have asked := senderAsked_enterOutSeizing unit apart (pool.2.2.2 ▸ h.once) id digits eon
      rw [serveWaiting_eq]
      exact (asked.congr_right (by simp) (by simp [PoolKept])).congr_left pool (s.serving_timeBase c g id call) par
        (fun d _ => s.serving_circuit c d g id call) h.apart
    · rw [serveWaiting_eq, State.raiseSlot_group, State.group, groups']
      exact params
  · exact seizes.1
  · obtain ⟨-, -, -, -, -, -, -, owner, -⟩ := seizes
    exact owner

/-- Where a circuit that rests is placed (R27). -/
theorem Resting.placed (h : Resting c g s) : PlacedAs g c s (becomesIdle c s) := by
  cases block : (s.circuit c).blockPending with
  | true =>
    obtain ⟨place, owner, eq⟩ := placed_of_block h.group block
    have record := enterBlocked_circuit (s.modCircuit c fun k => { k with blockPending := false }) c c
    rw [if_pos rfl, State.modCircuit_circuit_self] at record
    rw [eq]
    refine ⟨by rw [record, place], by rw [record, owner]; exact h.owner, fun _ => ?_, ?_, ?_, ?_⟩
    · rw [record]
      refine ⟨⟨rfl, rfl, rfl, rfl, rfl, rfl, rfl, rfl, rfl, rfl, rfl, rfl, rfl, rfl⟩, rfl, rfl, ?_, rfl,
        ⟨rfl, rfl, rfl, rfl⟩⟩
      have par : (s.modCircuit c fun k => { k with blockPending := false }).par c .szRec = (s.group g).par .szRec :=
        (s.modCircuit_par _ rfl).trans (State.par_of_group h.group _)
      rw [par]
      rfl
    all_goals exact fun other => by simp [place] at other
  | false =>
    obtain none_ | ⟨id, rest, call, digits, eon, expiry, queue, slot⟩ := waits_or_none g s
    · obtain ⟨place, owner, eq⟩ := placed_of_none h.group block none_
      rw [eq, enterIdle_eq]
      have record := s.idling_circuit c g
      obtain ⟨own, -, -, pool, -, -, time, -⟩ := s.idling_frame c g
      split
      · next on =>
        rw [if_pos on] at place
        have group : ((s.idling c g).circuit c).group = some g := by rw [record]; exact h.group
        have entered := preseizes_enterPreseize group
        obtain ⟨own', -, -, pool', -⟩ := enterPreseize_frame group
        rw [own] at entered own'
        refine ⟨by rw [place]; exact entered.1, ?_, ?_, ?_, fun _ => ⟨?_, ?_, pool.trans pool'⟩, ?_⟩
        · rw [enterPreseize_owner, record, owner]
          exact h.owner
        · exact fun other => by simp [place] at other
        · exact fun other => by simp [place] at other
        · exact Preseizes.congr (k := s.group g) entered rfl time.symm
        · rw [own']
          have fresh : ((s.group g).idle ++ [c]).filter (fun d => d ≠ c) = (s.group g).idle := by
            have kept : (s.group g).idle.filter (fun d => d ≠ c) = (s.group g).idle :=
              List.filter_eq_self.mpr fun d hd => decide_eq_true fun same => h.idle (same ▸ hd)
            rw [List.filter_append, kept]
            simp
          rw [fresh]
        · exact fun other => by simp [place] at other
      · next off =>
        rw [if_neg off] at place
        refine ⟨by rw [place, record], by rw [record, owner]; exact h.owner, ?_, ?_, ?_, fun _ => ?_⟩
        · exact fun other => by simp [place] at other
        · exact fun other => by simp [place] at other
        · exact fun other => by simp [place] at other
        · rw [record]
          exact ⟨⟨rfl, rfl, rfl, rfl, rfl, rfl, rfl, rfl, rfl, rfl, rfl, rfl, rfl, rfl⟩, rfl, rfl, own, pool⟩
    · obtain ⟨place, owner, eq⟩ := placed_of_waiting h.group block queue slot
      obtain ⟨takes, state, owner'⟩ := h.slotTakes queue slot
      rw [eq]
      refine ⟨by rw [state, place], by rw [owner', owner], ?_, fun _ => takes, ?_, ?_⟩
      all_goals exact fun other => by simp [place] at other

/-- What the rule leaves alone (R27). -/
theorem becomesIdle_frame (group : (s.circuit c).group = some g) : PlacedFrame g c s (becomesIdle c s) := by
  have lines : LinesKept s (becomesIdle c s) := (LinesKept.refl s).becomesIdle c
  suffices h : (∀ d, d ≠ c → s.reclaimed ≠ some d → (becomesIdle c s).circuit d = s.circuit d) ∧
      GroupsKept [g] s (becomesIdle c s) ∧ NoCircuitEvent c s (becomesIdle c s) ∧ PortStateKept s (becomesIdle c s) by
    obtain ⟨circuits, groups, quiet, ports⟩ := h
    exact ⟨circuits, groups, quiet, ports, lines⟩
  cases block : (s.circuit c).blockPending with
  | true =>
    obtain ⟨-, -, eq⟩ := placed_of_block group block
    have only : OnlyCircuit c s (becomesIdle c s) := by
      rw [eq]
      exact (((OnlyCircuit.refl s c).modCircuit _).modCircuit _).drive _
    have ports : PortsKept s (becomesIdle c s) := by
      rw [eq]
      exact ⟨rfl, rfl⟩
    exact ⟨fun d hd _ => only.1 d (by simpa using hd), fun x _ => by rw [State.group, only.2.1]; rfl, .of_ports ports,
      ports.portState⟩
  | false =>
    obtain none_ | ⟨id, rest, call, digits, eon, expiry, queue, slot⟩ := waits_or_none g s
    · obtain ⟨-, -, eq⟩ := placed_of_none group block none_
      have record := s.idling_circuit c g
      obtain ⟨-, groups, circuits, -, ports, -⟩ := s.idling_frame c g
      rw [eq, enterIdle_eq]
      split
      · obtain ⟨-, groups', circuits', -, ports', -⟩ :=
          enterPreseize_frame (g := g) (s := s.idling c g) (c := c) (by rw [record]; exact group)
        exact ⟨fun d hd _ => (circuits' d (by simpa using hd)).trans (circuits d (by simpa using hd)),
          fun x hx => (groups' x hx).trans (groups x hx), .of_ports (ports.trans ports'),
          (ports.trans ports').portState⟩
      · exact ⟨fun d hd _ => circuits d (by simpa using hd), groups, .of_ports ports, ports.portState⟩
    · obtain ⟨-, -, eq⟩ := placed_of_waiting group block queue slot
      obtain ⟨groups', ports', -⟩ := enterOutSeizing_frame (s.serving c g id call) c id digits eon
      have pool := s.serving_pool c g id call
      rw [eq, serveWaiting_eq]
      refine ⟨fun d hd away => ?_, fun x hx => ?_, ?_, ?_⟩
      · rw [State.raiseSlot_circuit, enterOutSeizing_circuit_other hd (.inr (by rwa [State.reclaimed_congr pool])),
          State.serving_circuit]
      · rw [State.raiseSlot_group, State.group, groups']
        exact (s.serving_group c g x id call).trans (if_neg (by simpa using hx))
      · have slots : NoCircuitEvent c s (s.serving c g id call) :=
          (NoCircuitEvent.of_same fun p => by rw [State.modGroup_port]; exact ⟨rfl, rfl⟩).quiet (.setSlot _ c id _)
        exact (slots.quiet (.of_ports ports')).quiet (.raiseSlot _ c id _)
      · have slots : PortStateKept s (s.serving c g id call) :=
          PortStateKept.trans (fun p => by rw [State.modGroup_port]; exact ⟨rfl, rfl, rfl, rfl, rfl, rfl, rfl, rfl⟩)
            (.setSlot _ id _)
        exact (slots.trans ports'.portState).trans (.raiseSlot _ id _)

end BecomesIdle

end Sys2Proof.Machine

/-! PROOFS. Circuits that return to idle (R27): the end of a preseizure (R67), the release guards (R59, R170), GUARD_END (R84),
UNBLOCK and RESET CIRCUIT (R166, R171). -/

namespace Sys2Proof.Machine

section Standing

variable {c d : Fin 96} {g : Fin 8} {s s1 t t' : State}

/-! ## A circuit as the rule finds it -/

/-- Two states that agree in all that R27 and R28 look at as they place a circuit. -/
structure Standing (g : Fin 8) (c : Fin 96) (s s1 : State) : Prop where
  block : (s1.circuit c).blockPending = (s.circuit c).blockPending
  member : (s1.circuit c).group = (s.circuit c).group
  call : CallKept (s.circuit c) (s1.circuit c)
  groups : s1.groups = s.groups
  slots : ∀ id, s1.slot id = s.slot id
  pool : PoolKept s s1
  time : s1.timeBase = s.timeBase
  lead : s1.leadOn c = s.leadOn c
  circuits : ∀ d, d ≠ c → s1.circuit d = s.circuit d
  apart : NoneParkedOn c s

theorem CallKept.trans {k r r' : Circuit} (h : CallKept k r) (h' : CallKept r r') : CallKept k r' := by
  obtain ⟨e1, e2, e3, e4, e5, e6, e7, e8, e9, e10, e11, e12, e13, e14⟩ := h
  obtain ⟨k1, k2, k3, k4, k5, k6, k7, k8, k9, k10, k11, k12, k13, k14⟩ := h'
  exact ⟨k1.trans e1, k2.trans e2, k3.trans e3, k4.trans e4, k5.trans e5, k6.trans e6, k7.trans e7, k8.trans e8,
    k9.trans e9, k10.trans e10, k11.trans e11, k12.trans e12, k13.trans e13, k14.trans e14⟩

theorem Standing.group (h : Standing g c s s1) (x : Fin 8) : s1.group x = s.group x := by
  rw [State.group, h.groups, State.group]

theorem Standing.placeOf (h : Standing g c s s1) : s1.placeOf g c = s.placeOf g c := by
  simp only [State.placeOf, h.block, h.lead, h.group, h.slots]

theorem Standing.ownerOf (h : Standing g c s s1) : s1.ownerOf g c = s.ownerOf g c := by
  simp only [State.ownerOf, h.block, h.group, h.slots]

theorem Standing.slotTakes (h : Standing g c s s1) (takes : SlotTakes g c s1 t) : SlotTakes g c s t := by
  intro id rest queue call digits eon expiry slot
  rw [← h.group] at queue
  rw [← h.slots] at slot
  obtain ⟨seized, seizes, asked, own, reported⟩ := takes id rest queue call digits eon expiry slot
  rw [h.group] at seizes own
  exact ⟨seized, seizes.congr rfl (PoolKept.refl t) h.time.symm h.lead.symm, asked.congr_left h.pool h.time
    (State.par_congr h.member fun x => by rw [h.group]) h.circuits h.apart, own, reported⟩

/-- A circuit is placed as the earlier state tells. -/
theorem Standing.placed (h : Standing g c s s1) (placed : PlacedAs g c s1 t) : PlacedAs g c s t := by
  obtain ⟨place, owner, blocked, seizing, preseize, idle⟩ := placed
  rw [h.placeOf] at place blocked seizing preseize idle
  rw [h.ownerOf] at owner
  refine ⟨place, owner, fun at_ => ?_, fun at_ => h.slotTakes (seizing at_), fun at_ => ?_, fun at_ => ?_⟩
  · obtain ⟨call, block, sup, timer, own, pool⟩ := blocked at_
    rw [h.lead, h.time, h.group] at timer
    exact ⟨h.call.trans call, block, sup, timer, own.trans (h.group g), h.pool.trans pool⟩
  · obtain ⟨preseizes, own, pool⟩ := preseize at_
    rw [h.group] at preseizes
    exact ⟨preseizes.congr rfl h.time.symm, own.trans (h.group g), h.pool.trans pool⟩
  · obtain ⟨call, sup, timer, own, pool⟩ := idle at_
    rw [h.group] at own
    exact ⟨h.call.trans call, sup, timer, own, h.pool.trans pool⟩

/-- The watch channels change nothing of where a circuit is placed. -/
theorem PlacedAs.watched (h : PlacedAs g c s t) (w : Watched t t') : PlacedAs g c s t' := by
  obtain ⟨place, owner, blocked, seizing, preseize, idle⟩ := h
  have own := w.circuit c
  refine ⟨by rw [own]; exact place, by rw [own]; exact owner, fun at_ => ?_, fun at_ => ?_, fun at_ => ?_, fun at_ => ?_⟩
  · obtain ⟨call, block, sup, timer, group, pool⟩ := blocked at_
    rw [own]
    exact ⟨call, block, sup, timer, (w.group g).trans group, pool.trans w.pool⟩
  · intro id rest queue call digits eon expiry slot
    obtain ⟨seized, seizes, asked, group, reported⟩ := seizing at_ id rest queue call digits eon expiry slot
    exact ⟨(w.slot id).trans seized, seizes.congr own w.pool rfl rfl, asked.congr_right w.circuits w.pool,
      (w.group g).trans group, w.reported (by simp) reported⟩
  · obtain ⟨preseizes, group, pool⟩ := preseize at_
    exact ⟨preseizes.congr own rfl, (w.group g).trans group, pool.trans w.pool⟩
  · obtain ⟨call, sup, timer, group, pool⟩ := idle at_
    rw [own]
    exact ⟨call, sup, timer, (w.group g).trans group, pool.trans w.pool⟩

/-- What a circuit becoming idle leaves alone, told from before a change of the circuit. -/
theorem PlacedFrame.after (h : PlacedFrame g c s1 t) (only : OnlyCircuit c s s1) (quiet : NoCircuitEvent c s s1)
    (ports : PortStateKept s s1) : PlacedFrame g c s t := by
  obtain ⟨circuits, groups, pool, lines⟩ := only
  obtain ⟨circuits', groups', quiet', ports', lines'⟩ := h
  refine ⟨fun d hd away => ?_, fun x hx => ?_, quiet.quiet quiet', ports.trans ports', lines.trans lines'⟩
  · rw [circuits' d hd (by rwa [State.reclaimed_congr pool]), circuits d (by simpa using hd)]
  · rw [groups' x hx, State.group, groups]
    rfl

/-- A circuit that is apart rests once its owner is none. -/
theorem Apart.resting (h : Apart c s) (sound : PoolSound s) (only : OnlyCircuit c s s1)
    (member : (s1.circuit c).group = some g) (owner : (s1.circuit c).owner = none)
    (unit : (s1.circuit c).unit = (s.circuit c).unit) (unitReq : (s1.circuit c).unitReq = (s.circuit c).unitReq) :
    Resting c g s1 where
  group := member
  owner := owner
  unit := unit.trans h.unit
  unitReq := unitReq.trans h.unitReq
  idle := by
    rw [State.group, only.2.1]
    exact h.idle g
  apart := (sound.noneParkedOn h.unit).congr only.2.2.1
  once := only.2.2.1.2.2.2 ▸ sound.parkedOnce

/-- A change of a circuit alone, which keeps the call and the block, leaves the circuit's standing. -/
theorem Standing.of_only (only : OnlyCircuit c s s1) (block : (s1.circuit c).blockPending = (s.circuit c).blockPending)
    (member : (s1.circuit c).group = (s.circuit c).group) (call : CallKept (s.circuit c) (s1.circuit c))
    (slots : ∀ id, s1.slot id = s.slot id) (apart : NoneParkedOn c s) : Standing g c s s1 where
  block := block
  member := member
  call := call
  groups := only.2.1
  slots := slots
  pool := only.2.2.1
  time := only.2.2.2.2.1
  lead := by
    obtain ⟨-, -, -, -, -, filters, -⟩ := only
    rw [State.leadOn, State.leadOn, State.filter, State.filter, filters]
  circuits := fun d hd => only.1 d (by simpa using hd)
  apart := apart

/-- A circuit that rests after a change of its record alone becomes idle. -/
theorem Resting.becameIdle (h : Resting c g s1) (only : OnlyCircuit c s s1) (ports : PortsKept s s1)
    (block : (s1.circuit c).blockPending = (s.circuit c).blockPending)
    (member : (s1.circuit c).group = (s.circuit c).group) (call : CallKept (s.circuit c) (s1.circuit c))
    (apart : NoneParkedOn c s) : BecameIdle g c s (becomesIdle c s1) :=
  ⟨(Standing.of_only only block member call (fun id => ports.slot id) apart).placed h.placed,
    (becomesIdle_frame h.group).after only (.of_ports ports) ports.portState⟩

/-- The state of a circuit that has been placed is not IN_RECEIVING. -/
theorem PlacedAs.not_receiving (h : PlacedAs g c s t) : (t.circuit c).state ≠ .inReceiving := by
  obtain ⟨place, -⟩ := h
  rw [place, State.placeOf]
  split
  · simp
  · dsimp only
    split
    · split <;> simp
    · split
      · simp
      all_goals split <;> simp

end Standing

/-- Settles O23: the guard's end clears the owner, and R27 places the circuit. -/
theorem guardEndMakesTheCircuitIdle : Obligations.GuardEndMakesTheCircuitIdle := by
  unfold Obligations.GuardEndMakesTheCircuitIdle
  intro c g s awake sound state on reached member
  have apart := sound.apart_of_resting (c := c) (.inr (.inr (.inl state)))
  have only : OnlyCircuit c s ((s.drive c .off).modCircuit c fun k => { k with owner := none, timer := none }) :=
    ((OnlyCircuit.refl s c).drive _).modCircuit _
  have record : ((s.drive c .off).modCircuit c fun k => { k with owner := none, timer := none }).circuit c =
      { (s.drive c .off).circuit c with owner := none, timer := none } := State.modCircuit_circuit_self _ c _
  have driven := State.drive_circuit s c .off c
  rw [if_pos rfl] at driven
  rw [driven] at record
  have resting : Resting c g ((s.drive c .off).modCircuit c fun k => { k with owner := none, timer := none }) :=
    apart.resting sound only (by rw [record]; exact member) (by rw [record]) (by rw [record]) (by rw [record])
  refine ⟨_, onCircuit_due awake (by simp [guardEndDue, state, on, timerDue_iff.mpr reached]), ?_⟩
  exact resting.becameIdle only ⟨rfl, rfl⟩ (by rw [record]) (by rw [record])
    (by rw [record]; exact ⟨rfl, rfl, rfl, rfl, rfl, rfl, rfl, rfl, rfl, rfl, rfl, rfl, rfl, rfl⟩)
    (sound.noneParkedOn apart.unit)

section CircuitOrders

variable {c : Fin 96} {s : State}

theorem unblockCircuit_of_blocked (h : (s.circuit c).state = .blocked) :
    unblockCircuit c s = accept (becomesIdle c (s.modCircuit c fun k => { k with timer := none })) := if_pos h

theorem unblockCircuit_of_other (h : (s.circuit c).state ≠ .blocked) :
    unblockCircuit c s = accept (s.modCircuit c fun k => { k with blockPending := false }) := if_neg h

theorem resetFault_of_fault (h : (s.circuit c).state = .fault) : resetFault c s = accept (becomesIdle c s) := if_pos h

theorem resetFault_of_other (h : (s.circuit c).state ≠ .fault) : resetFault c s = refuse .wrongState s := if_neg h

end CircuitOrders

/-- Settles O42: the orders on a BLOCKED or FAULT circuit, which has no owner and is apart. -/
theorem unblockAndResetReturnTheCircuit : Obligations.UnblockAndResetReturnTheCircuit := by
  unfold Obligations.UnblockAndResetReturnTheCircuit
  intro w ws s kind sound rest kinds ready
  obtain ⟨circuits, groups, pool, lines, -⟩ := orderStart_frame s w
  obtain ⟨-, circuit, group, -, -⟩ := orderStart_records s w
  have sound0 : PoolSound (orderStart w s) := sound.kept circuits (fun g => by rw [group]) pool
  obtain ⟨rests, -⟩ := rest
  rcases kinds with rfl | rfl
  · refine ⟨fun high => refuses_of_body ready (circuitOrder_high high), fun c hc => ?_⟩
    have body : orderBody .unblock w.port ws (orderStart w s) = unblockCircuit c (orderStart w s) :=
      circuitOrder_of_circuit hc
    refine ⟨fun g member which => ?_, fun _ other => ?_, fun same => by cases same⟩
    · have state : ((orderStart w s).circuit c).state = .blocked := by
        rw [circuit]
        obtain ⟨-, state⟩ | ⟨same, -⟩ := which
        · exact state
        · cases same
      refine ⟨_, answers_of_body ready (body.trans (unblockCircuit_of_blocked state)), ?_⟩
      have apart := sound0.apart_of_resting (c := c) (.inr (.inr (.inr (.inr state))))
      have only : OnlyCircuit c (orderStart w s)
          ((orderStart w s).modCircuit c fun k => { k with timer := none }) := (OnlyCircuit.refl _ c).modCircuit _
      have owner : ((orderStart w s).circuit c).owner = none := by
        rw [circuit] at state ⊢
        obtain ⟨-, -, loose, -⟩ := rests c
        exact (loose (.inr (.inr (.inl state)))).1
      have resting : Resting c g ((orderStart w s).modCircuit c fun k => { k with timer := none }) :=
        apart.resting sound0 only (by simpa [circuit] using member) (by simpa using owner) (by simp) (by simp)
      exact resting.becameIdle only ⟨rfl, rfl⟩ (by simp) (by simp) (by simp [CallKept])
        (sound0.noneParkedOn apart.unit)
    · exact answers_of_body ready (body.trans (unblockCircuit_of_other (by rw [circuit]; exact other)))
  · refine ⟨fun high => refuses_of_body ready (circuitOrder_high high), fun c hc => ?_⟩
    have body : orderBody .resetCircuit w.port ws (orderStart w s) = resetFault c (orderStart w s) :=
      circuitOrder_of_circuit hc
    refine ⟨fun g member which => ?_, fun same => (by cases same), fun _ other => ?_⟩
    · have state : ((orderStart w s).circuit c).state = .fault := by
        rw [circuit]
        obtain ⟨same, -⟩ | ⟨-, state⟩ := which
        · cases same
        · exact state
      refine ⟨_, answers_of_body ready (body.trans (resetFault_of_fault state)), ?_⟩
      have apart := sound0.apart_of_resting (c := c) (.inr (.inl state))
      have owner : ((orderStart w s).circuit c).owner = none := by
        rw [circuit] at state ⊢
        obtain ⟨-, -, loose, -⟩ := rests c
        exact (loose (.inr (.inr (.inr state)))).1
      have only := OnlyCircuit.refl (orderStart w s) c
      have resting : Resting c g (orderStart w s) :=
        apart.resting sound0 only (by rw [circuit]; exact member) owner rfl rfl
      exact resting.becameIdle only (PortsKept.refl _) rfl rfl
        ⟨rfl, rfl, rfl, rfl, rfl, rfl, rfl, rfl, rfl, rfl, rfl, rfl, rfl, rfl⟩ (sound0.noneParkedOn apart.unit)
    · exact refuses_of_body ready (body.trans (resetFault_of_other (by rw [circuit]; exact other)))

end Sys2Proof.Machine

/-! PROOFS. What the supervision machine makes of a transition (R5, R6): preseizures that begin and end (R66, R67), release
guards (R59, R170), and the transitions that are not taken as what ends the state. -/

namespace Sys2Proof.Machine

section Taken

variable {c d : Fin 96} {g : Fin 8} {s t t' : State}

/-! ## Where no recognition is reached first (R6) -/

theorem reachedFirst_of_quiet (sound : PoolSound s) (quiet : supervisionDue c s = false)
    (receiving : (s.circuit c).state ≠ .inReceiving) : reachedFirst c s = s := by
  rw [reachedFirst_of_none quiet, registerFirst_of_no_register fun u hu => sound.no_register receiving hu]

/-- A TO_ON as the watch channels find it. -/
theorem exec_taken_on (awake : s.resetAsserted = false) (due : TransitionDue c s) (sound : PoolSound s)
    (quiet : supervisionDue c s = false) (receiving : (s.circuit c).state ≠ .inReceiving)
    (off : (s.filter c).recCond = .off)
    (after : ∀ u, ((supervisionOn c (stamped c s)).circuit c).unit = some u →
      ∀ sub, ((supervisionOn c (stamped c s)).unit u).state ≠ .register sub) :
    ∃ t, exec (.recognizedTransition c.val) s = .next t ∧ Watched (supervisionOn c (stamped c s)) t := by
  obtain ⟨t, runs, watched⟩ := exec_delivered awake due
  rw [reachedFirst_of_quiet sound quiet receiving, delivered_on off, registerTransition_of_no_register _ after] at watched
  exact ⟨t, runs, watched⟩

/-- A TO_OFF as the watch channels find it. -/
theorem exec_taken_off (awake : s.resetAsserted = false) (due : TransitionDue c s) (sound : PoolSound s)
    (quiet : supervisionDue c s = false) (receiving : (s.circuit c).state ≠ .inReceiving)
    (on : (s.filter c).recCond = .on)
    (after : ∀ u, ((supervisionOff c (s.recFor c) (s.heldOf c) (stamped c s)).circuit c).unit = some u →
      ∀ sub, ((supervisionOff c (s.recFor c) (s.heldOf c) (stamped c s)).unit u).state ≠ .register sub) :
    ∃ t, exec (.recognizedTransition c.val) s = .next t ∧
      Watched (supervisionOff c (s.recFor c) (s.heldOf c) (stamped c s)) t := by
  obtain ⟨t, runs, watched⟩ := exec_delivered awake due
  rw [reachedFirst_of_quiet sound quiet receiving, delivered_off on, registerTransition_of_no_register _ after] at watched
  exact ⟨t, runs, watched⟩

theorem stamped_sound (h : PoolSound s) (c : Fin 96) : PoolSound (stamped c s) :=
  (h.setFilter c _).modCircuit rfl rfl rfl rfl

/-! ## Transitions that are ignored -/

/-- A state in which only the mark of the present ON has been written. -/
theorem transitionIgnored_of (presentOn : Bool)
    (w : Watched ((stamped c s).modCircuit c fun r => { r with presentOn := presentOn }) t) :
    TransitionIgnored c presentOn s t := by
  refine ⟨?_, ?_, fun d hd => ?_, ?_, ?_, ?_⟩
  · rw [w.circuit, State.modCircuit_circuit_self, stamped_circuit_self]
  · exact (NoCircuitEvent.of_ports (stamped_ports c s)).quiet ((NoCircuitEvent.of_ports ⟨rfl, rfl⟩).quiet (w.quiet c))
  · have other : d ≠ c := by simpa using hd
    rw [w.circuit, State.modCircuit_circuit_ne _ _ _ other, stamped_circuit_ne other]
  · exact w.groups
  · exact (stamped_pool c s).trans (PoolKept.trans ⟨rfl, rfl, rfl, rfl⟩ w.pool)
  · exact (stamped_ports c s).portState.trans (PortStateKept.trans (PortsKept.portState ⟨rfl, rfl⟩) w.portState)

/-- In a state that serves no register nothing of the circuit's unit is one, whatever is written beside. -/
theorem no_register_after {f : Circuit → Circuit} (sound : PoolSound s)
    (receiving : (s.circuit c).state ≠ .inReceiving) (unit : ∀ k, (f k).unit = k.unit) :
    ∀ u, (((stamped c s).modCircuit c f).circuit c).unit = some u →
      ∀ sub, (((stamped c s).modCircuit c f).unit u).state ≠ .register sub := by
  intro u hu sub
  rw [State.modCircuit_circuit_self, unit, stamped_circuit_self] at hu
  exact sound.no_register receiving hu sub

/-! ## A circuit that becomes idle at a transition -/

/-- The channel as a TO_OFF leaves it, the circuit's record as before. -/
def State.leadOff (s : State) (c : Fin 96) : State :=
  s.setFilter c { recCond := .off, recTime := s.timeBase, cand := none }

theorem stamped_of_on (on : (s.filter c).recCond = .on) :
    stamped c s = (s.leadOff c).modCircuit c fun k => { k with held := s.thresholds c } := by
  simp only [stamped, State.leadOff, on, oppositeCond]

/-- What stands of a circuit that becomes idle by a TO_OFF, from the state of the transition on. -/
theorem Resting.returned {s1 : State} {l : List (Option Port × Event)} (h : Resting c g s1) (sound : PoolSound s)
    (soundAfter : PoolSound (becomesIdle c s1))
    (quiet : supervisionDue c s = false) (unit : (s.circuit c).unit = none)
    (on : (s.filter c).recCond = .on) (awake : s.resetAsserted = false) (due : TransitionDue c s)
    (receiving : (s.circuit c).state ≠ .inReceiving)
    (taken : supervisionOff c (s.recFor c) (s.heldOf c) (stamped c s) = becomesIdle c s1)
    (only : OnlyCircuit c (s.leadOff c) s1) (block : (s1.circuit c).blockPending = (s.circuit c).blockPending)
    (member : (s1.circuit c).group = (s.circuit c).group) (call : CallKept (s.circuit c) (s1.circuit c))
    (slots : ∀ id, s1.slot id = s.slot id) (raised : Reports c l s s1) (ports : PortStateKept s s1) :
    ∃ t, exec (.recognizedTransition c.val) s = .next t ∧ PlacedAs g c (s.leadOff c) t ∧ Reports c l s t ∧
      (∀ d, d ≠ c → s.reclaimed ≠ some d → t.circuit d = s.circuit d) ∧ GroupsKept [g] s t ∧ PortStateKept s t := by
  have placed := h.placed
  have noRegister : ∀ u, ((becomesIdle c s1).circuit c).unit = some u →
      ∀ sub, ((becomesIdle c s1).unit u).state ≠ .register sub := fun u hu sub =>
    soundAfter.no_register placed.not_receiving hu sub
  obtain ⟨t, runs, watched⟩ := exec_taken_off awake due sound quiet receiving on (by rw [taken]; exact noRegister)
  rw [taken] at watched
  have apart : NoneParkedOn c (s.leadOff c) := (sound.noneParkedOn unit).congr ⟨rfl, rfl, rfl, rfl⟩
  have standing : Standing g c (s.leadOff c) s1 :=
    .of_only only block member call (fun id => (slots id).trans (State.setFilter_slot s c _ id).symm) apart
  obtain ⟨circuits, groups, quiet', ports', -⟩ := becomesIdle_frame h.group
  refine ⟨t, runs, (standing.placed placed).watched watched, (raised.quiet quiet').quiet (watched.quiet c),
    fun d hd away => ?_, fun x hx => ?_, (ports.trans ports').trans watched.portState⟩
  · have pool : PoolKept s s1 := PoolKept.trans ⟨rfl, rfl, rfl, rfl⟩ only.2.2.1
    rw [watched.circuit, circuits d hd (by rwa [State.reclaimed_congr pool])]
    exact only.1 d (by simpa using hd)
  · rw [watched.group, groups x hx, State.group, only.2.1]
    rfl

end Taken

/-- Settles O9: the preseizure that a TO_ON begins, and its end by a TO_OFF. -/
theorem idleCircuitBeginsAPreseizure : Obligations.IdleCircuitBeginsAPreseizure := by
  unfold Obligations.IdleCircuitBeginsAPreseizure
  intro c g s awake sound due member now
  refine ⟨fun off state capable => ?_, fun on state waits rest => ?_⟩
  · have lead : s.leadOn c = false := leadOn_eq off
    have quiet : supervisionDue c s = false := by
      simp [supervisionDue, seizureDue, farSeizeDue, ackMaxDue, answerRecognizedDue, clearBackDue, reanswerDue,
        clearForwardDue, state, CircuitState.clearable]
    have taken : supervisionOn c (stamped c s) = enterPreseize c (stamped c s) := by
      simp [supervisionOn, state, State.direction, member, capable]
    have member' : ((stamped c s).circuit c).group = some g := by simpa using member
    have unit : ((enterPreseize c (stamped c s)).circuit c).unit = none := by
      rw [(enterPreseize_loose c c (stamped c s)).1, stamped_circuit_self]
      exact (sound.loose_of_idle state).1
    obtain ⟨t, runs, watched⟩ := exec_taken_on awake due sound quiet (by simp [state]) off (by
      rw [taken, unit]
      intro u hu
      cases hu)
    rw [taken] at watched
    have entered := preseizes_enterPreseize member'
    obtain ⟨own, groups, circuits, pool, -⟩ := enterPreseize_frame member'
    rw [stamped_group] at entered own
    refine ⟨t, runs, entered.congr (watched.circuit c) rfl, ?_, (watched.group g).trans own,
      fun x hx => (watched.group x).trans (groups x hx), fun d hd => ?_,
      (stamped_pool c s).trans (pool.trans watched.pool)⟩
    · rw [watched.circuit, enterPreseize_owner, stamped_circuit_self]
    · rw [watched.circuit, circuits d hd, stamped_circuit_ne (by simpa using hd)]
  · have timer : s.timerDue c = false := Bool.eq_false_iff.mpr fun h => waits (timerDue_iff.mp h)
    have quiet : supervisionDue c s = false := by
      simp [supervisionDue, seizureDue, farSeizeDue, ackMaxDue, answerRecognizedDue, clearBackDue, reanswerDue,
        clearForwardDue, state, CircuitState.clearable, timer]
    obtain ⟨rests, -⟩ := rest
    obtain ⟨-, -, -, -, -, unowned, -⟩ := rests c
    have apart := sound.apart_of_resting (c := c) (.inr (.inr (.inr (.inl state))))
    have taken : supervisionOff c (s.recFor c) (s.heldOf c) (stamped c s) =
        becomesIdle c ((stamped c s).modCircuit c fun r => { r with timer := none }) := by
      simp [supervisionOff, state]
    have only : OnlyCircuit c (s.leadOff c) ((stamped c s).modCircuit c fun r => { r with timer := none }) := by
      rw [stamped_of_on on]
      exact ((OnlyCircuit.refl _ c).modCircuit _).modCircuit _
    have sound1 := stamped_sound sound c
    have apart1 : Apart c (stamped c s) := sound1.apart_of_resting (.inr (.inr (.inr (.inl (by simpa using state)))))
    have resting : Resting c g ((stamped c s).modCircuit c fun r => { r with timer := none }) :=
      apart1.resting sound1 ((OnlyCircuit.refl _ c).modCircuit _) (by simpa using member)
        (by simpa using unowned state) (by simp) (by simp)
    have soundAfter : PoolSound (becomesIdle c ((stamped c s).modCircuit c fun r => { r with timer := none })) :=
      (sound1.modCircuit (f := fun r => { r with timer := none }) rfl rfl rfl rfl).becomesIdle_of_state
        (.inr (.inl (by simpa using state)))
    exact resting.returned (l := []) sound soundAfter quiet apart.unit on awake due (by simp [state]) taken only
      (by simp) (by simp) (by simp [CallKept]) (fun id => by simp)
      ((stamped_quiet c c s).quiet (.of_ports ⟨rfl, rfl⟩))
      ((stamped_ports c s).portState.trans (PortsKept.portState ⟨rfl, rfl⟩))

section Guards

variable {c : Fin 96} {g : Fin 8} {s t : State}

/-! ## Release guards (R59, R170) -/

theorem supervisionDue_of_released (state : (s.circuit c).state = .outReleasing ∨ (s.circuit c).state = .fault) :
    supervisionDue c s = false := by
  rcases state with state | state <;>
    simp [supervisionDue, seizureDue, farSeizeDue, ackMaxDue, answerRecognizedDue, clearBackDue, reanswerDue,
      clearForwardDue, state, CircuitState.clearable]

theorem State.modCircuit_of_fixed {f : Circuit → Circuit} (fixed : f (s.circuit c) = s.circuit c) : s.modCircuit c f = s := by
  have same : s.circuits.set c.val (s.circuits[c.val]'c.isLt) c.isLt = s.circuits := Vector.set_getElem_self c.isLt
  rw [State.modCircuit, fixed]
  exact congrArg (fun v => { s with circuits := v }) same

/-- The state in which a release guard is recognized: the ON has ended. -/
def State.guardEnded (s : State) (c : Fin 96) : State := (stamped c s).modCircuit c fun r => { r with presentOn := false }

/-- The state from which a circuit becomes idle once its guard is recognized: the event raised, and the owner none. -/
def State.guardTaken (s : State) (c : Fin 96) (e : Event) (timer : Option Timer) : State :=
  ((s.guardEnded c).raiseCircuit c e).modCircuit c fun k => { k with owner := none, timer := timer }

theorem guardTaken_circuit (s : State) (c : Fin 96) (e : Event) (timer : Option Timer) :
    (s.guardTaken c e timer).circuit c =
      { s.circuit c with held := s.thresholds c, presentOn := false, owner := none, timer := timer } := by
  simp [State.guardTaken, State.guardEnded]

theorem guardTaken_reports (s : State) (c : Fin 96) (e : Event) (timer : Option Timer) :
    Reports c [((s.circuit c).owner, e)] s (s.guardTaken c e timer) :=
  CircuitEventBy.reports fun p => by simp [State.guardTaken, State.guardEnded, State.raiseCircuit_port]

theorem State.raiseCircuit_slot (s : State) (c : Fin 96) (e : Event) (id : SlotId) :
    (s.raiseCircuit c e).slot id = s.slot id := by
  rw [State.slot, State.slot, State.raiseCircuit_port]
  split <;> rfl

theorem guardTaken_slot (s : State) (c : Fin 96) (e : Event) (timer : Option Timer) (id : SlotId) :
    (s.guardTaken c e timer).slot id = s.slot id := by
  simp [State.guardTaken, State.guardEnded, State.raiseCircuit_slot]

theorem guardTaken_only (on : (s.filter c).recCond = .on) (e : Event) (timer : Option Timer) :
    OnlyCircuit c (s.leadOff c) (s.guardTaken c e timer) := by
  rw [State.guardTaken, State.guardEnded, stamped_of_on on]
  exact ((((OnlyCircuit.refl _ c).modCircuit _).modCircuit _).raiseCircuit c e).modCircuit _

theorem guardTaken_ports (s : State) (c : Fin 96) (e : Event) (timer : Option Timer) :
    PortStateKept s (s.guardTaken c e timer) :=
  ((stamped_ports c s).portState.trans (PortsKept.portState ⟨rfl, rfl⟩)).trans
    ((PortStateKept.raiseCircuit (s.guardEnded c) c e).trans (PortsKept.portState ⟨rfl, rfl⟩))

/-- A circuit whose guard is recognized becomes idle, and the guard is reported to the owner that it had. -/
theorem returned_of_guard {e : Event} {timer : Option Timer} (awake : s.resetAsserted = false) (sound : PoolSound s)
    (due : TransitionDue c s) (member : (s.circuit c).group = some g) (on : (s.filter c).recCond = .on)
    (state : (s.circuit c).state = .outReleasing ∨ (s.circuit c).state = .fault)
    (taken : supervisionOff c (s.recFor c) (s.heldOf c) (stamped c s) = becomesIdle c (s.guardTaken c e timer)) :
    ∃ t, exec (.recognizedTransition c.val) s = .next t ∧ PlacedAs g c (s.leadOff c) t ∧
      Reports c [((s.circuit c).owner, e)] s t ∧ (∀ d, d ≠ c → s.reclaimed ≠ some d → t.circuit d = s.circuit d) ∧
      GroupsKept [g] s t ∧ PortStateKept s t := by
  have record := guardTaken_circuit s c e timer
  have receiving : (s.circuit c).state ≠ .inReceiving := by rcases state with state | state <;> simp [state]
  have ended : PoolSound (s.guardEnded c) := (stamped_sound sound c).modCircuit rfl rfl rfl rfl
  have endedState : ((s.guardEnded c).circuit c).state = (s.circuit c).state := by simp [State.guardEnded]
  have apart : Apart c (s.guardEnded c) := ended.apart_of_resting (by rw [endedState]; tauto)
  have guardOnly : OnlyCircuit c (s.guardEnded c) (s.guardTaken c e timer) :=
    ((OnlyCircuit.refl _ c).raiseCircuit c e).modCircuit _
  have resting : Resting c g (s.guardTaken c e timer) :=
    apart.resting ended guardOnly (by rw [record]; exact member) (by rw [record])
      (by rw [record]; simp [State.guardEnded]) (by rw [record]; simp [State.guardEnded])
  have soundTaken : PoolSound (s.guardTaken c e timer) := (ended.raiseCircuit c e).modCircuit rfl rfl rfl rfl
  have soundAfter : PoolSound (becomesIdle c (s.guardTaken c e timer)) :=
    soundTaken.becomesIdle (soundTaken.apart_of_resting (by rw [record]; tauto))
  exact resting.returned sound soundAfter (supervisionDue_of_released state) (sound.apart_of_resting (by tauto)).unit on awake
    due receiving taken (guardTaken_only on e timer) (by rw [record]) (by rw [record]) (by
      rw [record]
      exact ⟨rfl, rfl, rfl, rfl, rfl, rfl, rfl, rfl, rfl, rfl, rfl, rfl, rfl, rfl⟩)
    (fun id => guardTaken_slot s c e timer id) (guardTaken_reports s c e timer) (guardTaken_ports s c e timer)

/-- In OUT_RELEASING the guard is the release guard. -/
theorem supervisionOff_released (state : (s.circuit c).state = .outReleasing) (fresh : (s.circuit c).presentOn = false)
    {width : Nat} {h : Held} (wide : h.guardMin ≤ width) :
    supervisionOff c width h (stamped c s) = becomesIdle c (s.guardTaken c .released none) := by
  simp [supervisionOff, state, fresh, wide, recognizeGuard, State.guardTaken, State.guardEnded]

/-- In FAULT the guard is late, and the circuit had no owner. -/
theorem supervisionOff_lateGuard (state : (s.circuit c).state = .fault) (unowned : (s.circuit c).owner = none)
    (fresh : (s.circuit c).presentOn = false) {width : Nat} {h : Held} (wide : h.guardMin ≤ width) :
    supervisionOff c width h (stamped c s) = becomesIdle c (s.guardTaken c .lateGuard (s.circuit c).timer) := by
  have raised : (s.guardEnded c).raiseCircuit c .lateGuard = s.guardTaken c .lateGuard (s.circuit c).timer := by
    refine (State.modCircuit_of_fixed ?_).symm
    simp [State.guardEnded, unowned]
  have taken : supervisionOff c width h (stamped c s) = becomesIdle c ((s.guardEnded c).raiseCircuit c .lateGuard) := by
    simp [supervisionOff, state, fresh, wide, recognizeLateGuard, State.guardEnded]
  rw [taken, raised]

/-- The end of an ON that is no guard takes only its mark away. -/
theorem supervisionOff_no_guard (state : (s.circuit c).state = .outReleasing ∨ (s.circuit c).state = .fault)
    {width : Nat} {h : Held} (none : ¬ ((s.circuit c).presentOn = false ∧ h.guardMin ≤ width)) :
    supervisionOff c width h (stamped c s) = s.guardEnded c := by
  rcases state with state | state <;>
  · simp only [supervisionOff, stamped_circuit_self, state, State.guardEnded]
    exact if_neg (by simpa using none)

end Guards

/-- Settles O11: the guard that returns the circuit, and the transitions that are no guard. -/
theorem guardsReturnTheCircuit : Obligations.GuardsReturnTheCircuit := by
  unfold Obligations.GuardsReturnTheCircuit
  intro c g s awake sound rest due member
  have unowned (state : (s.circuit c).state = .fault) : (s.circuit c).owner = none := by
    obtain ⟨rests, -⟩ := rest
    obtain ⟨-, -, bare, -⟩ := rests c
    exact (bare (.inr (.inr (.inr state)))).1
  have ignoredOn (state : (s.circuit c).state = .outReleasing ∨ (s.circuit c).state = .fault)
      (off : (s.filter c).recCond = .off) (mark : Bool)
      (taken : supervisionOn c (stamped c s) = (stamped c s).modCircuit c fun r => { r with presentOn := mark }) :
      ∃ t, exec (.recognizedTransition c.val) s = .next t ∧ TransitionIgnored c mark s t := by
    have receiving : (s.circuit c).state ≠ .inReceiving := by rcases state with state | state <;> simp [state]
    obtain ⟨t, runs, watched⟩ := exec_taken_on awake due sound (supervisionDue_of_released state) receiving off
      (by rw [taken]; exact no_register_after sound receiving fun _ => rfl)
    rw [taken] at watched
    exact ⟨t, runs, transitionIgnored_of mark watched⟩
  refine ⟨fun on => ⟨fun state guard => ?_, fun state guard => ?_, fun state noGuard => ?_⟩,
    fun off => ⟨fun state => ?_, fun state => ?_⟩⟩
  · exact returned_of_guard awake sound due member on (.inl state) (supervisionOff_released state guard.1 guard.2)
  · have returned := returned_of_guard awake sound due member on (.inr state)
      (supervisionOff_lateGuard state (unowned state) guard.1 guard.2)
    rwa [unowned state] at returned
  · have receiving : (s.circuit c).state ≠ .inReceiving := by rcases state with state | state <;> simp [state]
    have taken := supervisionOff_no_guard state noGuard
    obtain ⟨t, runs, watched⟩ := exec_taken_off awake due sound (supervisionDue_of_released state) receiving on
      (by rw [taken]; exact no_register_after sound receiving fun _ => rfl)
    rw [taken] at watched
    exact ⟨t, runs, transitionIgnored_of false watched⟩
  · exact ignoredOn (.inl state) off _ (by simp [supervisionOn, state, State.modCircuit, eq_comm])
  · exact ignoredOn (.inr state) off _ (by simp [supervisionOn, state])

end Sys2Proof.Machine

/-! PROOFS. SEIZE carried out by the hunt (R26, R36): the circuit that the hunt mode chooses, the lowest FREE slot, and the
call that begins on them. -/

namespace Sys2Proof.Machine

section Hunts

variable {ws : List Word} {p : Port} {s : State} {c : Fin 96} {g : Fin 8}

/-! ## The choices (R26, R30, R184) -/

/-- Digits that stand in the words of an order are read back. -/
theorem digitsOf_nibbles_vals {digits : List (Fin 10)} {n : Nat} (count : digits.length = n)
    (h : ∀ (i : Nat) (hi : i < digits.length), (digits[i]).val = nibbleAt ws i) :
    digitsOf (nibbles ws n) = some digits := by
  have same : nibbles ws n = digits.map (·.val) := by
    refine List.ext_getElem (by rw [nibbles_length, List.length_map, count]) fun i _ hi => ?_
    rw [List.length_map] at hi
    simp [nibbles, h i hi]
  rw [same, digitsOf_vals]

/-- The slot that an order takes is the lowest FREE one of its port. -/
theorem freeSlot_lowest {n : Fin 16} (free : s.slot { port := p, num := n } = .free)
    (lowest : ∀ m, m < n → s.slot { port := p, num := m } ≠ .free) : s.freeSlot p = some { port := p, num := n } := by
  have found : allSixteen.find? (fun m => s.slot { port := p, num := m } = .free) = some n := by
    rw [allSixteen, ← Fin.find?_eq_find?_finRange, Fin.find?_eq_some_iff]
    exact ⟨by simpa using free, fun m hm => by simpa using lowest m hm⟩
  simp [State.freeSlot, found]

/-- A fold that picks the better of two finds one that is as good as all. -/
theorem foldl_picks_best {α : Type} {r : α → α → Prop} {pick : α → α → α} (refl : ∀ a, r a a)
    (trans : ∀ a b d, r a b → r b d → r a d) (better : ∀ a b, r (pick a b) a ∧ r (pick a b) b) (l : List α) :
    ∀ a, r (l.foldl pick a) a ∧ ∀ d ∈ l, r (l.foldl pick a) d := by
  induction l with
  | nil => exact fun a => ⟨refl a, by simp⟩
  | cons b l ih =>
    intro a
    obtain ⟨first, others⟩ := ih (pick a b)
    obtain ⟨left, right⟩ := better a b
    refine ⟨trans _ _ _ first left, fun d hd => ?_⟩
    obtain rfl | hd := List.mem_cons.mp hd
    · exact trans _ _ _ first right
    · exact others d hd

theorem huntChoice_low {idle : List (Fin 96)} (h : huntChoice .lowFirst idle = some c) : ∀ d ∈ idle, c ≤ d := by
  cases idle with
  | nil => cases h
  | cons a l =>
    obtain rfl := Option.some.inj h
    obtain ⟨first, others⟩ := foldl_picks_best (r := fun x y : Fin 96 => x ≤ y)
      (pick := fun a b => if b.val < a.val then b else a) (fun _ => le_refl _) (fun _ _ _ => le_trans)
      (fun a b => by split <;> omega) l a
    exact List.forall_mem_cons.mpr ⟨first, others⟩

theorem huntChoice_high {idle : List (Fin 96)} (h : huntChoice .highFirst idle = some c) : ∀ d ∈ idle, d ≤ c := by
  cases idle with
  | nil => cases h
  | cons a l =>
    obtain rfl := Option.some.inj h
    obtain ⟨first, others⟩ := foldl_picks_best (r := fun x y : Fin 96 => y ≤ x)
      (pick := fun a b => if a.val < b.val then b else a) (fun _ => le_refl _) (fun _ _ _ h h' => le_trans h' h)
      (fun a b => by split <;> omega) l a
    exact List.forall_mem_cons.mpr ⟨first, others⟩

theorem huntChoice_longest {idle : List (Fin 96)} (h : huntChoice .longestIdle idle = some c) : idle.head? = some c := by
  cases idle with
  | nil => cases h
  | cons a l => exact h

theorem huntChoice_some {mode : HuntMode} {idle : List (Fin 96)} (h : idle ≠ []) : ∃ c, huntChoice mode idle = some c := by
  cases idle with
  | nil => exact absurd rfl h
  | cons a l => cases mode <;> exact ⟨_, rfl⟩

/-! ## A circuit of the idle list is seized (R36) -/

/-- The state in which a call's slot has taken a circuit of the idle list. -/
def State.hunted (s : State) (c : Fin 96) (id : SlotId) (call : SlotCall) : State :=
  (leaveIdleList c s).setSlot id (.seizing call c)

theorem State.hunted_circuit (s : State) (c x : Fin 96) (id : SlotId) (call : SlotCall) :
    (s.hunted c id call).circuit x = s.circuit x := by
  rw [State.hunted, State.setSlot, State.modPort_circuit, leaveIdleList_circuit]

theorem State.hunted_group (member : (s.circuit c).group = some g) (x : Fin 8) (id : SlotId) (call : SlotCall) :
    (s.hunted c id call).group x =
      if x = g then { s.group g with idle := (s.group g).idle.filter fun d => d ≠ c } else s.group x := by
  rw [State.hunted, State.setSlot, State.modPort_group, leaveIdleList_group, member]
  by_cases same : x = g
  · subst same; simp
  · rw [if_neg same, if_neg (by simpa [eq_comm] using same)]

theorem State.hunted_frame (s : State) (c : Fin 96) (id : SlotId) (call : SlotCall) :
    PoolKept s (s.hunted c id call) ∧ LinesKept s (s.hunted c id call) ∧ PortStateKept s (s.hunted c id call) := by
  obtain ⟨pool, lines, ports⟩ := leaveIdleList_frame c s
  exact ⟨pool.trans (by simp [State.hunted, State.setSlot, PoolKept]), lines.trans (by simp [State.hunted, State.setSlot, LinesKept]),
    ports.portState.trans (.setSlot _ id _)⟩

theorem State.hunted_par (member : (s.circuit c).group = some g) (id : SlotId) (call : SlotCall) (p : Param) :
    (s.hunted c id call).par c p = s.par c p :=
  State.par_congr (by rw [State.hunted_circuit]) (fun x => by
    rw [State.hunted_group member]
    split
    · next same => rw [same]; rfl
    · rfl) p

theorem State.hunted_lead (s : State) (c : Fin 96) (id : SlotId) (call : SlotCall) :
    s.leadOn c = (s.hunted c id call).leadOn c := by
  obtain ⟨-, ⟨-, -, filters, -⟩, -⟩ := s.hunted_frame c id call
  rw [State.leadOn, State.leadOn, State.filter, State.filter, filters]

/-- What a seizure of a circuit of the idle list makes of the circuit, the slot, the group and the pool. -/
theorem seizes_hunted (sound : PoolSound s) (listed : c ∈ (s.group g).idle) (id : SlotId) (call : SlotCall)
    (digits : List (Fin 10)) (eon : Bool) :
    let t := enterOutSeizing c id digits eon (s.hunted c id call)
    Seizes (s.group g) c id digits eon s t ∧ SenderAsked c digits s t ∧ t.slot id = .seizing call c ∧
      t.group g = { s.group g with idle := (s.group g).idle.filter fun d => d ≠ c } ∧ GroupsKept [g] s t ∧
      (∀ d, d ≠ c → digits = [] ∨ s.reclaimed ≠ some d → t.circuit d = s.circuit d) ∧ PortStateKept s t ∧
      LinesKept s t := by
  obtain ⟨state, member⟩ := (sound.idleLists g c).mp listed
  obtain ⟨unit, unitReq⟩ := sound.loose_of_idle state
  obtain ⟨pool, lines, ports⟩ := s.hunted_frame c id call
  have parkedNone := sound.noneParkedOn unit
  have own := State.hunted_group member g id call
  rw [if_pos rfl] at own
  obtain ⟨groups', ports', -⟩ := enterOutSeizing_frame (s.hunted c id call) c id digits eon
  have seizes := seizes_enterOutSeizing (s := s.hunted c id call) (by rw [State.hunted_circuit]; exact member)
    (by rw [State.hunted_circuit]; exact unit) (by rw [State.hunted_circuit]; exact unitReq) (parkedNone.congr pool) id
    digits eon
  rw [own] at seizes
  have asked := senderAsked_enterOutSeizing (s := s.hunted c id call) (by rw [State.hunted_circuit]; exact unit)
    (parkedNone.congr pool) (pool.2.2.2 ▸ sound.parkedOnce) id digits eon
  have time : (s.hunted c id call).timeBase = s.timeBase := lines.2.1
  refine ⟨Seizes.congr (k := s.group g) seizes rfl (.refl _) time.symm (s.hunted_lead c id call),
    asked.congr_left pool time (State.hunted_par member id call) (fun d _ => s.hunted_circuit c d id call) parkedNone,
    ?_, ?_, fun x hx => ?_, fun d hd kept => ?_, ports.trans ports'.portState, lines.enterOutSeizing c id digits eon⟩
  · rw [ports'.slot]
    exact State.setSlot_slot_self _ id _
  · rw [State.group, groups']
    exact own
  · rw [State.group, groups']
    exact (State.hunted_group member x id call).trans (if_neg (by simpa using hx))
  · rw [enterOutSeizing_circuit_other hd (by rwa [State.reclaimed_congr pool]), State.hunted_circuit]

/-! ## SEIZE (R36) -/

/-- A SEIZE that passes its tests is the hunt for its call. -/
theorem orderSeize_hunts {digits : List (Fin 10)} {n : Fin 16} (hg : field (wordAt ws 1) 7 4 = g.val)
    (capable : (s.group g).direction.outgoingCapable = true) (wait : field (wordAt ws 2) 15 10 ≤ 60)
    (count : digits.length = field (wordAt ws 2) 4 0) (few : digits.length ≤ 24)
    (read : ∀ (i : Nat) (h : i < digits.length), (digits[i]).val = nibbleAt (ws.drop 3) i)
    (free : s.slot { port := p, num := n } = .free) (lowest : ∀ m, m < n → s.slot { port := p, num := m } ≠ .free) :
    orderSeize p ws s =
      seizeCircuit { port := p, num := n }
        { tag := BitVec.ofNat 8 (field (wordAt ws 1) 15 8), group := g, wait := field (wordAt ws 2) 15 10
          glareCount := 0 } digits (bitSet (wordAt ws 2) 9) s := by
  have few' : ¬ 24 < field (wordAt ws 2) 4 0 := by omega
  simp [orderSeize, eightOf_some.mpr hg, capable, not_lt.mpr wait, digitsOf_nibbles_vals count read, few',
    freeSlot_lowest free lowest]

theorem PoolSound.orderStart (h : PoolSound s) (w : OrderWrite) : PoolSound (orderStart w s) := by
  obtain ⟨circuits, groups, pool, -⟩ := orderStart_frame s w
  exact h.kept circuits (fun g => by rw [State.group, groups]; rfl) pool

theorem LinesKept.orderStart (s : State) (w : OrderWrite) : LinesKept s (orderStart w s) := by
  obtain ⟨-, -, -, lines, -⟩ := orderStart_frame s w
  exact lines

theorem pack_circuit (c : Fin 96) : pack [(c.val, 6, 0)] = BitVec.ofNat 16 c.val := by
  have low : c.val % 128 = c.val := Nat.mod_eq_of_lt (by omega)
  simp [pack, low]

/-- A seizure is told from any state with the same instant, lead and pool. -/
theorem Seizes.congr_orderStart {k : Group} {id : SlotId} {digits : List (Fin 10)} {eon : Bool} {t : State} {w : OrderWrite}
    (h : Seizes k c id digits eon (orderStart w s) t) : Seizes k c id digits eon s t := by
  obtain ⟨time, -, -, -, filter⟩ := orderStart_records s w
  refine h.congr rfl (.refl _) time.symm ?_
  rw [State.leadOn, State.leadOn, filter]

end Hunts

/-- Settles O33: the hunt for a call in the state the order starts from. -/
theorem seizeTakesQueuesOrCongests : Obligations.SeizeTakesQueuesOrCongests := by
  unfold Obligations.SeizeTakesQueuesOrCongests
  intro w ws s g digits n sound ready hg direction wait count few read free lowest id eon waits call
  obtain ⟨-, -, pool, -, -, slot, -⟩ := orderStart_frame s w
  obtain ⟨time, circuit, group, -, -⟩ := orderStart_records s w
  have capable : ((orderStart w s).group g).direction.outgoingCapable = true := by
    rcases direction with h | h <;> rw [group, h] <;> rfl
  have body : orderBody .seize w.port ws (orderStart w s) = seizeCircuit id call digits eon (orderStart w s) :=
    orderSeize_hunts hg capable wait count few read (by rw [slot]; exact free) fun m hm => by rw [slot]; exact lowest m hm
  refine ⟨fun some_ => ?_, fun none_ waiting => ?_, fun none_ noWait => ?_⟩
  · obtain ⟨c, chosen⟩ := huntChoice_some (mode := (s.group g).huntMode) some_
    have listed := huntChoice_mem chosen
    have chosen0 : huntChoice ((orderStart w s).group call.group).huntMode ((orderStart w s).group call.group).idle =
        some c := by rw [group]; exact chosen
    have hunts : seizeCircuit id call digits eon (orderStart w s) =
        (enterOutSeizing c id digits eon ((orderStart w s).hunted c id call),
          resultBlock .seized [BitVec.ofNat 16 c.val, slotWord id]) := by
      rw [seizeCircuit, chosen0, ← pack_circuit]
      rfl
    obtain ⟨seizes, asked, taken, own, groups, circuits, ports, lines⟩ :=
      seizes_hunted (sound.orderStart w) (by rw [group]; exact listed) id call digits eon
    rw [group] at seizes own
    have unit := (sound.loose_of_idle ((sound.idleLists g c).mp listed).1).1
    refine ⟨c, _, listed, fun mode => huntChoice_low (mode ▸ chosen), fun mode => huntChoice_high (mode ▸ chosen),
      fun mode => huntChoice_longest (mode ▸ chosen), answers_block_of_body ready (body.trans hunts),
      seizes.congr_orderStart, ?_, taken, own, fun x hx => (groups x hx).trans (group x), fun empty d hd => ?_,
      fun d hd away => ?_, ports, (LinesKept.orderStart s w).trans lines⟩
    · exact asked.congr_left pool time (orderStart_par w s c) (fun d _ => circuit d) (sound.noneParkedOn unit)
    · rw [circuits d (by simpa using hd) (.inl empty), circuit]
    · rw [circuits d hd (.inr (by rwa [State.reclaimed_congr pool])), circuit]
  · have none0 : ((orderStart w s).group call.group).idle = [] := by rw [group]; exact none_
    refine answers_block_of_body ready (body.trans ?_)
    rw [seizeCircuit, none0]
    simp only [huntChoice, State.expiryAfter, time]
    exact if_pos waiting
  · have none0 : ((orderStart w s).group call.group).idle = [] := by rw [group]; exact none_
    refine refuses_of_body ready (body.trans ?_)
    rw [seizeCircuit, none0]
    exact if_neg (Nat.not_lt.mpr (Nat.le_of_eq noWait))

end Sys2Proof.Machine

/-! PROOFS. The entry test of OUT_SENDING (R46, R50), told once: what a circuit with a digit left makes of its sender, and where
a circuit with none left goes; with it ADD DIGITS (R50). -/

namespace Sys2Proof.Machine

section OneRecord

variable {c : Fin 96} {u : Fin 16} {s s1 t v : State} {digits : List (Fin 10)}

/-! ## States that differ in one circuit's record -/

/-- Outside the ports and the lines, two states differ in the record of one circuit alone, which stays in its group. -/
structure OneRecord (c : Fin 96) (s t : State) : Prop where
  circuits : CircuitsKept [c] s t
  groups : t.groups = s.groups
  pool : PoolKept s t
  time : t.timeBase = s.timeBase
  member : (t.circuit c).group = (s.circuit c).group

theorem OneRecord.of_only (only : OnlyCircuit c s t) (member : (t.circuit c).group = (s.circuit c).group) : OneRecord c s t := by
  obtain ⟨circuits, groups, pool, -, time, -⟩ := only
  exact ⟨circuits, groups, pool, time, member⟩

theorem OneRecord.trans (h : OneRecord c s t) (k : OneRecord c t v) : OneRecord c s v :=
  ⟨h.circuits.trans k.circuits, k.groups.trans h.groups, h.pool.trans k.pool, k.time.trans h.time, k.member.trans h.member⟩

theorem OneRecord.par (h : OneRecord c s t) (p : Param) : t.par c p = s.par c p :=
  State.par_congr h.member (fun g => by rw [State.group, h.groups]; rfl) p

theorem OneRecord.unit (h : OneRecord c s t) (u : Fin 16) : t.unit u = s.unit u := by rw [State.unit, h.pool.1, State.unit]

theorem OneRecord.circuit_ne (h : OneRecord c s t) {d : Fin 96} (hd : d ≠ c) : t.circuit d = s.circuit d :=
  h.circuits d (by simpa using hd)

/-- The fields that the start instant of a circuit's sender is decided from (R47, R117). -/
def Circuit.SendsAs (k r : Circuit) : Prop :=
  r.sent = k.sent ∧ r.seizeTime = k.seizeTime ∧ r.lastBrkEnd = k.lastBrkEnd ∧ r.prePause = k.prePause ∧
    r.idSend = k.idSend

theorem StartDecided.beside {before after : DigitUnit} (h : StartDecided c digits before after s1) (beside : OneRecord c s s1)
    (sends : (s.circuit c).SendsAs (s1.circuit c)) : StartDecided c digits before after s := by
  obtain ⟨sent, seizeTime, lastBrkEnd, prePause, idSend⟩ := sends
  exact h.congr sent seizeTime lastBrkEnd prePause idSend beside.time (beside.par _)

theorem SenderGoesOn.beside (h : SenderGoesOn c u digits s1 t) (beside : OneRecord c s s1)
    (sends : (s.circuit c).SendsAs (s1.circuit c)) : SenderGoesOn c u digits s t := by
  obtain ⟨units, resumes, decides, goes⟩ := h
  obtain ⟨-, -, -, parked⟩ := beside.pool
  rw [beside.unit] at resumes decides goes
  rw [parked] at resumes decides goes
  rw [beside.time] at resumes
  refine ⟨fun v hv => (units v hv).trans (beside.unit v), fun state => ?_, fun state undecided => ?_, goes⟩
  · obtain ⟨decided, list⟩ := resumes state
    exact ⟨decided.beside beside sends, list⟩
  · obtain ⟨decided, list⟩ := decides state undecided
    exact ⟨decided.beside beside sends, list⟩

end OneRecord

section EntryTest

variable {c d : Fin 96} {u : Fin 16} {s s1 t : State} {digits : List (Fin 10)}

/-! ## A digit is left (R46, R114, R117) -/

/-- What a circuit with a digit left makes of its sender, the branch of the entry test (R46). -/
def goOn (c : Fin 96) (s : State) : State :=
  match (s.circuit c).unit with
  | some u =>
    match (s.unit u).state with
    | .sender .parked => resume u c s
    | .sender .waitStart => if (s.unit u).subEnd.isNone then decideStart u c s else s
    | .sender .inBreak | .sender .inMake | .sender .pause | .register _ | .free | .outOfService => s
  | none => if (s.circuit c).unitReq.isNone then requestUnit c .sender s else s

theorem entryTest_of_left (left : (s.circuit c).digitLeft = true) :
    entryTest c s = goOn c (s.modCircuit c fun k => { k with timer := none }) := by
  simp only [entryTest, goOn, left, State.modCircuit_circuit_self, State.modCircuit_unit]
  rfl

/-- Deciding a start instant changes one unit. -/
theorem decideStart_only (u : Fin 16) (left : (s.circuit c).digitLeft = true) :
    OnlyUnit u s (decideStart u c s) ∧ PortsKept s (decideStart u c s) := by
  obtain ⟨f, eq, -⟩ := decideStart_modUnit u c s left
  rw [eq]
  exact ⟨.modUnit s u f, ⟨rfl, rfl⟩⟩

/-- The state in which a parked sender has left the parked list and has its start instant decided (R114). -/
def State.unparked (s : State) (u : Fin 16) : State :=
  { s.modUnit u fun k => { k with attachTime := s.timeBase } with parked := s.parked.filter fun v => v ≠ u }

theorem State.unparked_unit (s : State) (u v : Fin 16) :
    (s.unparked u).unit v = (s.modUnit u fun k => { k with attachTime := s.timeBase }).unit v := rfl

/-- A parked sender resumes (R114). -/
theorem resume_goes_on (left : (s.circuit c).digitLeft = true) :
    StartDecided c (s.circuit c).digits { s.unit u with attachTime := s.timeBase } ((resume u c s).unit u) s ∧
      (resume u c s).parked = s.parked.filter (fun v => v ≠ u) ∧ UnitsKept [u] s (resume u c s) ∧
      (resume u c s).circuits = s.circuits ∧ (resume u c s).groups = s.groups ∧ (resume u c s).regQueue = s.regQueue ∧
      (resume u c s).sndQueue = s.sndQueue ∧ PortsKept s (resume u c s) ∧ LinesKept s (resume u c s) := by
  have eq : resume u c s = decideStart u c (s.unparked u) := rfl
  obtain ⟨⟨units, circuits, groups, reg, snd, parked, lines⟩, ports⟩ := decideStart_only (s := s.unparked u) u left
  have decided := startDecided_decideStart u c (s.unparked u)
  rw [State.unparked_unit, State.modUnit_unit_self] at decided
  rw [eq]
  refine ⟨decided.congr rfl rfl rfl rfl rfl rfl rfl, parked, fun v hv => (units v hv).trans ?_, circuits, groups, reg, snd,
    ports, lines⟩
  rw [State.unparked_unit]
  exact State.modUnit_unit_ne s u _ (by simpa using hv)

/-- A circuit with a sender and a digit left. -/
theorem goOn_of_sender (left : (s.circuit c).digitLeft = true) (unit : (s.circuit c).unit = some u) :
    SenderGoesOn c u (s.circuit c).digits s (goOn c s) ∧ (goOn c s).circuits = s.circuits ∧
      (goOn c s).groups = s.groups ∧ (goOn c s).regQueue = s.regQueue ∧ (goOn c s).sndQueue = s.sndQueue ∧
      PortsKept s (goOn c s) ∧ LinesKept s (goOn c s) := by
  have parked (state : (s.unit u).state = .sender .parked) : goOn c s = resume u c s := by simp [goOn, unit, state]
  have decides (state : (s.unit u).state = .sender .waitStart) (undecided : (s.unit u).subEnd = none) :
      goOn c s = decideStart u c s := by simp [goOn, unit, state, undecided]
  have goes (state : (s.unit u).state ≠ .sender .parked)
      (decided : (s.unit u).state = .sender .waitStart → (s.unit u).subEnd ≠ none) : goOn c s = s := by
    cases h : (s.unit u).state with
    | free | outOfService | register => simp [goOn, unit, h]
    | sender sub =>
      cases sub with
      | parked => exact absurd h state
      | waitStart => simp [goOn, unit, h, decided h]
      | inBreak | inMake | pause => simp [goOn, unit, h]
  by_cases isParked : (s.unit u).state = .sender .parked
  · rw [parked isParked]
    obtain ⟨decided, list, units, circuits, groups, reg, snd, ports, lines⟩ := resume_goes_on (u := u) left
    refine ⟨⟨units, fun _ => ⟨decided, list⟩, fun other => ?_, fun other => ?_⟩, circuits, groups, reg, snd, ports, lines⟩
    · simp [isParked] at other
    · simp [isParked] at other
  by_cases waits : (s.unit u).state = .sender .waitStart ∧ (s.unit u).subEnd = none
  · rw [decides waits.1 waits.2]
    obtain ⟨⟨units, circuits, groups, reg, snd, list, lines⟩, ports⟩ := decideStart_only (c := c) u left
    refine ⟨⟨units, fun other => absurd other isParked, fun _ _ => ⟨startDecided_decideStart u c s, list⟩,
      fun other => ?_⟩, circuits, groups, reg, snd, ports, lines⟩
    simp [waits.1, waits.2] at other
  · rw [goes isParked fun state undecided => waits ⟨state, undecided⟩]
    exact ⟨⟨fun _ _ => rfl, fun other => absurd other isParked, fun state undecided => absurd ⟨state, undecided⟩ waits,
      fun _ => ⟨rfl, rfl⟩⟩, rfl, rfl, rfl, rfl, .refl s, .refl s⟩

/-- In OUT_SENDING a sender that is attached at its request has its start instant decided. -/
theorem requestUnit_decides (begins : (s.circuit c).begins) (apart : NoneParkedOn c s)
    (unit : (s.circuit c).unit = none) :
    ∀ u, ((requestUnit c .sender s).circuit c).unit = some u →
      StartDecided c (s.circuit c).digits ((requestUnit c .sender s).unit u) ((requestUnit c .sender s).unit u) s := by
  intro u served
  by_cases ready : s.freeUnit.isSome = true ∨ s.parked ≠ []
  · obtain ⟨v, s1, eq, time, groups, own⟩ := requestUnit_served (cls := .sender) apart ready
    rw [eq] at served ⊢
    rw [attach_sender_circuit, own] at served
    obtain rfl := Option.some.inj served
    have decided := attach_sender_unit_of_begins (u := v) (s := s1) (c := c) (by rw [own]; exact begins)
    rw [own] at decided
    exact (decided.congr (by rw [own]) (by rw [own]) (by rw [own]) (by rw [own]) (by rw [own]) time
      (State.par_congr (by rw [own]) (fun g => by rw [groups]) _)).self
  · obtain ⟨none_, empty⟩ := not_or.mp ready
    obtain ⟨own, -⟩ := requestUnit_queued (c := c) (cls := .sender) (by simpa using none_) (by simpa using empty)
    rw [own] at served
    simp [unit] at served

/-- What the entry test makes of a circuit with a digit left, told from an earlier state (R46). -/
structure GoesOn (c : Fin 96) (s s1 t : State) : Prop where
  record : ∃ unit unitReq, t.circuit c = { s1.circuit c with timer := none, unit := unit, unitReq := unitReq }
  sender : ∀ u, (s1.circuit c).unit = some u → (t.circuit c).unit = some u ∧
    (t.circuit c).unitReq = (s1.circuit c).unitReq ∧ SenderGoesOn c u (s1.circuit c).digits s t ∧
    t.regQueue = s.regQueue ∧ t.sndQueue = s.sndQueue ∧ CircuitsKept [c] s t
  waits : (s1.circuit c).unit = none → (s1.circuit c).unitReq ≠ none → (t.circuit c).unit = none ∧
    (t.circuit c).unitReq = (s1.circuit c).unitReq ∧ PoolKept s t ∧ CircuitsKept [c] s t
  asks : (s1.circuit c).unit = none → (s1.circuit c).unitReq = none → Asked c .sender s t ∧
    ∀ u, (t.circuit c).unit = some u → StartDecided c (s1.circuit c).digits (t.unit u) (t.unit u) s
  others : ∀ d, d ≠ c → s.reclaimed ≠ some d → t.circuit d = s.circuit d
  groups : t.groups = s.groups
  ports : PortsKept s1 t
  lines : LinesKept s1 t

theorem entryTest_goes_on (beside : OneRecord c s s1) (sends : (s.circuit c).SendsAs (s1.circuit c))
    (state : (s1.circuit c).state = .outSending) (left : (s1.circuit c).digitLeft = true)
    (apart : (s1.circuit c).unit = none → NoneParkedOn c s) (once : s.parked.Nodup) : GoesOn c s s1 (entryTest c s1) := by
  rw [entryTest_of_left left]
  have stopped : OneRecord c s (s1.modCircuit c fun k => { k with timer := none }) :=
    beside.trans (.of_only ((OnlyCircuit.refl s1 c).modCircuit _) (by simp))
  have own : (s1.modCircuit c fun k => { k with timer := none }).circuit c = { s1.circuit c with timer := none } :=
    State.modCircuit_circuit_self s1 c _
  have kept : LinesKept s1 (s1.modCircuit c fun k => { k with timer := none }) := ⟨rfl, rfl, rfl, rfl, rfl, rfl, rfl⟩
  have ports0 : PortsKept s1 (s1.modCircuit c fun k => { k with timer := none }) := ⟨rfl, rfl⟩
  generalize s1.modCircuit c (fun k => { k with timer := none }) = s2 at stopped own kept ports0 ⊢
  have left2 : (s2.circuit c).digitLeft = true := by rw [own]; exact left
  have sends2 : (s.circuit c).SendsAs (s2.circuit c) := by rw [own]; exact sends
  have digits : (s2.circuit c).digits = (s1.circuit c).digits := by rw [own]
  have record (h : (goOn c s2).circuits = s2.circuits) : (goOn c s2).circuit c = { s1.circuit c with timer := none } := by
    rw [← own, State.circuit, h, State.circuit]
  have others (h : (goOn c s2).circuits = s2.circuits) : CircuitsKept [c] s (goOn c s2) := fun d hd => by
    rw [State.circuit, h]
    exact stopped.circuits d hd
  cases unit : (s1.circuit c).unit with
  | some u =>
    obtain ⟨goes, circuits, groups, reg, snd, ports, lines⟩ := goOn_of_sender (u := u) left2 (by rw [own]; exact unit)
    rw [digits] at goes
    have same := record circuits
    refine ⟨⟨_, _, same⟩, fun v hv => ?_, fun none_ => ?_, fun none_ => ?_, fun d hd _ => ?_, groups.trans stopped.groups,
      ports0.trans ports, kept.trans lines⟩
    · obtain rfl := Option.some.inj (unit.symm.trans hv)
      exact ⟨by rw [same]; exact unit, by rw [same], goes.beside stopped sends2, reg.trans stopped.pool.2.1,
        snd.trans stopped.pool.2.2.1, others circuits⟩
    · simp [unit] at none_
    · simp [unit] at none_
    · exact others circuits d (by simpa using hd)
  | none =>
    have unit2 : (s2.circuit c).unit = none := by rw [own]; exact unit
    by_cases asked : (s1.circuit c).unitReq = none
    · have eq : goOn c s2 = requestUnit c .sender s2 := by simp [goOn, own, unit, asked]
      have apart2 := (apart unit).congr stopped.pool
      obtain ⟨groups, ports, lines⟩ := requestUnit_frame s2 c .sender
      obtain ⟨_, _, recorded⟩ := requestUnit_sender_circuit apart2
      rw [own] at recorded
      rw [eq]
      refine ⟨⟨_, _, recorded⟩, fun v hv => ?_, fun _ some_ => absurd asked some_, fun _ _ => ⟨?_, fun u hu => ?_⟩,
        fun d hd away => ?_, groups.trans stopped.groups, ports0.trans ports, kept.trans lines⟩
      · simp [unit] at hv
      · exact (asked_requestUnit unit2 (stopped.pool.2.2.2 ▸ once) apart2 .sender).congr_left stopped.pool stopped.time
          stopped.par (fun d hd => stopped.circuit_ne hd) (apart unit)
      · have decided := requestUnit_decides ⟨by rw [own]; exact state, left2⟩ apart2 unit2 u hu
        rw [digits] at decided
        exact decided.beside stopped sends2
      · rw [requestUnit_circuit_other hd (by rwa [State.reclaimed_congr stopped.pool]), stopped.circuit_ne hd]
    · have eq : goOn c s2 = s2 := by simp [goOn, own, unit, asked]
      rw [eq]
      exact ⟨⟨_, _, own⟩, fun v hv => by simp [unit] at hv,
        fun _ _ => ⟨unit2, by rw [own], stopped.pool, stopped.circuits⟩, fun _ none_ => absurd none_ asked,
        fun d hd _ => stopped.circuit_ne hd, stopped.groups, ports0, kept⟩

/-! ## No digit is left (R46, R51) -/

theorem entryTest_of_done (done : (s.circuit c).digitLeft = false) (eon : (s.circuit c).eon = false) :
    entryTest c s = s.startTimer c (1000 * s.par c .stallLimit) := by
  simp [entryTest, done, eon]

/-- With eon set the sender is let go and the circuit waits for the answer. -/
theorem Tied.entryTest_of_ended (h : Tied c s) (done : (s.circuit c).digitLeft = false) (eon : (s.circuit c).eon = true) :
    (entryTest c s).circuit c =
        { s.circuit c with unit := none, unitReq := none, state := .outWaitAnswer, timer := none } ∧
      ServedFrame c s (entryTest c s) ∧ CircuitEvent c .digitsSent s (entryTest c s) := by
  have eq : entryTest c s = ((Machine.letGo c s).modCircuit c fun k =>
      { k with state := .outWaitAnswer, timer := none }).raiseCircuit c .digitsSent := by
    simp only [entryTest, done, eon]
    rfl
  obtain ⟨own, frame, ports⟩ := h.letGo
  have event : CircuitEvent c .digitsSent s (entryTest c s) := fun p => by
    rw [eq, State.raiseCircuit_port, State.modCircuit_circuit_self, own, State.modCircuit_port, ports.port]
  refine ⟨by rw [eq, State.raiseCircuit_circuit, State.modCircuit_circuit_self, own], ?_, event⟩
  have last : OnlyCircuit c (Machine.letGo c s) (entryTest c s) := by
    rw [eq]
    exact ((OnlyCircuit.refl _ c).modCircuit _).raiseCircuit c _
  refine frame.around (.refl s c) rfl (PortStateKept.refl s) last fun p => ?_
  rw [event p, ports.port]
  split <;> exact ⟨rfl, rfl, rfl, rfl, rfl, rfl, rfl, rfl⟩

end EntryTest

section AddDigits

variable {c : Fin 96} {ws : List Word} {p : Port} {s t : State} {digits : List (Fin 10)} {eon : Bool}

/-! ## ADD DIGITS (R50) -/

theorem orderAddDigits_extends (hc : field (wordAt ws 1) 15 9 = c.val) (count : digits.length = field (wordAt ws 1) 4 0)
    (read : ∀ (i : Nat) (h : i < digits.length), (digits[i]).val = nibbleAt (ws.drop 2) i)
    (owner : (s.circuit c).owner = some p) (state : (s.circuit c).state = .outSeizing ∨ (s.circuit c).state = .outSending)
    (eon : (s.circuit c).eon = false) (few : (s.circuit c).digits.length + digits.length ≤ 24) :
    orderAddDigits p ws s = accept (extendDigits c digits (bitSet (wordAt ws 1) 8) s) := by
  have few' : ¬ 24 < (s.circuit c).digits.length + field (wordAt ws 1) 4 0 := by omega
  rcases state with state | state <;>
    simp [orderAddDigits, circuitOf_some.mpr hc, digitsOf_nibbles_vals count read, owner, state, eon, few']

/-- The state in which the digits have joined the string. -/
def State.extended (s : State) (c : Fin 96) (digits : List (Fin 10)) (eon : Bool) : State :=
  s.modCircuit c fun k => { k with digits := k.digits ++ digits, eon := k.eon || eon }

theorem State.extended_circuit (ended : (s.circuit c).eon = false) (digits : List (Fin 10)) (eon : Bool) :
    (s.extended c digits eon).circuit c =
      { s.circuit c with digits := (s.circuit c).digits ++ digits, eon := eon } := by
  simp [State.extended, ended]

theorem State.extended_only (s : State) (c : Fin 96) (digits : List (Fin 10)) (eon : Bool) :
    OnlyCircuit c s (s.extended c digits eon) := (OnlyCircuit.refl s c).modCircuit _

theorem State.extended_ports (s : State) (c : Fin 96) (digits : List (Fin 10)) (eon : Bool) :
    PortsKept s (s.extended c digits eon) := ⟨rfl, rfl⟩

theorem extendDigits_of_seizing (state : (s.circuit c).state = .outSeizing) :
    extendDigits c digits eon s =
      if ((s.extended c digits eon).circuit c).digitLeft = true ∧ (s.circuit c).unit = none ∧ (s.circuit c).unitReq = none
      then requestUnit c .sender (s.extended c digits eon) else s.extended c digits eon := by
  simp only [extendDigits, State.modCircuit_circuit_self, state, State.extended, Option.isNone_iff_eq_none]
  rfl

theorem extendDigits_of_sending (state : (s.circuit c).state = .outSending) :
    extendDigits c digits eon s = entryTest c (s.extended c digits eon) := by
  simp [extendDigits, state, State.extended]

theorem OneRecord.orderStart (s : State) (w : OrderWrite) (c : Fin 96) : OneRecord c s (orderStart w s) := by
  obtain ⟨circuits, groups, pool, ⟨-, time, -⟩, -⟩ := orderStart_frame s w
  exact ⟨fun d _ => by rw [State.circuit, circuits]; rfl, groups, pool, time, by rw [State.circuit, circuits]; rfl⟩

/-- What ADD DIGITS makes of a seizing circuit: a sender is requested where a digit is left and none is asked for yet. -/
theorem extendDigits_seizing {s0 : State} (one : OneRecord c s s0) (own : s0.circuit c = s.circuit c)
    (sound : PoolSound s) (state : (s.circuit c).state = .outSeizing) (ended : (s.circuit c).eon = false) :
    let t := extendDigits c digits eon s0
    (∃ unit unitReq, t.circuit c =
        { s.circuit c with digits := (s.circuit c).digits ++ digits, eon := eon, unit := unit, unitReq := unitReq }) ∧
      (¬ (s.circuit c).digits.length + digits.length ≤ (s.circuit c).sent → (s.circuit c).unit = none →
        (s.circuit c).unitReq = none → Asked c .sender s t) ∧
      (∀ u, (s.circuit c).unit = some u → PoolKept s t) ∧
      (∀ d, d ≠ c → s.reclaimed ≠ some d → t.circuit d = s.circuit d) ∧ t.groups = s.groups ∧ PortsKept s0 t ∧
      LinesKept s0 t := by
  intro t
  have record := State.extended_circuit (s := s0) (c := c) (by rw [own]; exact ended) digits eon
  rw [own] at record
  have only := s0.extended_only c digits eon
  have one' := one.trans (.of_only only (by rw [record, own]))
  have eq : t = _ := extendDigits_of_seizing (by rw [own]; exact state)
  rw [own] at eq
  split at eq
  · next asks =>
    obtain ⟨-, unit, unitReq⟩ := asks
    have apart := sound.noneParkedOn unit
    have unit1 : ((s0.extended c digits eon).circuit c).unit = none := by rw [record]; exact unit
    have asked := asked_requestUnit unit1 (one'.pool.2.2.2 ▸ sound.parkedOnce) (apart.congr one'.pool) .sender
    obtain ⟨_, _, recorded⟩ := requestUnit_sender_circuit (apart.congr one'.pool)
    obtain ⟨groups, ports, lines⟩ := requestUnit_frame (s0.extended c digits eon) c .sender
    rw [record] at recorded
    rw [eq]
    refine ⟨⟨_, _, recorded⟩, fun _ _ _ => ?_, fun u hu => ?_, fun d hd away => ?_, groups.trans one'.groups,
      (s0.extended_ports c digits eon).trans ports, only.2.2.2.trans lines⟩
    · exact asked.congr_left one'.pool one'.time one'.par (fun d hd => one'.circuit_ne hd) apart
    · simp [unit] at hu
    · rw [requestUnit_circuit_other hd (by rwa [State.reclaimed_congr one'.pool]), one'.circuit_ne hd]
  · next none_ =>
    rw [eq]
    refine ⟨⟨_, _, record⟩, fun left unit unitReq => absurd ⟨?_, unit, unitReq⟩ none_, fun _ _ => one'.pool,
      fun d hd _ => one'.circuit_ne hd, one'.groups, s0.extended_ports c digits eon, only.2.2.2⟩
    rw [record]
    simpa [Circuit.digitLeft] using left

end AddDigits

/-- Settles O34: a seizing circuit by `extendDigits_seizing`, a sending one by the entry test of the longer string. -/
theorem addDigitsExtendsTheString : Obligations.AddDigitsExtendsTheString := by
  unfold Obligations.AddDigitsExtendsTheString
  intro w ws s c digits sound ready hc count read owner state ended few k eon done
  obtain ⟨time, circuit, -, -, -⟩ := orderStart_records s w
  have one := OneRecord.orderStart s w c
  have lines0 := LinesKept.orderStart s w
  have body : orderBody .addDigits w.port ws (orderStart w s) = accept (extendDigits c digits eon (orderStart w s)) :=
    orderAddDigits_extends hc count read (by rw [circuit]; exact owner) (by rw [circuit]; exact state)
      (by rw [circuit]; exact ended) (by rw [circuit]; exact few)
  refine ⟨_, answers_of_body ready body, ?_⟩
  rcases state with seizing | sending
  · have no : k.state ≠ .outSending := by rw [show k.state = _ from seizing]; decide
    obtain ⟨⟨unit, unitReq, record⟩, asks, pool, others, groups, ports, lines⟩ :=
      extendDigits_seizing (digits := digits) (eon := eon) one (circuit c) sound seizing ended
    refine ⟨by rw [record], by rw [record], by rw [record], by rw [record], fun _ => ⟨by rw [record]; exact seizing, by rw [record]⟩,
      fun h => absurd h no, fun h => absurd h no, fun _ => .of_ports ports, fun h => absurd h no,
      fun left unit unitReq => ⟨asks left unit unitReq, fun h => absurd h no⟩, fun _ h => absurd h no, fun u _ => pool u,
      fun d hd away _ => others d hd away, groups, ports.portState, lines0.trans lines⟩
  · have no : k.state ≠ .outSeizing := by rw [show k.state = _ from sending]; decide
    have record0 := State.extended_circuit (s := orderStart w s) (c := c) (by rw [circuit]; exact ended) digits eon
    rw [circuit] at record0
    have only := (orderStart w s).extended_only c digits eon
    have ports0 := (orderStart w s).extended_ports c digits eon
    have one' := one.trans (.of_only only (by rw [record0, circuit]))
    rw [extendDigits_of_sending (by rw [circuit]; exact sending)]
    generalize (orderStart w s).extended c digits eon = s1 at record0 only ports0 one' ⊢
    have sending1 : (s1.circuit c).state = .outSending := by rw [record0]; exact sending
    cases left : (s1.circuit c).digitLeft with
    | true =>
      have notDone : ¬ done := by
        simpa [done, k, record0, Circuit.digitLeft] using left
      have goes := entryTest_goes_on one' (by rw [record0]; exact ⟨rfl, rfl, rfl, rfl, rfl⟩) sending1 left
        (fun unit => sound.noneParkedOn (by rw [record0] at unit; exact unit)) sound.parkedOnce
      obtain ⟨⟨_, _, record⟩, sender, -, asks, others, groups, ports, lines⟩ := goes
      rw [record0] at record sender asks
      refine ⟨by rw [record], by rw [record], by rw [record], by rw [record], fun h => absurd h no,
        fun _ _ => ⟨by rw [record]; exact sending, by rw [record]⟩, fun _ h => absurd h notDone,
        fun _ => .of_ports (ports0.trans ports), fun _ h => absurd h notDone,
        fun _ unit unitReq => ⟨(asks unit unitReq).1, fun _ => (asks unit unitReq).2⟩, fun u _ _ hu => ?_,
        fun _ h => absurd h no, fun d hd away _ => others d hd away, groups, (ports0.trans ports).portState,
        lines0.trans (only.2.2.2.trans lines)⟩
      obtain ⟨-, -, goesOn, -⟩ := sender u hu
      exact goesOn
    | false =>
      have isDone : done := by simpa [done, k, record0, Circuit.digitLeft] using left
      cases ends : eon with
      | true =>
        have tied : Tied c s1 := (sound.tied c).congr (by rw [record0]) one'.pool
        obtain ⟨record, ⟨served, groups, ports, lines⟩, event⟩ :=
          tied.entryTest_of_ended left (by rw [record0]; exact ends)
        rw [record0] at record
        have reports : Reports c [(k.owner, .digitsSent)] (orderStart w s) (entryTest c s1) := by
          have raised := CircuitEventBy.reports event
          rw [record0] at raised
          exact .after_quiet (.of_ports ports0) raised
        refine ⟨by rw [record], by rw [record]; exact ends, by rw [record], by rw [record], fun h => absurd h no,
          fun _ h => absurd isDone h, fun _ _ _ => ⟨by rw [record], by rw [record], by rw [record], reports⟩,
          fun h => by simp [no, isDone] at h, fun _ _ h => by simp at h, fun h => absurd isDone h,
          fun _ _ h => absurd isDone h, fun _ h => absurd h no, fun d hd _ unqueued => ?_, groups.trans one'.groups,
          ports0.portState.trans ports, lines0.trans (only.2.2.2.trans lines)⟩
        rw [served.1 d hd (by rwa [State.queued_congr one'.pool]), one'.circuit_ne hd]
      | false =>
        have eq := entryTest_of_done left (by rw [record0]; exact ends)
        rw [one'.par] at eq
        have last : OnlyCircuit c s1 (entryTest c s1) := by rw [eq]; exact (OnlyCircuit.refl s1 c).startTimer _
        have ports : PortsKept s1 (entryTest c s1) := by rw [eq]; exact ⟨rfl, rfl⟩
        have record : (entryTest c s1).circuit c = { s1.circuit c with
            timer := some { start := s.timeBase, value := 1000 * s.par c .stallLimit } } := by
          rw [eq, State.startTimer_circuit, if_pos rfl, one'.time]
        rw [record0] at record
        refine ⟨by rw [record], by rw [record]; exact ends, by rw [record], by rw [record], fun h => absurd h no,
          fun _ h => absurd isDone h, fun _ _ h => by simp at h, fun _ => .of_ports (ports0.trans ports),
          fun _ _ _ => ⟨by rw [record]; exact sending, by rw [record]⟩, fun h => absurd isDone h,
          fun _ _ h => absurd isDone h, fun _ h => absurd h no, fun d hd _ _ => ?_, last.2.1.trans one'.groups,
          (ports0.trans ports).portState, lines0.trans (only.2.2.2.trans last.2.2.2)⟩
        rw [last.1 d (by simpa using hd), one'.circuit_ne hd]

end Sys2Proof.Machine

/-! PROOFS. The leave to send (R42, R45): the circuit that proceeds, its entry test (R46), and an answer at the same instant
(R53). -/

namespace Sys2Proof.Machine

section Proceeding

variable {c d : Fin 96} {g : Fin 8} {u : Fin 16} {s s1 t t' : State}

/-! ## The circuit proceeds (R45) -/

/-- The state in which a circuit that proceeds makes the entry test. -/
def State.proceeding (s : State) (c : Fin 96) : State :=
  (breakLink c ((s.modCircuit c fun k => { k with timer := none }).raiseCircuit c .proceed)).modCircuit c
    fun k => { k with state := .outSending }

theorem proceed_eq (c : Fin 96) (s : State) :
    proceed c s =
      if answerRecognizedDue c (entryTest c (s.proceeding c)) then recognizeAnswer c (entryTest c (s.proceeding c))
      else entryTest c (s.proceeding c) := rfl

theorem State.proceeding_circuit (s : State) (c : Fin 96) :
    (s.proceeding c).circuit c = { s.circuit c with timer := none, slot := none, state := .outSending } := by
  rw [State.proceeding, State.modCircuit_circuit_self, breakLink_circuit_self, State.raiseCircuit_circuit,
    State.modCircuit_circuit_self]

theorem State.proceeding_only (s : State) (c : Fin 96) : OnlyCircuit c s (s.proceeding c) :=
  ((((OnlyCircuit.refl s c).modCircuit _).raiseCircuit c .proceed).trans (breakLink_only c _)).modCircuit _

theorem State.proceeding_port (s : State) (c : Fin 96) (p : Port) :
    (s.proceeding c).port p =
      { (if routedTo (s.circuit c).owner p then (s.port p).withEvent (.circuit c) .proceed else s.port p) with
        slots := ((s.proceeding c).port p).slots } := by
  rw [State.proceeding, State.modCircuit_port, breakLink_port, State.raiseCircuit_port, State.modCircuit_circuit_self,
    State.modCircuit_port]

theorem PortStateKept.of_event {owner : Option Port} {e : Event}
    (h : ∀ p, t.port p = { (if routedTo owner p then (s.port p).withEvent (.circuit c) e else s.port p) with
      slots := (t.port p).slots }) : PortStateKept s t := fun p => by
  rw [h p]
  split <;> exact ⟨rfl, rfl, rfl, rfl, rfl, rfl, rfl, rfl⟩

/-- One event on the circuit, whatever becomes of the slots. -/
theorem Reports.of_event {owner : Option Port} {e : Event}
    (h : ∀ p, t.port p = { (if routedTo owner p then (s.port p).withEvent (.circuit c) e else s.port p) with
      slots := (t.port p).slots }) : Reports c [(owner, e)] s t := by
  have raised : CircuitEventBy owner c e s
      { t with
        portA := if routedTo owner .A then (s.port .A).withEvent (.circuit c) e else s.port .A
        portB := if routedTo owner .B then (s.port .B).withEvent (.circuit c) e else s.port .B } := fun p => by
    cases p <;> rfl
  refine raised.reports.quiet (.of_same fun p => ?_)
  rw [h p]
  cases p <;> exact ⟨rfl, rfl⟩

theorem State.proceeding_slotPend (s : State) (c : Fin 96) (id : SlotId) :
    ((s.modCircuit c fun k => { k with timer := none }).raiseCircuit c .proceed).slotPend id = s.slotPend id := by
  rw [State.slotPend, State.raiseCircuit_port, State.modCircuit_circuit_self, State.modCircuit_port]
  split
  · exact ((s.port id.port).withEvent_other (it := .circuit c) (x := .slot id.num) (by simp) .proceed).1
  · rfl

theorem State.proceeding_linkBroken (s : State) (c : Fin 96) : LinkBroken c s (s.proceeding c) := by
  refine ((breakLink_linkBroken c _).after (by simp) (fun id => ?_) (s.proceeding_slotPend c)).before fun id => ?_
  · rw [State.raiseCircuit_slot, State.modCircuit_slot]
  · exact State.modCircuit_slot _ c _ id

theorem PoolSound.proceeding (h : PoolSound s) (seizing : (s.circuit c).state = .outSeizing) : PoolSound (s.proceeding c) := by
  have broken := ((h.unseen (.stopTimer c)).raiseCircuit c .proceed).breakLink c
  have own := breakLink_circuit_self c ((s.modCircuit c fun k => { k with timer := none }).raiseCircuit c .proceed)
  exact (broken.manned.modCall (.inr (by rw [own]; simp [seizing, CircuitState.sends])) rfl rfl rfl).sound

/-! ## The entry test of a circuit that proceeds (R46, R51) -/

theorem UnitServed.beside (h : UnitServed c s1 t) (one : OneRecord c s s1) (unit : (s1.circuit c).unit = (s.circuit c).unit) :
    UnitServed c s t := by
  obtain ⟨others, units, parked, reg, snd⟩ := h
  obtain ⟨-, reg', snd', parked'⟩ := one.pool
  rw [unit] at units parked
  exact ⟨fun d hd away => (others d hd (by rwa [State.queued_congr one.pool])).trans (one.circuit_ne hd),
    fun u hu => (units u hu).trans (one.unit u), parked' ▸ parked, reg' ▸ reg, snd' ▸ snd⟩

theorem PortsKept.linkBroken (broken : LinkBroken c s s1) (ports : PortsKept s1 t) : LinkBroken c s t :=
  broken.before ports.slot

/-- A seizing circuit whose leave to send has come, as the entry test leaves it: told from a state that differs, outside the
lines, in the circuit's thresholds and its mark of the present ON alone. -/
theorem proceeds_entryTest {held : Option Held} {presentOn : Bool} (sound : PoolSound s) (one : OneRecord c s s1)
    (own : s1.circuit c = { s.circuit c with held := held, presentOn := presentOn }) (ports : PortsKept s s1) :
    Proceeds c s (entryTest c (s1.proceeding c)) ∧ LinesKept s1 (entryTest c (s1.proceeding c)) ∧
      ((entryTest c (s1.proceeding c)).circuit c).held = held := by
  have record := s1.proceeding_circuit c
  rw [own] at record
  have only := s1.proceeding_only c
  have one' : OneRecord c s (s1.proceeding c) := one.trans (.of_only only (by rw [record, own]))
  have port : ∀ p, (s1.proceeding c).port p =
      { (if routedTo (s.circuit c).owner p then (s.port p).withEvent (.circuit c) .proceed else s.port p) with
        slots := ((s1.proceeding c).port p).slots } := fun p => by
    have h := s1.proceeding_port c p
    rw [own, ports.port] at h
    exact h
  have reports := Reports.of_event port
  have portState := PortStateKept.of_event port
  have broken : LinkBroken c s (s1.proceeding c) :=
    (s1.proceeding_linkBroken c).after (by rw [own]) ports.slot fun id => by rw [State.slotPend, ports.port]; rfl
  generalize s1.proceeding c = s2 at record only one' reports portState broken ⊢
  cases left : (s2.circuit c).digitLeft with
  | true =>
    have notDone : ¬ (s.circuit c).digits.length ≤ (s.circuit c).sent := by simpa [record, Circuit.digitLeft] using left
    obtain ⟨⟨_, _, recorded⟩, sender, waits, asks, others, groups, kept, lines⟩ :=
      entryTest_goes_on one' (by rw [record]; exact ⟨rfl, rfl, rfl, rfl, rfl⟩) (by rw [record]) left
        (fun unit => sound.noneParkedOn (by rw [record] at unit; exact unit)) sound.parkedOnce
    rw [record] at recorded sender waits asks
    refine ⟨⟨by rw [recorded], by rw [recorded], by rw [recorded], by rw [recorded], by rw [recorded], by rw [recorded],
      kept.linkBroken broken, groups, portState.trans kept.portState, fun h => absurd h notDone, fun h => absurd h notDone,
      fun _ => ⟨by rw [recorded], by rw [recorded], reports.quiet (.of_ports kept), others, sender, waits, asks⟩⟩,
      only.2.2.2.trans lines, by rw [recorded]⟩
  | false =>
    have done : (s.circuit c).digits.length ≤ (s.circuit c).sent := by simpa [record, Circuit.digitLeft] using left
    cases eon : (s.circuit c).eon with
    | true =>
      have tied : Tied c s2 := (sound.tied c).congr (by rw [record]) one'.pool
      obtain ⟨recorded, ⟨served, groups, kept, lines⟩, event⟩ := tied.entryTest_of_ended left (by rw [record]; exact eon)
      have raised := CircuitEventBy.reports event
      rw [record] at recorded raised
      refine ⟨⟨by rw [recorded], by rw [recorded], by rw [recorded], by rw [recorded], by rw [recorded], by rw [recorded],
        broken.before fun id => ?_, groups.trans one'.groups, portState.trans kept, fun _ _ => ⟨by rw [recorded],
        by rw [recorded], by rw [recorded], by rw [recorded], reports.trans raised, served.beside one' (by rw [record])⟩,
        fun _ h => by simp [eon] at h, fun h => absurd done h⟩, only.2.2.2.trans lines, by rw [recorded]⟩
      rw [State.slot, event]
      split <;> rfl
    | false =>
      have eq := entryTest_of_done left (by rw [record]; exact eon)
      rw [one'.par] at eq
      have last : OnlyCircuit c s2 (entryTest c s2) := by rw [eq]; exact (OnlyCircuit.refl s2 c).startTimer _
      have kept : PortsKept s2 (entryTest c s2) := by rw [eq]; exact ⟨rfl, rfl⟩
      have recorded : (entryTest c s2).circuit c = { s2.circuit c with
          timer := some { start := s.timeBase, value := 1000 * s.par c .stallLimit } } := by
        rw [eq, State.startTimer_circuit, if_pos rfl, one'.time]
      rw [record] at recorded
      exact ⟨⟨by rw [recorded], by rw [recorded], by rw [recorded], by rw [recorded], by rw [recorded], by rw [recorded],
        kept.linkBroken broken, last.2.1.trans one'.groups, portState.trans kept.portState,
        fun _ h => by simp [eon] at h, fun _ _ => ⟨by rw [recorded], by rw [recorded], by rw [recorded],
        by rw [recorded], reports.quiet (.of_ports kept), one'.pool.trans last.2.2.1, one'.circuits.trans last.1⟩,
        fun h => absurd done h⟩, only.2.2.2.trans last.2.2.2, by rw [recorded]⟩

/-- The events of the leave to send (R45, R46). -/
theorem Proceeds.reports (h : Proceeds c s t) :
    Reports c ([((s.circuit c).owner, .proceed)] ++
      if (s.circuit c).digits.length ≤ (s.circuit c).sent ∧ (s.circuit c).eon = true then
        [((s.circuit c).owner, .digitsSent)] else []) s t := by
  obtain ⟨-, -, -, -, -, -, -, -, -, ended, stalls, left⟩ := h
  by_cases done : (s.circuit c).digits.length ≤ (s.circuit c).sent
  · cases eon : (s.circuit c).eon with
    | true =>
      obtain ⟨-, -, -, -, reports, -⟩ := ended done eon
      simpa [done] using reports
    | false =>
      obtain ⟨-, -, -, -, reports, -⟩ := stalls done eon
      simpa using reports
  · obtain ⟨-, -, reports, -⟩ := left done
    simpa [done] using reports

theorem Proceeds.state (h : Proceeds c s t) : (t.circuit c).state = .outSending ∨ (t.circuit c).state = .outWaitAnswer := by
  obtain ⟨-, -, -, -, -, -, -, -, -, ended, stalls, left⟩ := h
  by_cases done : (s.circuit c).digits.length ≤ (s.circuit c).sent
  · cases eon : (s.circuit c).eon with
    | true => exact .inr (ended done eon).1
    | false => exact .inl (stalls done eon).1
  · exact .inl (left done).1

/-! ## What follows on the entry test (R53, R178) -/

theorem SenderGoesOn.congr_right {digits : List (Fin 10)} (h : SenderGoesOn c u digits s t) (pool : PoolKept t t') :
    SenderGoesOn c u digits s t' := by
  obtain ⟨units, -, -, parked⟩ := pool
  have unit : ∀ v, t'.unit v = t.unit v := fun v => by rw [State.unit, units, State.unit]
  simp only [SenderGoesOn, UnitsKept, unit, parked] at h ⊢
  exact h

theorem UnitServed.congr_right (h : UnitServed c s t) (circuits : t'.circuits = t.circuits) (pool : PoolKept t t') :
    UnitServed c s t' := by
  obtain ⟨units, reg, snd, parked⟩ := pool
  have unit : ∀ v, t'.unit v = t.unit v := fun v => by rw [State.unit, units, State.unit]
  have circuit : ∀ d, t'.circuit d = t.circuit d := fun d => by rw [State.circuit, circuits, State.circuit]
  simp only [UnitServed, unit, circuit, reg, snd, parked] at h ⊢
  exact h

theorem Watched.circuitsKept {l : List (Fin 96)} (h : CircuitsKept l s t) (w : Watched t t') : CircuitsKept l s t' :=
  fun d hd => (w.circuit d).trans (h d hd)

theorem Proceeds.watched (h : Proceeds c s t) (w : Watched t t') : Proceeds c s t' := by
  obtain ⟨units, reg, snd, -⟩ := w.pool
  obtain ⟨slot, owner, digits, sent, eon, sup, broken, groups, ports, ended, stalls, left⟩ := h
  unfold Proceeds
  simp only [w.circuit, w.unit, reg, snd]
  refine ⟨slot, owner, digits, sent, eon, sup, broken.before w.slot, w.groups.trans groups, ports.trans w.portState,
    fun done set => ?_, fun done unset => ?_, fun notDone => ?_⟩
  · obtain ⟨state, timer, unit, unitReq, reports, served⟩ := ended done set
    exact ⟨state, timer, unit, unitReq, reports.quiet (w.quiet c), served.congr_right w.circuits w.pool⟩
  · obtain ⟨state, timer, unit, unitReq, reports, pool, circuits⟩ := stalls done unset
    exact ⟨state, timer, unit, unitReq, reports.quiet (w.quiet c), pool.trans w.pool, w.circuitsKept circuits⟩
  · obtain ⟨state, timer, reports, others, sender, waits, asks⟩ := left notDone
    refine ⟨state, timer, reports.quiet (w.quiet c), others, fun u hu => ?_, fun unit unitReq => ?_,
      fun unit unitReq => ?_⟩
    · obtain ⟨unit, unitReq, goes, reg', snd', circuits⟩ := sender u hu
      exact ⟨unit, unitReq, goes.congr_right w.pool, reg', snd', w.circuitsKept circuits⟩
    · obtain ⟨unit', unitReq', pool, circuits⟩ := waits unit unitReq
      exact ⟨unit', unitReq', pool.trans w.pool, w.circuitsKept circuits⟩
    · obtain ⟨asked, decided⟩ := asks unit unitReq
      exact ⟨asked.congr_right w.circuits w.pool, decided⟩

/-- An answer at the instant of the leave to send is told by the thresholds, the lead and the time base alone (R53). -/
theorem answerRecognizedDue_iff (state : (t.circuit c).state = .outSending ∨ (t.circuit c).state = .outWaitAnswer)
    (held : (t.circuit c).held = (s.circuit c).held) (lines : LinesKept s t) :
    answerRecognizedDue c t = true ↔ (s.filter c).recCond = .on ∧ (s.heldOf c).ansRec ≤ s.recFor c := by
  obtain ⟨-, time, filters, -⟩ := lines
  have filter : t.filter c = s.filter c := by rw [State.filter, filters, State.filter]
  have heldOf : t.heldOf c = s.heldOf c := by rw [State.heldOf, State.heldOf, held, filter]
  have recFor : t.recFor c = s.recFor c := by rw [State.recFor, State.recFor, filter, time]
  simp [answerRecognizedDue, state, State.leadOn, filter, heldOf, recFor]

/-- `answered`, with its count of the digits not sent (R53, R153). -/
theorem Reports.answered {n : Nat}
    (h : ∀ p, t.port p =
      let it := Item.circuit c
      let r := s.port p
      if routedTo (s.circuit c).owner p then
        { r.withEvent it .answered with
          pend := r.pend.set it.index { (r.pend[it.index]).add .answered with discarded := n } }
      else r) : Reports c [((s.circuit c).owner, .answered)] s t := by
  intro p
  rw [h p]
  by_cases routed : routedTo (s.circuit c).owner p = true
  · simp only [if_pos routed, List.filter_cons, List.filter_nil, List.foldl_cons, List.foldl_nil]
    refine ⟨by simp [EventSet.add], fun other => absurd rfl (other _ List.mem_cons_self), ?_, ?_⟩
    · exact ((s.port p).mem_withEvent _ _ _).trans (by simp)
    · exact (s.port p).withEvent_prefix _ _
  · simp [routed]

/-- The leave to send at which the answer is recognized too (R45, R53). -/
theorem Proceeds.answered (proceeds : Proceeds c s t) (lines : LinesKept s t) (tied : Tied c t) :
    let r := (recognizeAnswer c t).circuit c
    let k := s.circuit c
    r.state = .outAnswered ∧ r.answered = true ∧ r.ansTime = s.timeBase ∧ r.slot = none ∧ r.owner = k.owner ∧
      r.unit = none ∧ r.unitReq = none ∧ r.timer = none ∧ r.digits = k.digits.take k.sent ∧
      Reports c ([(k.owner, .proceed)] ++
        (if k.digits.length ≤ k.sent ∧ k.eon = true then [(k.owner, .digitsSent)] else []) ++ [(k.owner, .answered)]) s
          (recognizeAnswer c t) ∧
      (∀ p, routedTo k.owner p = true →
        (((recognizeAnswer c t).port p).pend[(Item.circuit c).index]).discarded = k.digits.length - k.sent) ∧
      LinkBroken c s (recognizeAnswer c t) ∧ (recognizeAnswer c t).groups = s.groups ∧
      PortStateKept s (recognizeAnswer c t) ∧ LinesKept s (recognizeAnswer c t) := by
  have reports := proceeds.reports
  obtain ⟨slot, owner, digits, sent, -, -, broken, groups, ports, -⟩ := proceeds
  obtain ⟨record, port, -, groups', ports', lines'⟩ := tied.recognizeAnswer
  have raised := Reports.answered port
  rw [owner, digits, sent] at port
  rw [owner] at raised
  have time : t.timeBase = s.timeBase := lines.2.1
  simp only
  refine ⟨by rw [record], by rw [record], by rw [record, time], by rw [record]; exact slot, by rw [record]; exact owner,
    by rw [record], by rw [record], by rw [record], by rw [record, digits, sent], reports.trans raised, fun p hp => ?_,
    broken.before fun id => ?_, groups'.trans groups, ports.trans ports', lines.trans lines'⟩
  · rw [port, if_pos hp]
    simp
  · rw [State.slot, port]
    split <;> rfl

end Proceeding

section SeizingTransition

variable {c : Fin 96} {g : Fin 8} {s t : State}

/-! ## Transitions of a seizing circuit (R42, R45) -/

/-- What a seizing circuit takes as a recognition is ack_max alone (R43). -/
theorem supervisionDue_of_seizing (seizing : (s.circuit c).state = .outSeizing) : supervisionDue c s = ackMaxDue c s := by
  simp [supervisionDue, seizureDue, farSeizeDue, answerRecognizedDue, clearBackDue, reanswerDue, clearForwardDue, seizing,
    CircuitState.clearable]

theorem ackMaxDue_of_early (early : if (s.circuit c).presentOn then
      elapsed s.timeBase (s.circuit c).seizeTime < (s.circuit c).seizeAckMax else s.recFor c < (s.heldOf c).ackMax) :
    ackMaxDue c s = false := by
  cases present : (s.circuit c).presentOn <;> simp [present] at early <;> simp [ackMaxDue, present, early]

/-- A TO_OFF in OUT_SEIZING, with no glare held: an acknowledgement proceeds, and no other ends the state (R42). -/
theorem supervisionOff_seizing (seizing : (s.circuit c).state = .outSeizing)
    (free : (s.circuit c).glarePhase ≠ .holding) (width : Nat) (held : Held) :
    supervisionOff c width held (stamped c s) =
      if (s.circuit c).presentOn = false ∧ s.startMode c = .ackStart ∧ held.ackMin ≤ width ∧ width < held.ackMax then
        proceed c (s.guardEnded c) else s.guardEnded c := by
  have mode : (s.guardEnded c).startMode c = s.startMode c :=
    State.startMode_congr (by simp [State.guardEnded]) fun _ => rfl
  rw [State.guardEnded] at mode
  simp [supervisionOff, seizing, seizingOff, free, State.guardEnded, mode]

theorem guardEnded_circuit (c : Fin 96) (s : State) :
    (s.guardEnded c).circuit c = { s.circuit c with held := s.thresholds c, presentOn := false } := by
  simp [State.guardEnded]

theorem guardEnded_record (c : Fin 96) (s : State) : OneRecord c s (s.guardEnded c) where
  circuits d hd := (State.modCircuit_circuit_ne _ c _ (by simpa using hd)).trans (stamped_circuitsKept c s d hd)
  groups := rfl
  pool := ⟨rfl, rfl, rfl, rfl⟩
  time := rfl
  member := by rw [guardEnded_circuit]

/-- Once the ON has ended no answer is recognized. -/
theorem guardEnded_lead (on : (s.filter c).recCond = .on) : ((s.guardEnded c).filter c).recCond = .off := by
  have filter : (s.guardEnded c).filter c = (stamped c s).filter c := rfl
  rw [filter, stamped_filter, on]
  rfl

end SeizingTransition

/-- Settles O12: the leave to send, and the transitions that are none. -/
theorem leaveToSendProceeds : Obligations.LeaveToSendProceeds := by
  unfold Obligations.LeaveToSendProceeds
  intro c g s awake sound seizing member free k acknowledged early answered sent
  have mode : s.startMode c = (s.group g).startMode := State.startMode_of_group member
  have receiving : (s.circuit c).state ≠ .inReceiving := by simp [seizing]
  refine ⟨fun due on => ?_, fun due off => ?_, fun timed timer => ?_⟩
  · have off := supervisionOff_seizing seizing free (s.recFor c) (s.heldOf c)
    rw [mode] at off
    have quiet (before : early) : supervisionDue c s = false :=
      (supervisionDue_of_seizing seizing).trans (ackMaxDue_of_early before)
    refine ⟨fun ack => ?_, fun noAck before => ?_⟩
    · obtain ⟨ackStart, fresh, long, short⟩ := ack
      rw [if_pos ⟨fresh, ackStart, long, short⟩] at off
      have before : early := by
        have fresh' : k.presentOn = false := fresh
        simpa [early, fresh'] using short
      obtain ⟨proceeds, lines, held⟩ := proceeds_entryTest sound (guardEnded_record c s) (guardEnded_circuit c s) ⟨rfl, rfl⟩
      have noAnswer : proceed c (s.guardEnded c) = entryTest c ((s.guardEnded c).proceeding c) := by
        rw [proceed_eq]
        refine if_neg fun answer => ?_
        have lead := ((answerRecognizedDue_iff proceeds.state (by rw [held, guardEnded_circuit]) lines).mp answer).1
        rw [guardEnded_lead on] at lead
        cases lead
      rw [noAnswer] at off
      have soundAfter := (stamped_sound sound c).supervisionOff c (s.recFor c) (s.heldOf c)
      rw [off] at soundAfter
      obtain ⟨t, runs, watched⟩ := exec_taken_off awake due sound (quiet before) receiving on (by
        rw [off]
        exact fun u hu sub => soundAfter.no_register (by rcases proceeds.state with h | h <;> simp [h]) hu sub)
      rw [off] at watched
      exact ⟨t, runs, proceeds.watched watched⟩
    · rw [if_neg fun ⟨fresh, ackStart, long, short⟩ => noAck ⟨ackStart, fresh, long, short⟩] at off
      obtain ⟨t, runs, watched⟩ := exec_taken_off awake due sound (quiet before) receiving on
        (by rw [off]; exact no_register_after sound receiving fun _ => rfl)
      rw [off] at watched
      exact ⟨t, runs, transitionIgnored_of false watched⟩
  · have quiet : supervisionDue c s = false :=
      (supervisionDue_of_seizing seizing).trans (by simp [ackMaxDue, leadOn_eq off])
    have taken : supervisionOn c (stamped c s) =
        (stamped c s).modCircuit c fun r => { r with presentOn := decide (k.seizeTime = s.timeBase) } := by
      simp [supervisionOn, seizing, State.modCircuit, eq_comm, k]
    obtain ⟨t, runs, watched⟩ := exec_taken_on awake due sound quiet receiving off
      (by rw [taken]; exact no_register_after sound receiving fun _ => rfl)
    rw [taken] at watched
    exact ⟨t, runs, transitionIgnored_of _ watched⟩
  · have due : prePauseDue c s = true := by
      simp [prePauseDue, seizing, mode, timed, free, timerDue_iff.mpr timer]
    obtain ⟨proceeds, lines, held⟩ := proceeds_entryTest (held := k.held) (presentOn := k.presentOn) sound
      (.of_only (.refl s c) rfl) rfl (.refl s)
    have answer := answerRecognizedDue_iff proceeds.state held lines
    have soundAfter : PoolSound (entryTest c (s.proceeding c)) :=
      (sound.proceeding seizing).entryTest (by rw [State.proceeding_circuit])
    refine ⟨_, onCircuit_due awake due, ?_⟩
    rw [proceed_eq]
    by_cases recognized : answered
    · rw [if_pos (answer.mpr recognized)]
      obtain ⟨state, answered', ansTime, slot, owner, unit, unitReq, timer', digits, reports, discarded, broken, groups,
        ports, lines'⟩ := proceeds.answered lines (soundAfter.tied c)
      exact ⟨lines', fun no => absurd recognized no, fun _ => ⟨state, answered', ansTime, slot, owner, unit, unitReq,
        timer', digits, reports, discarded, broken, groups, ports⟩⟩
    · rw [if_neg fun due => recognized (answer.mp due)]
      exact ⟨lines, fun _ => proceeds, fun yes => absurd yes recognized⟩

end Sys2Proof.Machine

/-! PROOFS. UNIT SERVICE (R115): a unit goes out of service or comes back, to the head of the queue or FREE. -/

namespace Sys2Proof.Machine

section Services

variable {u : Fin 16} {c : Fin 96} {p : Port} {ws : List Word} {s t : State} {act : Fin 16 → State → State}

/-! ## The tests of the order -/

theorem unitOrder_badValue (h : 15 < field (wordAt ws 1) 4 0) : unitOrder act ws s = refuse .badValue s := by
  simp [unitOrder, sixteenOf_none.mpr h]

theorem unitOrder_acts (h : field (wordAt ws 1) 4 0 = u.val) : unitOrder act ws s = accept (act u s) := by
  simp [unitOrder, sixteenOf_some.mpr h]

/-! ## By the unit's state (R115) -/

theorem takeUnitOut_of_free (h : (s.unit u).state = .free) :
    takeUnitOut u s = s.modUnit u fun k => { k with state := .outOfService } := by
  simp [takeUnitOut, h]

theorem takeUnitOut_of_out (h : (s.unit u).state = .outOfService) : takeUnitOut u s = s := by simp [takeUnitOut, h]

theorem takeUnitOut_of_parked (h : (s.unit u).state = .sender .parked) :
    takeUnitOut u s = (unlinkUnit u s).modUnit u fun k => { k with state := .outOfService, pendingOos := false } := by
  simp [takeUnitOut, h]

/-- A unit in use is marked. -/
theorem takeUnitOut_of_busy (out : (s.unit u).state ≠ .outOfService) (free : (s.unit u).state ≠ .free)
    (parked : (s.unit u).state ≠ .sender .parked) :
    takeUnitOut u s = s.modUnit u fun k => { k with pendingOos := true } := by
  cases state : (s.unit u).state with
  | free => exact absurd state free
  | outOfService => exact absurd state out
  | register => simp [takeUnitOut, state]
  | sender sub =>
    cases sub with
    | parked => exact absurd state parked
    | waitStart | inBreak | inMake | pause => simp [takeUnitOut, state]

theorem bringUnitIn_of_free (h : (s.unit u).state = .free) : bringUnitIn u s = s := by simp [bringUnitIn, h]

theorem bringUnitIn_of_out (h : (s.unit u).state = .outOfService) :
    bringUnitIn u s = becomeAvailable u (s.modUnit u fun k => { k with state := .free }) := by
  simp [bringUnitIn, h]

/-- The mark of a unit in use is cleared. -/
theorem bringUnitIn_of_busy (out : (s.unit u).state ≠ .outOfService) (free : (s.unit u).state ≠ .free) :
    bringUnitIn u s = s.modUnit u fun k => { k with pendingOos := false } := by
  cases state : (s.unit u).state with
  | free => exact absurd state free
  | outOfService => exact absurd state out
  | register | sender => simp [bringUnitIn, state]

/-! ## A parked sender goes out of service -/

theorem takeUnitOut_parked (h : (s.unit u).state = .sender .parked) :
    (takeUnitOut u s).unit u = { (s.unit u).detached with state := .outOfService, pendingOos := false } ∧
      (takeUnitOut u s).parked = s.parked.filter (fun v => v ≠ u) ∧ UnitsKept [u] s (takeUnitOut u s) ∧
      (∀ c, (s.unit u).circuit = some c → (takeUnitOut u s).circuit c = { s.circuit c with unit := none } ∧
        CircuitsKept [c] s (takeUnitOut u s)) ∧
      (takeUnitOut u s).regQueue = s.regQueue ∧ (takeUnitOut u s).sndQueue = s.sndQueue ∧
      (takeUnitOut u s).groups = s.groups ∧ LinesKept s (takeUnitOut u s) ∧ PortsKept s (takeUnitOut u s) := by
  obtain ⟨record, others, circuits, parked, reg, snd, groups, ports, lines⟩ := unlinkUnit_spec s u
  rw [takeUnitOut_of_parked h]
  refine ⟨by rw [State.modUnit_unit_self, record], parked, fun v hv => ?_, fun c serves => ⟨?_, fun d hd => ?_⟩, reg, snd,
    groups, lines, ports⟩
  · have other : v ≠ u := by simpa using hv
    rw [State.modUnit_unit_ne _ u _ other, others v other]
  · rw [State.modUnit_circuit, circuits, if_pos serves]
  · rw [State.modUnit_circuit, circuits, if_neg]
    rw [serves]
    simpa [eq_comm] using hd

/-! ## A unit comes back to the queue's head (R106, R107) -/

/-- An attached sender is one. -/
theorem attach_sender_isSender (u : Fin 16) (c : Fin 96) (s : State) :
    ((attach u c .sender s).unit u).state.isSender = true := by
  by_cases h : (s.circuit c).begins
  · obtain ⟨f, eq, kept⟩ := decideStart_modUnit u c (s.waitingFor u c) (by simpa [Circuit.digitLeft] using h.2)
    rw [attach_sender_of_begins h, eq, State.modUnit_unit_self]
    rcases (kept ((s.waitingFor u c).unit u)).2 with state | state <;> rw [state] <;> rfl
  · rw [attach_sender_unit_of_waiting h]
    rfl

/-- The oldest REGISTER entry is served first, then the oldest SENDER entry. -/
theorem becomeAvailable_register {e : QueueEntry} {rest : List QueueEntry} (h : s.regQueue = e :: rest) :
    becomeAvailable u s = attach u e.circuit .register { s with regQueue := rest } := by simp [becomeAvailable, h]

theorem becomeAvailable_sender {e : QueueEntry} {rest : List QueueEntry} (none_ : s.regQueue = [])
    (h : s.sndQueue = e :: rest) : becomeAvailable u s = attach u e.circuit .sender { s with sndQueue := rest } := by
  simp [becomeAvailable, none_, h]

theorem becomeAvailable_none (reg : s.regQueue = []) (snd : s.sndQueue = []) : becomeAvailable u s = s := by
  simp [becomeAvailable, reg, snd]

/-- What the queue makes of a unit that comes back, told from a state with the same records. -/
theorem bringUnitIn_serves {s0 : State} (out : (s.unit u).state = .outOfService) (circuits : s0.circuits = s.circuits)
    (groups : s0.groups = s.groups) (pool : PoolKept s s0) (time : s0.timeBase = s.timeBase) :
    (∀ e rest, s.regQueue = e :: rest → RegisterAttached e.circuit u s (bringUnitIn u s0) ∧
        (bringUnitIn u s0).regQueue = rest ∧ (bringUnitIn u s0).sndQueue = s.sndQueue ∧
        UnitsKept [u] s (bringUnitIn u s0) ∧ CircuitsKept [e.circuit] s (bringUnitIn u s0)) ∧
      (∀ e rest, s.regQueue = [] → s.sndQueue = e :: rest → ((bringUnitIn u s0).unit u).circuit = some e.circuit ∧
        ((bringUnitIn u s0).unit u).state.isSender = true ∧ ((bringUnitIn u s0).circuit e.circuit).unit = some u ∧
        (bringUnitIn u s0).sndQueue = rest ∧ UnitsKept [u] s (bringUnitIn u s0) ∧
        CircuitsKept [e.circuit] s (bringUnitIn u s0)) := by
  obtain ⟨units, reg, snd, -⟩ := pool
  have unit : ∀ v, s0.unit v = s.unit v := fun v => by rw [State.unit, units, State.unit]
  have circuit : ∀ d, s0.circuit d = s.circuit d := fun d => by rw [State.circuit, circuits, State.circuit]
  have group : ∀ g, s0.group g = s.group g := fun g => by rw [State.group, groups, State.group]
  have others : UnitsKept [u] s (s0.modUnit u fun k => { k with state := .free }) := fun v hv =>
    (State.modUnit_unit_ne s0 u _ (by simpa using hv)).trans (unit v)
  rw [bringUnitIn_of_out (by rw [unit]; exact out)]
  refine ⟨fun e rest queue => ?_, fun e rest none_ queue => ?_⟩
  · rw [becomeAvailable_register (by rw [State.modUnit_regQueue, reg]; exact queue)]
    have a := attached_register u e.circuit
      { s0.modUnit u fun k => { k with state := .free } with regQueue := rest }
    refine ⟨(registerAttached_attach u e.circuit _).congr ?_ ?_ ?_ ?_ time ?_ ?_, a.regQueue, a.sndQueue.trans snd,
      fun v hv => (a.units v hv).trans (others v hv), fun d hd => (a.circuits d hd).trans (circuit d)⟩
    · exact congrArg (·.glarePhase) (circuit e.circuit)
    · exact congrArg (·.sup) (circuit e.circuit)
    · exact congrArg (·.ackPulse) (circuit e.circuit)
    · exact congrArg (·.ackEnd) (circuit e.circuit)
    · exact State.startMode_congr (congrArg (·.group) (circuit e.circuit)) fun g => congrArg (·.startMode) (group g)
    · exact fun q => State.par_congr (congrArg (·.group) (circuit e.circuit)) (fun g => congrArg (·.par) (group g)) q
  · rw [becomeAvailable_sender (by rw [State.modUnit_regQueue, reg]; exact none_)
      (by rw [State.modUnit_sndQueue, snd]; exact queue)]
    have a := attached_sender u e.circuit
      { s0.modUnit u fun k => { k with state := .free } with sndQueue := rest }
    exact ⟨a.circuit, attach_sender_isSender u e.circuit _, a.unit, a.sndQueue,
      fun v hv => (a.units v hv).trans (others v hv), fun d hd => (a.circuits d hd).trans (circuit d)⟩

end Services

/-- Settles O43: the order acts in the state it starts from, whose units and queues are those before. -/
theorem unitServiceActsByState : Obligations.UnitServiceActsByState := by
  unfold Obligations.UnitServiceActsByState
  intro w ws s sound n s0
  obtain ⟨circuits, groups, pool, lines, -⟩ := orderStart_frame s w
  obtain ⟨time, circuit, -, unit, -⟩ := orderStart_records s w
  obtain ⟨units, reg, snd, parked⟩ := pool
  refine ⟨fun ready => ⟨fun high => refuses_of_body ready (unitOrder_badValue high), fun u hu => ?_⟩,
    fun ready => ⟨fun high => refuses_of_body ready (unitOrder_badValue high), fun u hu => ?_⟩⟩
  · have answers := answers_of_body ready (unitOrder_acts (act := takeUnitOut) hu)
    intro k
    have record : s0.unit u = k := unit u
    refine ⟨fun out => ?_, fun free => ⟨_, answers, ?_⟩, fun isParked => ⟨_, answers, ?_⟩,
      fun out free notParked => ⟨_, answers, ?_⟩⟩
    · rwa [takeUnitOut_of_out (by rw [unit]; exact out)] at answers
    · rw [takeUnitOut_of_free (by rw [unit]; exact free)]
      exact ⟨by rw [State.modUnit_unit_self, unit], .modUnit _ u _, ⟨rfl, rfl⟩⟩
    · obtain ⟨own, list, others, serves, reg', snd', groups', lines', ports⟩ :=
        takeUnitOut_parked (s := s0) (u := u) (by rw [record]; exact isParked)
      refine ⟨by rw [own], by rw [own]; rfl, by rw [own], by rw [own]; rfl, by rw [list, parked],
        fun v hv => (others v hv).trans (unit v), fun c hc => ?_, reg'.trans reg, snd'.trans snd, groups'.trans groups,
        lines.trans lines', ports⟩
      obtain ⟨own', others'⟩ := serves c (by rw [record]; exact hc)
      exact ⟨by rw [own', circuit], fun d hd => (others' d hd).trans (circuit d)⟩
    · rw [takeUnitOut_of_busy (by rw [unit]; exact out) (by rw [unit]; exact free) (by rw [unit]; exact notParked)]
      exact ⟨by rw [State.modUnit_unit_self, unit], .modUnit _ u _, ⟨rfl, rfl⟩⟩
  · have answers := answers_of_body ready (unitOrder_acts (act := bringUnitIn) hu)
    intro k
    refine ⟨fun free => ?_, fun out => ⟨_, answers, fun noReg noSnd => ?_, ?_⟩, fun out free => ⟨_, answers, ?_⟩⟩
    · rwa [bringUnitIn_of_free (by rw [unit]; exact free)] at answers
    · rw [bringUnitIn_of_out (by rw [unit]; exact out),
        becomeAvailable_none (by rw [State.modUnit_regQueue, reg]; exact noReg)
          (by rw [State.modUnit_sndQueue, snd]; exact noSnd)]
      exact ⟨by rw [State.modUnit_unit_self, unit], .modUnit _ u _, ⟨rfl, rfl⟩⟩
    · exact bringUnitIn_serves out circuits groups ⟨units, reg, snd, parked⟩ time
    · rw [bringUnitIn_of_busy (by rw [unit]; exact out) (by rw [unit]; exact free)]
      exact ⟨by rw [State.modUnit_unit_self, unit], .modUnit _ u _, ⟨rfl, rfl⟩⟩

end Sys2Proof.Machine

/-! PROOFS. The ends of digits: the sender's last break (R48, R110), the register's make (R121), and the breaks and makes that
a register takes from its circuit's lead (R119, R120, R122). -/

namespace Sys2Proof.Machine

section DigitEnd

variable {u : Fin 16} {c : Fin 96} {s t : State}

/-! ## A sender has sent a digit (R48, R110) -/

/-- The state in which a digit has been counted. -/
def State.counted (s : State) (c : Fin 96) : State :=
  s.modCircuit c fun k => { k with sent := k.sent + 1, lastBrkEnd := s.timeBase, idSend := s.par c .idSend }

theorem State.counted_circuit (s : State) (c : Fin 96) :
    (s.counted c).circuit c =
      { s.circuit c with sent := (s.circuit c).sent + 1, lastBrkEnd := s.timeBase, idSend := s.par c .idSend } :=
  State.modCircuit_circuit_self s c _

theorem State.counted_only (s : State) (c : Fin 96) : OnlyCircuit c s (s.counted c) := (OnlyCircuit.refl s c).modCircuit _

theorem State.counted_par (s : State) (c : Fin 96) (p : Param) : (s.counted c).par c p = s.par c p :=
  State.modCircuit_par s p rfl

theorem endDigit_eq (u : Fin 16) (c : Fin 96) (s : State) :
    endDigit u c s =
      if ((s.counted c).circuit c).digitLeft then
        (s.counted c).modUnit u fun k =>
          { k with state := .sender .pause, subEnd := some (timeAfter s.timeBase ((s.counted c).par c .idSend)) }
      else if ((s.counted c).circuit c).eon then
        ((detach u (s.counted c)).modCircuit c fun k => { k with state := .outWaitAnswer, timer := none }).raiseCircuit c
          .digitsSent
      else endWithoutEon u c ((s.counted c).startTimer c (1000 * (s.counted c).par c .stallLimit)) := rfl

/-- A digit is left: the sender pauses. -/
theorem endDigit_pauses (left : (s.circuit c).sent + 1 < (s.circuit c).digits.length) :
    endDigit u c s = (s.counted c).modUnit u fun k =>
      { k with state := .sender .pause, subEnd := some (timeAfter s.timeBase (s.par c .idSend)) } := by
  have left' : ((s.counted c).circuit c).digitLeft = true := by simpa [State.counted_circuit, Circuit.digitLeft] using left
  rw [endDigit_eq, if_pos left', State.counted_par]

/-- No digit is left and eon is set: the sender goes and the circuit waits for the answer. -/
theorem endDigit_ends (done : (s.circuit c).digits.length ≤ (s.circuit c).sent + 1) (eon : (s.circuit c).eon = true) :
    endDigit u c s = ((detach u (s.counted c)).modCircuit c fun k =>
      { k with state := .outWaitAnswer, timer := none }).raiseCircuit c .digitsSent := by
  have done' : ((s.counted c).circuit c).digitLeft = false := by simpa [State.counted_circuit, Circuit.digitLeft] using done
  have eon' : ((s.counted c).circuit c).eon = true := by rw [State.counted_circuit]; exact eon
  rw [endDigit_eq, if_neg (Bool.eq_false_iff.mp done'), if_pos eon']

/-- No digit is left and eon is clear: the stall timer starts, and the sender parks or goes. -/
theorem endDigit_stalls (done : (s.circuit c).digits.length ≤ (s.circuit c).sent + 1) (eon : (s.circuit c).eon = false) :
    endDigit u c s = endWithoutEon u c ((s.counted c).startTimer c (1000 * s.par c .stallLimit)) := by
  have done' : ((s.counted c).circuit c).digitLeft = false := by simpa [State.counted_circuit, Circuit.digitLeft] using done
  have eon' : ((s.counted c).circuit c).eon = false := by rw [State.counted_circuit]; exact eon
  rw [endDigit_eq, if_neg (Bool.eq_false_iff.mp done'), if_neg (Bool.eq_false_iff.mp eon'), State.counted_par]

/-- A sender that parks (R110). -/
theorem park_spec (u : Fin 16) (c : Fin 96) (s : State) :
    (park u c s).unit u =
        { s.unit u with state := .sender .parked, parkTime := some s.timeBase
                        subEnd := some (timeAfter s.timeBase (1000 * s.par c .parkLimit)) } ∧
      UnitsKept [u] s (park u c s) ∧ (park u c s).circuit c = s.circuit c ∧ (park u c s).parked = s.parked ++ [u] := by
  have unit : ∀ v, (park u c s).unit v = (s.modUnit u fun k =>
      { k with state := .sender .parked, parkTime := some s.timeBase
               subEnd := some (timeAfter s.timeBase (1000 * s.par c .parkLimit)) }).unit v := fun _ => rfl
  exact ⟨(unit u).trans (State.modUnit_unit_self s u _),
    fun v hv => (unit v).trans (State.modUnit_unit_ne s u _ (by simpa using hv)), rfl, rfl⟩

end DigitEnd

/-- Settles O27: the digit is counted, and `endDigit` goes one of three ways. -/
theorem digitEndIsCounted : Obligations.DigitEndIsCounted := by
  unfold Obligations.DigitEndIsCounted
  intro u c s awake sound serves come state last k
  have unit : (s.circuit c).unit = some u := (sound.linked u c).mp serves
  have record := s.counted_circuit c
  have only := s.counted_only c
  have ports0 : PortsKept s (s.counted c) := ⟨rfl, rfl⟩
  have eq : endBreak u s = endDigit u c s := by
    simp only [endBreak, serves]
    exact if_neg (Nat.not_lt.mpr last)
  refine ⟨_, onUnit_due awake (senderDue_of come state), ?_⟩
  rw [eq]
  by_cases left : k.sent + 1 < k.digits.length
  · rw [endDigit_pauses left]
    have notDone : ¬ k.digits.length ≤ k.sent + 1 := Nat.not_le.mpr left
    refine ⟨by rw [State.modUnit_circuit, record], by rw [State.modUnit_circuit, record],
      by rw [State.modUnit_circuit, record], by rw [State.modUnit_circuit, record],
      fun _ => ⟨by rw [State.modUnit_circuit, record], by rw [State.modUnit_circuit, record], State.modUnit_unit_self _ u _,
      fun v hv => State.modUnit_unit_ne _ u _ (by simpa using hv), only.1, ⟨rfl, rfl⟩, rfl, only.2.2.2⟩,
      fun h => absurd h notDone, fun h => absurd h notDone⟩
  · have done := Nat.not_lt.mp left
    cases eon : k.eon with
    | true =>
      have tied : Tied c (s.counted c) := (sound.tied c).only only (by rw [record])
      obtain ⟨own, frame, ports⟩ := tied.detachFrom_frame
      have detaches : detachFrom c (s.counted c) = detach u (s.counted c) := by simp [detachFrom, record, unit]
      rw [detaches] at own frame ports
      rw [record] at own
      rw [endDigit_ends done eon]
      have recorded : (((detach u (s.counted c)).modCircuit c fun k =>
          { k with state := .outWaitAnswer, timer := none }).raiseCircuit c .digitsSent).circuit c =
          { (detach u (s.counted c)).circuit c with state := .outWaitAnswer, timer := none } := by
        rw [State.raiseCircuit_circuit, State.modCircuit_circuit_self]
      rw [own] at recorded
      have event : CircuitEvent c .digitsSent s (((detach u (s.counted c)).modCircuit c fun k =>
          { k with state := .outWaitAnswer, timer := none }).raiseCircuit c .digitsSent) := fun p => by
        rw [State.raiseCircuit_port, State.modCircuit_circuit_self, own, State.modCircuit_port, ports.port, ports0.port]
      refine ⟨by rw [recorded], by rw [recorded], by rw [recorded], by rw [recorded], fun h => absurd h left,
        fun _ _ => ⟨by rw [recorded], by rw [recorded], by rw [recorded], event, ?_⟩, fun _ h => by simp at h⟩
      exact frame.around only (by rw [record]) ports0.portState
        (((OnlyCircuit.refl _ c).modCircuit _).raiseCircuit c .digitsSent)
        (PortStateKept.trans (PortsKept.portState ⟨rfl, rfl⟩) (.raiseCircuit _ c _))
    | false =>
      rw [endDigit_stalls done eon]
      have started : OnlyCircuit c s ((s.counted c).startTimer c (1000 * s.par c .stallLimit)) := only.startTimer _
      have record' : ((s.counted c).startTimer c (1000 * s.par c .stallLimit)).circuit c =
          { (s.counted c).circuit c with timer := some { start := s.timeBase, value := 1000 * s.par c .stallLimit } } := by
        rw [State.startTimer_circuit, if_pos rfl]
        rfl
      rw [record] at record'
      have ports1 : PortsKept s ((s.counted c).startTimer c (1000 * s.par c .stallLimit)) := ⟨rfl, rfl⟩
      have par : ((s.counted c).startTimer c (1000 * s.par c .stallLimit)).par c .parkLimit = s.par c .parkLimit :=
        State.par_congr (s := s) (t := (s.counted c).startTimer c (1000 * s.par c .stallLimit)) (by rw [record'])
          (fun _ => rfl) _
      generalize (s.counted c).startTimer c (1000 * s.par c .stallLimit) = s1 at started record' ports1 par ⊢
      have unit1 : s1.unit u = s.unit u := by rw [State.unit, started.2.2.1.1, State.unit]
      obtain ⟨-, reg, snd, parked⟩ := started.2.2.1
      by_cases wanted : (s.unit u).pendingOos = true ∨ s.regQueue ≠ [] ∨ s.sndQueue ≠ []
      · have detaches : endWithoutEon u c s1 = detachFrom c s1 := by
          rw [detachFrom, record']
          simp only [unit]
          exact if_pos (by rw [unit1, reg, snd]; exact wanted)
        obtain ⟨own, frame, ports⟩ := ((sound.tied c).only started (by rw [record'])).detachFrom_frame
        rw [record'] at own
        rw [detaches]
        refine ⟨by rw [own], by rw [own], by rw [own], by rw [own], fun h => absurd h left, fun _ h => by simp at h,
          fun _ _ => ⟨by rw [own], by rw [own], ports1.trans ports, fun _ => ⟨by rw [own], ?_⟩, fun oos reg' snd' => ?_⟩⟩
        · exact frame.around started (by rw [record']) ports1.portState (.refl _ c) (.refl _)
        · simp [oos, reg', snd'] at wanted
      · have parks : endWithoutEon u c s1 = park u c s1 := if_neg (by rw [unit1, reg, snd]; exact wanted)
        obtain ⟨unit', units, own, list⟩ := park_spec u c s1
        rw [parks]
        refine ⟨by rw [own, record'], by rw [own, record'], by rw [own, record'], by rw [own, record'],
          fun h => absurd h left, fun _ h => by simp at h, fun _ _ => ⟨by rw [own, record'], by rw [own, record'],
          ports1.trans ⟨rfl, rfl⟩, fun h => absurd h wanted, fun _ _ _ => ⟨?_, ?_, fun v hv => ?_, started.1, started.2.1,
          started.2.2.2⟩⟩⟩
        · rw [unit', unit1, par, started.2.2.2.2.1]
        · rw [list, parked]
        · rw [units v hv, State.unit, started.2.2.1.1, State.unit]

end Sys2Proof.Machine

/-! PROOFS. A register's digit (R121): the train that is classified, the digit that the circuit takes (R74, R75) and the count
of the group's reference (R128, R129). -/

namespace Sys2Proof.Machine

section Count

variable {g : Fin 8} {c : Fin 96} {u : Fin 16} {s t v : State} {d : Fin 10}

/-! ## The count of the reference (R128, R129) -/

/-- A reference once it has counted a digit: the count, or the apply that it brings. -/
def Group.counted (k : Group) : Reference :=
  let digits := min 64 (k.reference.sinceApply + 1)
  let applies : Prop := k.par .applyEvery ≤ digits ∧ k.reference.locked = true ∧ k.par .gate = 0
  let computed := if applies ∧ k.par .override = 0 then thresholdsOf k else (k.reference.tBm, k.reference.tId)
  { k.reference with sinceApply := if applies then 0 else digits, tBm := computed.1, tId := computed.2 }

/-- The count is written, and the apply that it brings writes the thresholds. -/
theorem countDigit_spec (g : Fin 8) (s : State) :
    (countDigit g s).group g = { s.group g with reference := (s.group g).counted } ∧
      ∀ p, (countDigit g s).port p =
        if (s.group g).reference.tBm = (s.group g).counted.tBm ∧ (s.group g).reference.tId = (s.group g).counted.tId then
          s.port p
        else (s.port p).withEvent (.group g) .applied := by
  have own : (s.modGroup g fun k => { k with reference := { k.reference with
      sinceApply := min 64 ((s.group g).reference.sinceApply + 1) } }).group g =
      { s.group g with reference := { (s.group g).reference with
        sinceApply := min 64 ((s.group g).reference.sinceApply + 1) } } := State.modGroup_group_self s g _
  by_cases applies : (s.group g).par .applyEvery ≤ min 64 ((s.group g).reference.sinceApply + 1) ∧
      (s.group g).reference.locked = true ∧ (s.group g).par .gate = 0
  · have counted : (s.group g).counted =
        { s.group g with reference := { (s.group g).reference with
          sinceApply := min 64 ((s.group g).reference.sinceApply + 1) } : Group }.applied := by
      rw [Group.applied_eq, Group.counted]
      simp only [applies, and_self, if_true, true_and]
      rfl
    have eq : countDigit g s = applyReference g (s.modGroup g fun k => { k with reference := { k.reference with
        sinceApply := min 64 ((s.group g).reference.sinceApply + 1) } }) := by
      unfold countDigit
      simp only [own]
      exact if_pos applies
    rw [eq]
    refine ⟨by rw [applyReference_group, own, counted], fun p => ?_⟩
    rw [applyReference, setThresholds_port, own, ← counted, State.modGroup_port]
  · have counted : (s.group g).counted = { (s.group g).reference with
        sinceApply := min 64 ((s.group g).reference.sinceApply + 1) } := by
      rw [Group.counted]
      simp only [applies, false_and, if_false]
    have eq : countDigit g s = s.modGroup g fun k => { k with reference := { k.reference with
        sinceApply := min 64 ((s.group g).reference.sinceApply + 1) } } := by
      unfold countDigit
      simp only [own]
      exact if_neg applies
    rw [eq, counted]
    exact ⟨own, fun p => by simp⟩

/-- The count raises nothing on a circuit. -/
theorem countDigit_quiet (g : Fin 8) (s : State) (c : Fin 96) : NoCircuitEvent c s (countDigit g s) := by
  refine .withEvent (it := .group g) (e := .applied) (by simp) fun p => ?_
  rw [(countDigit_spec g s).2]
  split <;> simp

/-! ## The digit that the circuit takes (R74, R75) -/

theorem receiveDigit_room (h : (s.circuit c).digits.length < 24) :
    (receiveDigit c d s).circuit c =
        { s.circuit c with
          digits := (s.circuit c).digits ++ [d]
          timer := some { start := s.timeBase, value := 1000 * s.par c .digWait } } ∧
      OnlyCircuit c s (receiveDigit c d s) ∧ CircuitEvent c .digit s (receiveDigit c d s) := by
  have par : (s.modCircuit c fun k => { k with digits := k.digits ++ [d] }).par c .digWait = s.par c .digWait :=
    State.modCircuit_par s .digWait rfl
  have eq : receiveDigit c d s = ((s.modCircuit c fun k => { k with digits := k.digits ++ [d] }).startTimer c
      (1000 * s.par c .digWait)).raiseCircuit c .digit := by
    rw [← par]
    exact if_pos h
  rw [eq]
  refine ⟨?_, (((OnlyCircuit.refl s c).modCircuit _).startTimer _).raiseCircuit c _, fun p => ?_⟩
  · rw [State.raiseCircuit_circuit, State.startTimer_circuit, if_pos rfl, State.modCircuit_circuit_self]
    rfl
  · rw [State.raiseCircuit_port, State.startTimer_circuit, if_pos rfl, State.modCircuit_circuit_self, State.startTimer_port,
      State.modCircuit_port]

/-- A 25th digit holds the call. -/
theorem Tied.receiveDigit_full (tied : Tied c s) (h : 24 ≤ (s.circuit c).digits.length) :
    (receiveDigit c d s).circuit c = { s.circuit c with state := .inHeld, timer := none, unit := none } ∧
      ServedFrame c s (receiveDigit c d s) ∧ CircuitEvent c .digitOverflow s (receiveDigit c d s) := by
  have eq : receiveDigit c d s = Machine.holdCall c (s.raiseCircuit c .digitOverflow) := if_neg (Nat.not_lt.mpr h)
  have only : OnlyCircuit c s (s.raiseCircuit c .digitOverflow) := (OnlyCircuit.refl s c).raiseCircuit c _
  obtain ⟨own, frame, ports⟩ := (tied.only only (by rw [State.raiseCircuit_circuit])).holdCall
  rw [State.raiseCircuit_circuit] at own
  rw [eq]
  exact ⟨own, frame.around only (by rw [State.raiseCircuit_circuit]) (.raiseCircuit s c _) (.refl _ c) (.refl _),
    fun p => by rw [ports.port, State.raiseCircuit_port]⟩

/-- An event on a circuit is none on a group. -/
theorem CircuitEvent.group_pend {e : Event} (h : CircuitEvent c e s t) (g : Fin 8) (p : Port) :
    (t.port p).pend[(Item.group g).index] = (s.port p).pend[(Item.group g).index] := by
  rw [h p]
  split
  · exact ((s.port p).withEvent_other (it := .circuit c) (x := .group g) (by simp) e).1
  · rfl

theorem CircuitEvent.portState {e : Event} (h : CircuitEvent c e s t) : PortStateKept s t := fun p => by
  rw [h p]
  split <;> exact ⟨rfl, rfl, rfl, rfl, rfl, rfl, rfl, rfl⟩

/-! ## A make that completes a digit (R121) -/

/-- The state in which a register waits for the next digit. -/
def State.awaiting (s : State) (u : Fin 16) : State := s.modUnit u DigitUnit.awaitDigit

theorem State.awaiting_unit (s : State) (u : Fin 16) : (s.awaiting u).unit u = (s.unit u).awaitDigit :=
  State.modUnit_unit_self s u _

theorem State.awaiting_only (s : State) (u : Fin 16) : OnlyUnit u s (s.awaiting u) := .modUnit s u _

theorem completeDigit_of_digit (serves : (s.unit u).circuit = some c) (group : (s.circuit c).group = some g)
    (digit : digitOfCount (s.unit u).count = some d)
    (member : ((receiveDigit c d (s.awaiting u)).circuit c).group = (s.circuit c).group) :
    completeDigit u s = countDigit g (receiveDigit c d (s.awaiting u)) := by
  rw [group] at member
  unfold State.awaiting at member ⊢
  simp [completeDigit, serves, digit, member]

theorem completeDigit_of_none (serves : (s.unit u).circuit = some c) (none_ : digitOfCount (s.unit u).count = none) :
    completeDigit u s = (s.awaiting u).raiseCircuit c .pulseError := by
  simp [completeDigit, serves, none_, State.awaiting]

theorem digitOfCount_of_valid {n : Nat} (low : 1 ≤ n) (high : n ≤ 10) :
    ∃ d : Fin 10, digitOfCount n = some d ∧ d.val = n % 10 := by
  have pos : n ≠ 0 := by omega
  exact ⟨⟨n % 10, Nat.mod_lt _ (by decide)⟩, by simp [digitOfCount, pos, high], rfl⟩

theorem digitOfCount_of_none {n : Nat} (h : ¬ (1 ≤ n ∧ n ≤ 10)) : digitOfCount n = none := by
  unfold digitOfCount
  by_cases zero : n = 0
  · exact if_pos zero
  · rw [if_neg zero, if_neg (by omega)]

/-- What is served of a circuit whose register has been written before. -/
theorem UnitServed.after_unit (h : UnitServed c t v) (only : OnlyUnit u s t) (unit : (s.circuit c).unit = some u) :
    UnitServed c s v := by
  obtain ⟨units, circuits, -, reg, snd, parked, -⟩ := only
  obtain ⟨others, units', parked', reg', snd'⟩ := h
  have circuit : ∀ d, t.circuit d = s.circuit d := fun d => by rw [State.circuit, circuits, State.circuit]
  rw [circuit] at units' parked'
  refine ⟨fun d hd away => ?_, fun x hx => ?_, parked ▸ parked', reg ▸ reg', snd ▸ snd'⟩
  · rw [others d hd (by rwa [State.queued, reg, snd]), circuit]
  · rw [units' x hx, units x]
    rw [unit] at hx
    simpa [eq_comm] using hx

/-- What every digit leaves alone before it is counted (R74, R75). -/
structure Received (c : Fin 96) (s t : State) : Prop where
  member : (t.circuit c).group = (s.circuit c).group
  groups : t.groups = s.groups
  ports : PortStateKept s t
  lines : LinesKept s t
  pend : ∀ g p, (t.port p).pend[(Item.group g).index] = (s.port p).pend[(Item.group g).index]

theorem Tied.received (tied : Tied c s) (d : Fin 10) : Received c s (receiveDigit c d s) := by
  by_cases room : (s.circuit c).digits.length < 24
  · obtain ⟨own, ⟨-, groups, -, lines⟩, event⟩ := receiveDigit_room (d := d) room
    exact ⟨by rw [own], groups, event.portState, lines, event.group_pend⟩
  · obtain ⟨own, ⟨-, groups, ports, lines⟩, event⟩ := tied.receiveDigit_full (d := d) (Nat.not_lt.mp room)
    exact ⟨by rw [own], groups, ports, lines, event.group_pend⟩

/-- The count as the claims state it, told from a state with the same groups and pending sets of groups. -/
theorem counts_of_received (received : Received c s t) :
    let old := s.group g
    let r := old.reference
    let digits := min 64 (r.sinceApply + 1)
    let applies : Prop := old.par .applyEvery ≤ digits ∧ r.locked = true ∧ old.par .gate = 0
    let r' := ((countDigit g t).group g).reference
    (countDigit g t).group g =
        { old with reference := { r with sinceApply := r'.sinceApply, tBm := r'.tBm, tId := r'.tId } } ∧
      r'.sinceApply = (if applies then 0 else digits) ∧
      (r'.tBm, r'.tId) = (if applies ∧ old.par .override = 0 then thresholdsOf old else (r.tBm, r.tId)) ∧
      ((r'.tBm, r'.tId) ≠ (r.tBm, r.tId) →
        Reported .A (.group g) .applied (countDigit g t) ∧ Reported .B (.group g) .applied (countDigit g t)) ∧
      ((r'.tBm, r'.tId) = (r.tBm, r.tId) →
        ∀ p, ((countDigit g t).port p).pend[(Item.group g).index] = (s.port p).pend[(Item.group g).index]) := by
  have group : t.group g = s.group g := by rw [State.group, received.groups]; rfl
  obtain ⟨own, port⟩ := countDigit_spec g t
  rw [group] at own port
  simp only
  rw [own]
  refine ⟨rfl, rfl, rfl, fun changed => ?_, fun same p => ?_⟩
  · have raised : ∀ p, Reported p (.group g) .applied (countDigit g t) := fun p => by
      rw [Reported, port, if_neg fun ⟨bm, id⟩ => changed (Prod.ext bm.symm id.symm)]
      exact ⟨by simp [PortRecord.withEvent, EventSet.has_add_self], by simp [PortRecord.mem_withEvent]⟩
    exact ⟨raised .A, raised .B⟩
  · obtain ⟨bm, id⟩ := Prod.mk.inj same
    rw [port, if_pos ⟨bm.symm, id.symm⟩, received.pend]

end Count

/-- Settles O28: the digit is received in the state in which its register waits again, and then counted. -/
theorem makeCompletesTheDigit : Obligations.MakeCompletesTheDigit := by
  unfold Obligations.MakeCompletesTheDigit
  intro u c g s awake sound serves group come making k n waiting
  have unit : (s.circuit c).unit = some u := (sound.linked u c).mp serves
  have due : digitCompleteDue u s = true := by simp [digitCompleteDue, making, instantDue_iff.mpr come]
  have record := s.awaiting_unit u
  have waits : (s.awaiting u).unit u = waiting := record
  obtain ⟨units, circuits, groups, reg, snd, parked, lines⟩ := s.awaiting_only u
  have circuit : (s.awaiting u).circuit c = k := rfl
  have ports0 : PortsKept s (s.awaiting u) := ⟨rfl, rfl⟩
  refine ⟨_, onUnit_due awake due, ?_⟩
  by_cases valid : 1 ≤ n ∧ n ≤ 10
  · obtain ⟨low, high⟩ := valid
    obtain ⟨d, digit, val⟩ := digitOfCount_of_valid low high
    have tied : Tied c (s.awaiting u) :=
      ⟨fun v hv => by
        obtain rfl := Option.some.inj (unit.symm.trans hv)
        rw [waits]
        exact serves, fun h => by rw [State.queued, reg, snd]; exact (sound.tied c).unqueued h⟩
    have received := tied.received d
    have counts := counts_of_received (g := g) received
    obtain ⟨groups', -, circuits', pool', lines', ports'⟩ := countDigit_frame (receiveDigit c d (s.awaiting u)) g
    have quiet := countDigit_quiet g (receiveDigit c d (s.awaiting u)) c
    have own' : ∀ x, (countDigit g (receiveDigit c d (s.awaiting u))).circuit x =
        (receiveDigit c d (s.awaiting u)).circuit x := fun x => by rw [State.circuit, circuits', State.circuit]
    rw [completeDigit_of_digit serves group digit received.member]
    refine ⟨fun x hx => (groups' x hx).trans (by rw [State.group, received.groups]; rfl), lines.trans (received.lines.trans lines'),
      (ports0.portState.trans received.ports).trans ports', fun _ _ => ⟨counts, fun room => ?_, fun full => ?_⟩,
      fun many => absurd high (Nat.not_le.mpr many)⟩
    · obtain ⟨own, only, event⟩ := receiveDigit_room (d := d) (s := s.awaiting u) room
      obtain ⟨units', -⟩ := only.2.2.1.trans pool'
      have par : (s.awaiting u).par c .digWait = (s.group g).par .digWait := State.par_of_group group _
      rw [own', own, par]
      refine ⟨fun x hx => ?_, rfl, rfl, ?_, fun v hv => ?_, fun x hx => ?_, ?_⟩
      · rw [show x = d from Fin.ext (hx.trans val.symm)]
        rfl
      · rw [State.unit, units']
        exact waits
      · rw [State.unit, units']
        exact units v hv
      · rw [own' x, only.1 x hx]
        rfl
      · exact (Reports.after_quiet (.of_ports ports0) (CircuitEventBy.reports event)).quiet quiet
    · obtain ⟨own, ⟨served, -⟩, event⟩ := tied.receiveDigit_full (d := d) full
      rw [own', own]
      exact ⟨rfl, (Reports.after_quiet (.of_ports ports0) (CircuitEventBy.reports event)).quiet quiet,
        (served.congr_right circuits' pool').after_unit (s.awaiting_only u) unit⟩
  · rw [completeDigit_of_none serves (digitOfCount_of_none valid)]
    have raised : OnlyCircuit c (s.awaiting u) ((s.awaiting u).raiseCircuit c .pulseError) :=
      (OnlyCircuit.refl _ c).raiseCircuit c _
    refine ⟨fun x _ => by rw [State.raiseCircuit_group]; rfl, lines.trans raised.2.2.2,
      ports0.portState.trans (.raiseCircuit _ c _), fun low high => absurd ⟨low, high⟩ valid,
      fun _ => ⟨by simp [circuits], by simp [groups], ?_, fun v hv => ?_, fun p => ?_⟩⟩
    · rw [State.unit, raised.2.2.1.1]
      exact waits
    · rw [State.unit, raised.2.2.1.1]
      exact units v hv
    · rw [State.raiseCircuit_port]
      rfl

end Sys2Proof.Machine

/-! PROOFS. A register takes the transitions of its circuit's lead as breaks and makes (R119, R120, R122), and hands its periods
to the group's reference (R124). -/

namespace Sys2Proof.Machine

section Period

variable {g : Fin 8} {p : Nat} {c : Fin 96} {s t : State}

/-! ## Periods (R122, R124) -/

/-- What a period makes of its group and of the ports is told by the group and the ports alone. -/
theorem takePeriod_congr (group : t.group g = s.group g) (ports : PortsKept s t) :
    (takePeriod g p t).group g = (takePeriod g p s).group g ∧
      ∀ q, (takePeriod g p t).port q = (takePeriod g p s).port q := by
  have apply {a b : State} (hg : b.group g = a.group g) (hp : ∀ q, b.port q = a.port q) :
      (applyReference g b).group g = (applyReference g a).group g ∧
        ∀ q, (applyReference g b).port q = (applyReference g a).port q :=
    ⟨by rw [applyReference_group, applyReference_group, hg],
      fun q => by rw [applyReference, applyReference, setThresholds_port, setThresholds_port, hg, hp]⟩
  have write (f : Group → Group) : (t.modGroup g f).group g = (s.modGroup g f).group g ∧
      ∀ q, (t.modGroup g f).port q = (s.modGroup g f).port q :=
    ⟨by rw [State.modGroup_group_self, State.modGroup_group_self, group],
      fun q => by rw [State.modGroup_port, State.modGroup_port, ports.port]⟩
  have raise (f : Group → Group) (e : Event) :
      ((t.modGroup g f).raiseGroup g e).group g = ((s.modGroup g f).raiseGroup g e).group g ∧
      ∀ q, ((t.modGroup g f).raiseGroup g e).port q = ((s.modGroup g f).raiseGroup g e).port q :=
    ⟨by rw [State.raiseGroup_group, State.raiseGroup_group, (write f).1],
      fun q => by rw [State.raiseGroup_port, State.raiseGroup_port, (write f).2]⟩
  unfold takePeriod
  simp only [group]
  split
  · split
    · exact write _
    · split
      · exact raise _ _
      · exact write _
  · split
    · split
      · rw [(raise _ .locked).1]
        split
        · exact apply (raise _ .locked).1 (raise _ .locked).2
        · exact raise _ .locked
      · exact write _
    · exact write _

/-- A period raises nothing on a circuit. -/
theorem takePeriod_quiet (g : Fin 8) (p : Nat) (s : State) (c : Fin 96) : NoCircuitEvent c s (takePeriod g p s) := by
  have write (f : Group → Group) : NoCircuitEvent c s (s.modGroup g f) :=
    .of_same fun q => by rw [State.modGroup_port]; exact ⟨rfl, rfl⟩
  have raise (f : Group → Group) (e : Event) : NoCircuitEvent c s ((s.modGroup g f).raiseGroup g e) :=
    (write f).quiet (.raiseGroup _ c g e)
  have apply (a : State) : NoCircuitEvent c a (applyReference g a) := by
    refine .withEvent (it := .group g) (e := .applied) (by simp) fun q => ?_
    rw [applyReference, setThresholds_port]
    split <;> simp
  unfold takePeriod
  simp only
  split
  · split
    · exact write _
    · split
      · exact raise _ _
      · exact write _
  · split
    · split
      · split
        · exact (raise _ .locked).quiet (apply _)
        · exact raise _ .locked
      · exact write _
    · exact write _

/-- A period within 50 to 200 is handed to the reference while it tracks (R122). -/
theorem handPeriod_of_track {since : Time} (group : (s.circuit c).group = some g) (track : (s.group g).par .track = 1)
    (low : 50 ≤ elapsed s.timeBase since) (high : elapsed s.timeBase since ≤ 200) :
    handPeriod c (some since) s = takePeriod g (elapsed s.timeBase since) s := by
  simp [handPeriod, group, track, low, high]

theorem handPeriod_of_not {since : Time} (group : (s.circuit c).group = some g)
    (h : (s.group g).par .track ≠ 1 ∨ elapsed s.timeBase since < 50 ∨ 200 < elapsed s.timeBase since) :
    handPeriod c (some since) s = s := by
  simp only [handPeriod, group]
  refine if_neg fun ⟨track, low, high⟩ => ?_
  rcases h with h | h | h
  · exact h track
  · omega
  · omega

/-- Whatever it hands on, of everything outside the ports a register touches its group's reference alone. -/
theorem handPeriod_frame (group : (s.circuit c).group = some g) (start : Option Time) :
    OnlyReference g s (handPeriod c start s) ∧ NoCircuitEvent c s (handPeriod c start s) := by
  cases start with
  | none =>
    have same : handPeriod c none s = s := by simp [handPeriod, group]
    rw [same]
    exact ⟨.refl s g, .refl c s⟩
  | some since =>
    simp only [handPeriod, group]
    split
    · exact ⟨takePeriod_frame s g _, takePeriod_quiet g _ s c⟩
    · exact ⟨.refl s g, .refl c s⟩

end Period

section RegisterTransition

variable {c : Fin 96} {u : Fin 16} {g : Fin 8} {s r t v : State} {k : DigitUnit}

/-! ## What a register finds (R6, R120, R121) -/

theorem supervisionOff_receiving (state : (s.circuit c).state = .inReceiving) (width : Nat) (held : Held) :
    supervisionOff c width held (stamped c s) = stamped c s := by simp [supervisionOff, state]

theorem supervisionOn_receiving (state : (s.circuit c).state = .inReceiving) :
    supervisionOn c (stamped c s) = stamped c s := by simp [supervisionOn, state]

theorem supervisionDue_of_receiving (state : (s.circuit c).state = .inReceiving) :
    supervisionDue c s = clearForwardDue c s := by
  simp [supervisionDue, seizureDue, farSeizeDue, ackMaxDue, answerRecognizedDue, clearBackDue, reanswerDue, state]

/-- A TO_OFF as the register takes it, where the make that it ends has not completed the digit. -/
theorem exec_register_off (awake : s.resetAsserted = false) (due : TransitionDue c s)
    (state : (s.circuit c).state = .inReceiving) (unit : (s.circuit c).unit = some u) (on : (s.filter c).recCond = .on)
    (make : digitCompleteDue u s = false) (break_ : longBreakDue u s = false) :
    ∃ t, exec (.recognizedTransition c.val) s = .next t ∧ Watched (registerOff u c (stamped c s)) t := by
  obtain ⟨t, runs, watched⟩ := exec_delivered awake due
  have quiet : supervisionDue c s = false := by
    rw [supervisionDue_of_receiving state]
    simp [clearForwardDue, leadOn_eq on]
  have first : reachedFirst c s = s := by
    rw [reachedFirst_of_none quiet, registerFirst, unit]
    simp [make, break_]
  rw [first, delivered_off on, supervisionOff_receiving state, registerTransition] at watched
  simp only [stamped_circuit_self, unit] at watched
  exact ⟨t, runs, watched⟩

/-- A TO_ON as the register takes it; the break that it ends may have been marked long at the same instant. -/
theorem exec_register_on (awake : s.resetAsserted = false) (due : TransitionDue c s)
    (state : (s.circuit c).state = .inReceiving) (unit : (s.circuit c).unit = some u) (off : (s.filter c).recCond = .off)
    (short : s.recFor c < (s.heldOf c).cfRec) (make : digitCompleteDue u s = false) :
    ∃ t, exec (.recognizedTransition c.val) s = .next t ∧
      Watched (registerOn u c (stamped c (if longBreakDue u s then markLong u s else s))) t := by
  obtain ⟨t, runs, watched⟩ := exec_delivered awake due
  have quiet : supervisionDue c s = false := by
    rw [supervisionDue_of_receiving state]
    simp [clearForwardDue, short]
  have first : reachedFirst c s = if longBreakDue u s then markLong u s else s := by
    rw [reachedFirst_of_none quiet, registerFirst, unit]
    simp [make]
  have circuit : (reachedFirst c s).circuit c = s.circuit c := by
    rw [first]
    split <;> rfl
  have filter : (reachedFirst c s).filter c = s.filter c := by
    rw [first]
    split <;> rfl
  rw [delivered_on (by rw [filter]; exact off), supervisionOn_receiving (by rw [circuit]; exact state),
    registerTransition] at watched
  simp only [stamped_circuit_self, circuit, unit] at watched
  rw [first] at watched
  exact ⟨t, runs, watched⟩

/-! ## What a transition leaves of the rest -/

/-- What a register's transition leaves alone, and the record of the unit. -/
def RegisterTook (c : Fin 96) (u : Fin 16) (unit : DigitUnit) (s t : State) : Prop :=
  t.unit u = unit ∧ t.circuit c = { s.circuit c with held := s.thresholds c } ∧ UnitsKept [u] s t ∧ CircuitsKept [c] s t ∧
    t.regQueue = s.regQueue ∧ t.sndQueue = s.sndQueue ∧ t.parked = s.parked ∧ PortStateKept s t

theorem RegisterTook.of_only (only : OnlyUnit u (stamped c s) t) (unit : t.unit u = k) (ports : PortStateKept s t) :
    RegisterTook c u k s t := by
  obtain ⟨units, circuits, -, reg, snd, parked, -⟩ := only
  exact ⟨unit, by rw [State.circuit, circuits]; exact stamped_circuit_self c s, units,
    fun d hd => by rw [State.circuit, circuits]; exact stamped_circuitsKept c s d hd, reg, snd, parked, ports⟩

theorem RegisterTook.right (h : RegisterTook c u k s t) (circuits : v.circuits = t.circuits) (pool : PoolKept t v)
    (ports : PortStateKept t v) : RegisterTook c u k s v := by
  obtain ⟨units', reg', snd', parked'⟩ := pool
  obtain ⟨unit, own, units, others, reg, snd, parked, kept⟩ := h
  have unitEq : ∀ x, v.unit x = t.unit x := fun x => by rw [State.unit, units', State.unit]
  have circuitEq : ∀ x, v.circuit x = t.circuit x := fun x => by rw [State.circuit, circuits, State.circuit]
  exact ⟨(unitEq u).trans unit, (circuitEq c).trans own, fun x hx => (unitEq x).trans (units x hx),
    fun x hx => (circuitEq x).trans (others x hx), reg'.trans reg, snd'.trans snd, parked'.trans parked, kept.trans ports⟩

/-! ## Breaks (R120, R122) -/

/-- A break begins, timed against the t_bm applied. -/
def State.breaking (s : State) (u : Fin 16) (c : Fin 96) (prev : Option Time) : State :=
  s.modUnit u fun k =>
    { k with state := .register .inBreak, longBrk := false, prevBrkStart := prev, brkStart := some s.timeBase
             subEnd := some (timeAfter s.timeBase (s.applied c).1) }

theorem registerOff_waitDigit (h : (s.unit u).state = .register .waitDigit) :
    registerOff u c s = s.breaking u c none := by simp [registerOff, h, State.breaking]

theorem registerOff_make (h : (s.unit u).state = .register .inMake) :
    registerOff u c s = handPeriod c (s.unit u).brkStart (s.breaking u c (s.unit u).brkStart) := by
  simp [registerOff, h, State.breaking]

theorem State.applied_of_group (group : (s.circuit c).group = some g) :
    (stamped c s).applied c = ((s.group g).reference.tBm, (s.group g).reference.tId) := by
  simp [State.applied, group]

/-- The break that begins at a stamp. -/
theorem breaking_took (group : (s.circuit c).group = some g) (prev : Option Time) :
    RegisterTook c u
        { s.unit u with
          state := .register .inBreak, longBrk := false, prevBrkStart := prev, brkStart := some s.timeBase
          subEnd := some (timeAfter s.timeBase (s.group g).reference.tBm) } s ((stamped c s).breaking u c prev) ∧
      PortsKept s ((stamped c s).breaking u c prev) ∧ ((stamped c s).breaking u c prev).groups = s.groups := by
  have ports : PortsKept s ((stamped c s).breaking u c prev) := ⟨rfl, rfl⟩
  refine ⟨.of_only (.modUnit _ u _) ?_ ports.portState, ports, rfl⟩
  rw [State.breaking, State.modUnit_unit_self, State.applied_of_group group]
  rfl

/-! ## Makes (R120) -/

/-- A break that t_bm has not reached is a pulse. -/
theorem registerOn_pulse (state : (s.unit u).state = .register .inBreak) (short : (s.unit u).longBrk = false)
    (waits : ¬ Come s.timeBase (s.unit u).subEnd) :
    registerOn u c s = s.modUnit u fun k =>
      { k with state := .register .inMake, count := min 11 (k.count + 1)
               subEnd := some (timeAfter s.timeBase (s.applied c).2) } := by
  have notDue : instantDue s.timeBase (s.unit u).subEnd = false := Bool.eq_false_iff.mpr fun h => waits (instantDue_iff.mp h)
  simp [registerOn, state, short, notDue]

/-- A long break discards the digit. -/
theorem registerOn_discard (state : (s.unit u).state = .register .inBreak)
    (long : (s.unit u).longBrk = true ∨ Come s.timeBase (s.unit u).subEnd) :
    registerOn u c s = (s.awaiting u).raiseCircuit c .pulseError := by
  have long' : (s.unit u).longBrk = true ∨ instantDue s.timeBase (s.unit u).subEnd = true := long.imp_right instantDue_iff.mpr
  simp [registerOn, state, long', State.awaiting]

theorem registerOn_waitDigit (state : (s.unit u).state = .register .waitDigit) : registerOn u c s = s := by
  simp [registerOn, state]

/-- The digit that a long break discards, whether or not the break was marked at the same instant. -/
theorem discarding_took (marked : r = s ∨ r = markLong u s) :
    RegisterTook c u (s.unit u).awaitDigit s (((stamped c r).awaiting u).raiseCircuit c .pulseError) ∧
      (((stamped c r).awaiting u).raiseCircuit c .pulseError).groups = s.groups ∧
      Reports c [((s.circuit c).owner, .pulseError)] s (((stamped c r).awaiting u).raiseCircuit c .pulseError) := by
  have before : OnlyUnit u (stamped c s) (stamped c r) ∧ PortsKept s (stamped c r) ∧
      ((stamped c r).unit u).awaitDigit = (s.unit u).awaitDigit := by
    rcases marked with rfl | rfl
    · exact ⟨⟨fun _ _ => rfl, rfl, rfl, rfl, rfl, rfl, .refl _⟩, ⟨rfl, rfl⟩, rfl⟩
    · have swap : stamped c (markLong u s) = (stamped c s).modUnit u fun k => { k with longBrk := true } := rfl
      refine ⟨by rw [swap]; exact .modUnit (stamped c s) u _, ⟨rfl, rfl⟩, ?_⟩
      rw [stamped_unit, markLong, State.modUnit_unit_self]
      rfl
  obtain ⟨⟨units, circuits, groups, reg, snd, parked, lines⟩, ports, record⟩ := before
  obtain ⟨units', circuits', groups', reg', snd', parked', lines'⟩ := (stamped c r).awaiting_only u
  have only : OnlyUnit u (stamped c s) ((stamped c r).awaiting u) :=
    ⟨units.trans units', circuits'.trans circuits, groups'.trans groups, reg'.trans reg, snd'.trans snd,
      parked'.trans parked, lines.trans lines'⟩
  have ports' : PortsKept s ((stamped c r).awaiting u) := ports.trans ⟨rfl, rfl⟩
  have took := RegisterTook.of_only (c := c) only (((stamped c r).awaiting_unit u).trans record) ports'.portState
  have raised := Reports.raiseCircuit ((stamped c r).awaiting u) c .pulseError
  rw [took.2.1] at raised
  exact ⟨took.right (by simp) (by simp [PoolKept]) (.raiseCircuit _ c _),
    by rw [State.raiseCircuit_groups]; exact only.2.2.1, .after_quiet (.of_ports ports') raised⟩

end RegisterTransition

/-- Settles O10: a TO_OFF begins a break, which from MAKE hands its period on, and a TO_ON ends one. -/
theorem registersTimeBreaksAndMakes : Obligations.RegistersTimeBreaksAndMakes := by
  unfold Obligations.RegistersTimeBreaksAndMakes
  intro c u g s awake sound due unit group k start taken
  have receiving {sub : RegisterSub} (h : k.state = .register sub) : (s.circuit c).state = .inReceiving :=
    sound.registers u c (by rw [show (s.unit u).state = _ from h]; rfl) ((sound.linked u c).mpr unit)
  refine ⟨fun on state => ?_, fun on state waits => ?_, fun off short => ⟨fun state fresh waits => ?_,
    fun state long => ?_, fun state => ?_⟩⟩
  · have state' : (s.unit u).state = .register .waitDigit := state
    obtain ⟨t, runs, watched⟩ := exec_register_off awake due (receiving state) unit on
      (by simp [digitCompleteDue, state']) (by simp [longBreakDue, state'])
    rw [registerOff_waitDigit (s := stamped c s) state'] at watched
    obtain ⟨took, ports, groups⟩ := breaking_took (u := u) group none
    exact ⟨t, ⟨runs, took.right watched.circuits watched.pool watched.portState⟩, watched.groups.trans groups,
      (NoCircuitEvent.of_ports ports).quiet (watched.quiet c)⟩
  · have state' : (s.unit u).state = .register .inMake := state
    have notDue : instantDue s.timeBase (s.unit u).subEnd = false :=
      Bool.eq_false_iff.mpr fun h => waits (instantDue_iff.mp h)
    obtain ⟨t, runs, watched⟩ := exec_register_off awake due (receiving state) unit on
      (by simp [digitCompleteDue, notDue]) (by simp [longBreakDue, state'])
    rw [registerOff_make (s := stamped c s) state', stamped_unit] at watched
    obtain ⟨took, ports, groups⟩ := breaking_took (u := u) group k.brkStart
    have member : (((stamped c s).breaking u c k.brkStart).circuit c).group = some g := by rw [took.2.1]; exact group
    obtain ⟨⟨groups', -, circuits, pool, -, ports'⟩, quiet⟩ := handPeriod_frame member k.brkStart
    refine ⟨t, ⟨runs, (took.right circuits pool ports').right watched.circuits watched.pool watched.portState⟩,
      fun x hx => ?_, ((NoCircuitEvent.of_ports ports).quiet quiet).quiet (watched.quiet c), fun since started => ?_⟩
    · rw [watched.group, groups' x hx, State.group, groups]
      rfl
    · rw [show (s.unit u).brkStart = _ from started] at watched
      have own : ((stamped c s).breaking u c (some since)).group g = s.group g := rfl
      refine ⟨fun track low high => ?_, fun other => ?_⟩
      · rw [handPeriod_of_track (s := (stamped c s).breaking u c (some since)) (by rw [← started]; exact member) (by rw [own]; exact track) low high] at watched
        obtain ⟨same, samePorts⟩ := takePeriod_congr (g := g) (p := elapsed s.timeBase since) own ⟨rfl, rfl⟩
        refine ⟨(watched.group g).trans same, fun q => ?_⟩
        rw [(watched.ports q).pend _ (by simp)]
        exact congrArg (fun r : PortRecord => r.pend[(Item.group g).index]) (samePorts q)
      · rw [handPeriod_of_not (s := (stamped c s).breaking u c (some since)) (by rw [← started]; exact member) (by rw [own]; exact other)] at watched
        exact watched.groups
  · have state' : (s.unit u).state = .register .inBreak := state
    have fresh' : (s.unit u).longBrk = false := fresh
    have notDue : longBreakDue u s = false := by
      have waits' : instantDue s.timeBase (s.unit u).subEnd = false :=
        Bool.eq_false_iff.mpr fun h => waits (instantDue_iff.mp h)
      simp [longBreakDue, waits']
    obtain ⟨t, runs, watched⟩ := exec_register_on awake due (receiving state) unit off short
      (by simp [digitCompleteDue, state'])
    rw [notDue, if_neg (by simp), registerOn_pulse (s := stamped c s) state' fresh' waits,
      State.applied_of_group group] at watched
    have took := RegisterTook.of_only (c := c) (.modUnit (stamped c s) u fun k =>
      { k with state := .register .inMake, count := min 11 (k.count + 1)
               subEnd := some (timeAfter (stamped c s).timeBase (s.group g).reference.tId) })
      (State.modUnit_unit_self _ u _) (PortsKept.portState (s := s) ⟨rfl, rfl⟩)
    exact ⟨t, ⟨runs, took.right watched.circuits watched.pool watched.portState⟩, watched.groups,
      (NoCircuitEvent.of_ports (s := s) ⟨rfl, rfl⟩).quiet (watched.quiet c)⟩
  · have state' : (s.unit u).state = .register .inBreak := state
    obtain ⟨t, runs, watched⟩ := exec_register_on awake due (receiving state) unit off short
      (by simp [digitCompleteDue, state'])
    have marked : (if longBreakDue u s then markLong u s else s) = s ∨
        (if longBreakDue u s then markLong u s else s) = markLong u s := by
      by_cases due : longBreakDue u s = true
      · exact .inr (if_pos due)
      · exact .inl (if_neg due)
    generalize (if longBreakDue u s then markLong u s else s) = r at watched marked
    have found : ((stamped c r).unit u).state = .register .inBreak ∧
        (((stamped c r).unit u).longBrk = true ∨ Come (stamped c r).timeBase ((stamped c r).unit u).subEnd) := by
      rcases marked with rfl | rfl
      · exact ⟨state', long⟩
      · rw [stamped_unit, markLong, State.modUnit_unit_self]
        exact ⟨state', .inl rfl⟩
    rw [registerOn_discard found.1 found.2] at watched
    obtain ⟨took, groups, reports⟩ := discarding_took (c := c) marked
    exact ⟨t, ⟨runs, took.right watched.circuits watched.pool watched.portState⟩, watched.groups.trans groups,
      reports.quiet (watched.quiet c)⟩
  · have state' : (s.unit u).state = .register .waitDigit := state
    obtain ⟨t, runs, watched⟩ := exec_register_on awake due (receiving state) unit off short
      (by simp [digitCompleteDue, state'])
    rw [if_neg (by simp [longBreakDue, state']), registerOn_waitDigit (s := stamped c s) state'] at watched
    have took : RegisterTook c u k s (stamped c s) :=
      .of_only ⟨fun _ _ => rfl, rfl, rfl, rfl, rfl, rfl, .refl _⟩ rfl (stamped_ports c s).portState
    exact ⟨t, ⟨runs, took.right watched.circuits watched.pool watched.portState⟩, watched.groups,
      (stamped_quiet c c s).quiet (watched.quiet c)⟩

end Sys2Proof.Machine

/-! PROOFS. The call that a yield displaces (R96 to R99): the events that its slot takes back, the rehunt, and the ends of a
call that finds no circuit. -/

namespace Sys2Proof.Machine

section EventSets

/-! ## Events taken back (R96) -/

theorem EventSet.remove_has_self (k : EventSet) (e : Event) : (k.remove e).has e = false := by
  simp [EventSet.has, EventSet.remove, BitVec.and_assoc]

/-- An event of another bit stays. -/
theorem EventSet.remove_has (k : EventSet) {e e' : Event} (apart : ~~~e'.mask &&& e.mask = e.mask) :
    (k.remove e').has e = k.has e := by
  simp only [EventSet.has, EventSet.remove, BitVec.and_assoc, apart]

/-- A set of events without those that the seizure of the yielded circuit put in it. -/
def EventSet.retaken (k : EventSet) : EventSet := (k.remove .seized).remove .rehunted

theorem EventSet.retaken_seized (k : EventSet) : k.retaken.has .seized = false := by
  rw [EventSet.retaken, EventSet.remove_has _ (by decide), EventSet.remove_has_self]

theorem EventSet.retaken_rehunted (k : EventSet) : k.retaken.has .rehunted = false := EventSet.remove_has_self _ _

theorem EventSet.retaken_other (k : EventSet) {e : Event} (h : e ∈ [Event.expired, .glareQueued, .glareFailed]) :
    k.retaken.has e = k.has e := by
  simp only [List.mem_cons, List.not_mem_nil, or_false] at h
  rcases h with rfl | rfl | rfl <;>
    rw [EventSet.retaken, EventSet.remove_has _ (by decide), EventSet.remove_has _ (by decide)]

/-- What a set holds once the displaced call's own event has joined it. -/
theorem EventSet.retaken_add (k : EventSet) {e : Event} (h : e ∈ [Event.rehunted, .glareQueued, .glareFailed]) :
    (k.retaken.add e).has .seized = false ∧ ((k.retaken.add e).has .rehunted = true ↔ e = .rehunted) ∧
      ∀ x ∈ [Event.expired, .glareQueued, .glareFailed], k.has x = true → (k.retaken.add e).has x = true := by
  simp only [List.mem_cons, List.not_mem_nil, or_false] at h
  refine ⟨?_, ?_, fun x hx held => (EventSet.has_add _ _ _).mpr (.inl ((k.retaken_other hx).trans held))⟩
  · refine Bool.eq_false_iff.mpr fun has => ?_
    rcases (EventSet.has_add _ _ _).mp has with old | new
    · simp [k.retaken_seized] at old
    · rcases h with rfl | rfl | rfl <;> exact new (by decide)
  · rw [EventSet.has_add, k.retaken_rehunted]
    rcases h with rfl | rfl | rfl <;> simp <;> decide

end EventSets

section Displacement

variable {c d : Fin 96} {g : Fin 8} {id : SlotId} {call : SlotCall} {digits : List (Fin 10)} {eon : Bool} {s t v : State}

/-! ## The slot's events (R96) -/

/-- A report read of a slot without the events that are taken back. -/
def ReportRead.retaken (k : ReportRead) (n : Fin 16) : ReportRead :=
  if k.item = .slot n then { k with events := k.events.retaken } else k

theorem forgetSeized_port (id : SlotId) (s : State) (p : Port) :
    (forgetSeized id s).port p =
      if p = id.port then
        { s.port p with
          pend := (s.port p).pend.set (Item.slot id.num).index ((s.port p).pend[(Item.slot id.num).index]).retaken
          report := (s.port p).report.map (·.retaken id.num) }
      else s.port p := by
  rw [forgetSeized, State.modPort_port]
  split
  · next same => subst same; rfl
  · rfl

theorem forgetSeized_frame (id : SlotId) (s : State) :
    (forgetSeized id s).circuits = s.circuits ∧ (forgetSeized id s).groups = s.groups ∧ PoolKept s (forgetSeized id s) ∧
      LinesKept s (forgetSeized id s) := by
  simp [forgetSeized, PoolKept, LinesKept]

theorem forgetSeized_slot (id x : SlotId) (s : State) : (forgetSeized id s).slot x = s.slot x := by
  rw [State.slot, forgetSeized_port]
  split <;> rfl

theorem forgetSeized_slotPend (id : SlotId) (s : State) :
    (forgetSeized id s).slotPend id = (s.slotPend id).retaken := by
  rw [State.slotPend, forgetSeized_port, if_pos rfl]
  simp [PortRecord.pendOf, State.slotPend]

theorem forgetSeized_quiet (id : SlotId) (s : State) (c : Fin 96) : NoCircuitEvent c s (forgetSeized id s) := by
  refine .of_books fun p => ?_
  rw [forgetSeized_port]
  split
  · have apart : (Item.slot id.num).index.val ≠ (Item.circuit c).index.val := fun same =>
      absurd (Item.index_injective (Fin.ext same)) (by simp)
    simp [apart]
  · exact ⟨rfl, .rfl, List.prefix_rfl⟩

/-! ## The rehunt (R97, R98) -/

theorem rehunt_of_circuit (chosen : huntChoice (s.group call.group).huntMode (s.group call.group).idle = some d) :
    rehunt id call digits eon s =
      (enterOutSeizing d id digits eon (s.hunted d id call)).raiseSlot id .rehunted := by
  simp only [rehunt, chosen]
  rfl

/-- The state in which a displaced call waits at the head of the queue. -/
def State.waitingFirst (s : State) (id : SlotId) (call : SlotCall) (digits : List (Fin 10)) (eon : Bool) : State :=
  (s.setSlot id (.waiting call digits eon (s.expiryAfter call.wait))).modGroup call.group
    fun k => { k with queue := id :: k.queue }

theorem huntChoice_none {mode : HuntMode} {idle : List (Fin 96)} (h : idle = []) : huntChoice mode idle = none := by
  rw [h]
  rfl

theorem rehunt_of_wait (empty : (s.group call.group).idle = []) (wait : 0 < call.wait) :
    rehunt id call digits eon s = (s.waitingFirst id call digits eon).raiseSlot id .glareQueued := by
  simp only [rehunt, huntChoice_none empty, if_pos wait]
  rfl

theorem rehunt_of_none (empty : (s.group call.group).idle = []) (wait : call.wait = 0) :
    rehunt id call digits eon s = failGlare id call s := by
  simp [rehunt, huntChoice_none empty, wait]

/-! ## What a displaced call leaves of the rest -/

/-- Outside the circuits and the pool a displaced call touches idle lists and wait queues, and no event of its circuit. -/
structure Displaced (c : Fin 96) (s t : State) : Prop where
  groups : ∀ x, ∃ idle queue, t.group x = { s.group x with idle := idle, queue := queue }
  quiet : NoCircuitEvent c s t
  enabled : ∀ p, (t.port p).enabled = (s.port p).enabled

theorem Displaced.trans (h : Displaced c s t) (k : Displaced c t v) : Displaced c s v := by
  refine ⟨fun x => ?_, h.quiet.quiet k.quiet, fun p => (k.enabled p).trans (h.enabled p)⟩
  obtain ⟨idle, queue, eq⟩ := h.groups x
  obtain ⟨idle', queue', eq'⟩ := k.groups x
  exact ⟨idle', queue', by rw [eq', eq]⟩

theorem Displaced.of_ports (groups : t.groups = s.groups) (ports : PortsKept s t) : Displaced c s t :=
  ⟨fun x => ⟨_, _, by rw [State.group, groups]; rfl⟩, .of_ports ports, fun p => by rw [ports.port]⟩

theorem Displaced.raiseSlot (s : State) (c : Fin 96) (id : SlotId) (e : Event) : Displaced c s (s.raiseSlot id e) :=
  ⟨fun _ => ⟨_, _, State.raiseSlot_group ..⟩, .raiseSlot s c id e, fun p => (PortStateKept.raiseSlot s id e p).1⟩

theorem Displaced.setSlot (s : State) (c : Fin 96) (id : SlotId) (k : Slot) : Displaced c s (s.setSlot id k) :=
  ⟨fun x => ⟨_, _, by rw [State.setSlot, State.modPort_group]⟩, .setSlot s c id k,
    fun p => (PortStateKept.setSlot s id k p).1⟩

theorem Displaced.modGroup (s : State) (c : Fin 96) (g : Fin 8) {f : Group → Group}
    (books : ∀ k, ∃ idle queue, f k = { k with idle := idle, queue := queue }) : Displaced c s (s.modGroup g f) := by
  refine ⟨fun x => ?_, .of_same fun p => by rw [State.modGroup_port]; exact ⟨rfl, rfl⟩, fun p => by rw [State.modGroup_port]⟩
  rw [State.modGroup_group]
  split
  · next same => subst same; exact books _
  · exact ⟨_, _, rfl⟩

theorem Displaced.hunted (s : State) (c d : Fin 96) (id : SlotId) (call : SlotCall) : Displaced c s (s.hunted d id call) := by
  have left : Displaced c s (leaveIdleList d s) := by
    unfold leaveIdleList
    split
    · exact .modGroup s c _ fun k => ⟨_, _, rfl⟩
    · exact .of_ports rfl (.refl s)
  exact left.trans (.setSlot _ c id _)

theorem Displaced.rehunt (s : State) (c : Fin 96) (id : SlotId) (call : SlotCall) (digits : List (Fin 10)) (eon : Bool) :
    Displaced c s (rehunt id call digits eon s) := by
  unfold Machine.rehunt
  split
  · next d _ =>
    obtain ⟨groups, ports, -⟩ := enterOutSeizing_frame (s.hunted d id call) d id digits eon
    exact ((Displaced.hunted s c d id call).trans (.of_ports groups ports)).trans (.raiseSlot _ c id _)
  · split
    · exact ((Displaced.setSlot s c id _).trans (.modGroup _ c _ fun k => ⟨_, _, rfl⟩)).trans (.raiseSlot _ c id _)
    · exact (Displaced.setSlot s c id _).trans (.raiseSlot _ c id _)

theorem Displaced.forgetSeized (s : State) (c : Fin 96) (id : SlotId) : Displaced c s (forgetSeized id s) := by
  obtain ⟨-, groups, -⟩ := forgetSeized_frame id s
  refine ⟨fun x => ⟨_, _, by rw [State.group, groups]; rfl⟩, forgetSeized_quiet id s c, fun p => ?_⟩
  rw [forgetSeized_port]
  split <;> rfl

/-- The state in which the circuit has lost its outgoing call. -/
def State.uncalled (s : State) (c : Fin 96) : State :=
  s.modCircuit c fun k => { k with digits := [], eon := false, slot := none }

theorem displaceCall_of_none (h : (s.circuit c).slot = none) : displaceCall c s = s.uncalled c := by
  simp only [displaceCall, h]
  rfl

/-- The linked slot's call goes on, or fails at its second glare. -/
theorem displaceCall_of_slot (linked : (s.circuit c).slot = some id) (slot : s.slot id = .seizing call d) :
    displaceCall c s =
      if call.glareCount = 0 then
        rehunt id { call with glareCount := 1 } (s.circuit c).digits (s.circuit c).eon (forgetSeized id (s.uncalled c))
      else failGlare id call (forgetSeized id (s.uncalled c)) := by
  have slot' : (s.uncalled c).slot id = .seizing call d := (State.modCircuit_slot s c _ id).trans slot
  unfold State.uncalled at slot' ⊢
  simp only [displaceCall, linked, slot']

theorem Displaced.displaceCall (s : State) (c : Fin 96) : Displaced c s (displaceCall c s) := by
  have emptied : Displaced c s (s.uncalled c) := .of_ports rfl ⟨rfl, rfl⟩
  cases linked : (s.circuit c).slot with
  | none => rw [displaceCall_of_none linked]; exact emptied
  | some id =>
    cases slot : s.slot id with
    | seizing call d =>
      rw [displaceCall_of_slot linked slot]
      split
      · exact (emptied.trans (.forgetSeized _ c id)).trans (.rehunt _ c id _ _ _)
      · exact ((emptied.trans (.forgetSeized _ c id)).trans (.setSlot _ c id _)).trans (.raiseSlot _ c id _)
    | free | waiting | outcome =>
      have slot' := (State.modCircuit_slot s c (fun k => { k with digits := [], eon := false, slot := none }) id).trans slot
      simp only [Machine.displaceCall, linked, slot']
      exact emptied

/-! ## Where a displaced call goes (R97, R98) -/

theorem State.raiseSlot_slot (s : State) (id x : SlotId) (e : Event) : (s.raiseSlot id e).slot x = s.slot x := by
  rw [State.slot, State.raiseSlot_port]
  split <;> rfl

/-- A displaced call's slot has its event raised; of its other events and of a report read nothing differs. -/
structure SlotGoesOn (id : SlotId) (e : Event) (s t : State) : Prop where
  pend : t.slotPend id = (s.slotPend id).add e
  reported : Reported id.port (.slot id.num) e t
  report : ∀ p, (t.port p).report = (s.port p).report

theorem SlotGoesOn.raise (pend : t.slotPend id = s.slotPend id) (ports : PortStateKept s t) (e : Event) :
    SlotGoesOn id e s (t.raiseSlot id e) := by
  refine ⟨?_, .raiseSlot t id e, fun p => ?_⟩
  · rw [← pend, State.slotPend, State.raiseSlot_port, if_pos rfl]
    simp [PortRecord.withEvent, PortRecord.pendOf, State.slotPend]
  · obtain ⟨-, -, -, -, -, -, -, report⟩ := ports p
    obtain ⟨-, -, -, -, -, -, -, report'⟩ := PortStateKept.raiseSlot t id e p
    exact report'.trans report

theorem State.setSlot_slotPend (s : State) (id x : SlotId) (k : Slot) : (s.setSlot id k).slotPend x = s.slotPend x := by
  rw [State.slotPend, State.setSlot_port]
  split <;> rfl

theorem PortsKept.slotPend (h : PortsKept s t) (id : SlotId) : t.slotPend id = s.slotPend id := by
  rw [State.slotPend, h.port, State.slotPend]

/-- The hunt finds a circuit (R97). -/
theorem rehunt_seizes (sound : PoolSound s)
    (chosen : huntChoice (s.group call.group).huntMode (s.group call.group).idle = some d) :
    let t := rehunt id call digits eon s
    SlotGoesOn id .rehunted s t ∧ t.slot id = .seizing call d ∧ Seizes (s.group call.group) d id digits eon s t ∧
      (t.group call.group).idle = (s.group call.group).idle.filter fun x => x ≠ d := by
  obtain ⟨seizes, -, slot, own, -, -, ports, -⟩ := seizes_hunted sound (huntChoice_mem chosen) id call digits eon
  obtain ⟨-, ports', -⟩ := enterOutSeizing_frame (s.hunted d id call) d id digits eon
  obtain ⟨-, -, idlePorts⟩ := leaveIdleList_frame d s
  simp only
  rw [rehunt_of_circuit chosen]
  refine ⟨.raise ?_ ports _, by rw [State.raiseSlot_slot]; exact slot,
    seizes.congr (by simp) (by simp [PoolKept]) rfl rfl, by rw [State.raiseSlot_group, own]⟩
  rw [ports'.slotPend, State.hunted, State.setSlot_slotPend, idlePorts.slotPend]

/-- No circuit is idle, and the call has a wait (R98). -/
theorem rehunt_waits (empty : (s.group call.group).idle = []) (wait : 0 < call.wait) :
    let t := rehunt id call digits eon s
    SlotGoesOn id .glareQueued s t ∧
      t.slot id = .waiting call digits eon (timeAfter s.timeBase (1000 * call.wait)) ∧
      (t.group call.group).queue = id :: (s.group call.group).queue := by
  have slots : PortsKept (s.setSlot id (.waiting call digits eon (s.expiryAfter call.wait)))
      (s.waitingFirst id call digits eon) := ⟨rfl, rfl⟩
  simp only
  rw [rehunt_of_wait empty wait]
  refine ⟨.raise ?_ ((PortStateKept.setSlot s id _).trans slots.portState) _, ?_, ?_⟩
  · rw [slots.slotPend, State.setSlot_slotPend]
  · rw [State.raiseSlot_slot, slots.slot, State.setSlot_slot_self]
    rfl
  · rw [State.raiseSlot_group, State.waitingFirst, State.modGroup_group_self, State.setSlot, State.modPort_group]

/-- The call fails (R98). -/
theorem failGlare_ends (id : SlotId) (call : SlotCall) (s : State) :
    SlotGoesOn id .glareFailed s (failGlare id call s) ∧ (failGlare id call s).slot id = .outcome call .glareFailed :=
  ⟨.raise (State.setSlot_slotPend s id id _) (.setSlot s id _) _, by
    rw [failGlare, State.raiseSlot_slot, State.setSlot_slot_self]⟩

/-- What becomes of the call that a linked slot holds (R96 to R98). -/
def CallGoesOn (id : SlotId) (call : SlotCall) (digits : List (Fin 10)) (eon : Bool) (s t : State) (e : Event) : Prop :=
  let k := s.group call.group
  let again : SlotCall := { call with glareCount := 1 }
  (call.glareCount ≠ 0 → e = .glareFailed ∧ t.slot id = .outcome call .glareFailed) ∧
    (call.glareCount = 0 →
      (∀ d, huntChoice k.huntMode k.idle = some d →
        e = .rehunted ∧ t.slot id = .seizing again d ∧ Seizes k d id digits eon s t ∧
          (t.group call.group).idle = k.idle.filter fun x => x ≠ d) ∧
      (k.idle = [] → 0 < call.wait →
        e = .glareQueued ∧ t.slot id = .waiting again digits eon (timeAfter s.timeBase (1000 * call.wait)) ∧
          (t.group call.group).queue = id :: k.queue) ∧
      (k.idle = [] → call.wait = 0 → e = .glareFailed ∧ t.slot id = .outcome again .glareFailed))

theorem displaced_goes_on (sound : PoolSound s) (id : SlotId) (call : SlotCall) (digits : List (Fin 10)) (eon : Bool) :
    ∃ e ∈ [Event.rehunted, .glareQueued, .glareFailed],
      (e = .rehunted ↔ call.glareCount = 0 ∧ (s.group call.group).idle ≠ []) ∧
      SlotGoesOn id e s (if call.glareCount = 0 then rehunt id { call with glareCount := 1 } digits eon s
        else failGlare id call s) ∧
      CallGoesOn id call digits eon s (if call.glareCount = 0 then rehunt id { call with glareCount := 1 } digits eon s
        else failGlare id call s) e := by
  by_cases first : call.glareCount = 0
  · rw [if_pos first]
    by_cases empty : (s.group call.group).idle = []
    · have none_ : ∀ mode d, huntChoice mode (s.group call.group).idle ≠ some d := fun mode d h => by
        rw [huntChoice_none empty] at h
        cases h
      by_cases wait : call.wait = 0
      · obtain ⟨goes, slot⟩ := failGlare_ends id { call with glareCount := 1 } s
        rw [rehunt_of_none (call := { call with glareCount := 1 }) empty wait]
        exact ⟨.glareFailed, by simp, by simp [empty], goes, fun other => absurd first other, fun _ =>
          ⟨fun d h => absurd h (none_ _ d), fun _ positive => absurd wait (Nat.pos_iff_ne_zero.mp positive),
            fun _ _ => ⟨rfl, slot⟩⟩⟩
      · obtain ⟨goes, slot, queue⟩ := rehunt_waits (id := id) (digits := digits) (eon := eon)
          (call := { call with glareCount := 1 }) empty (Nat.pos_of_ne_zero wait)
        exact ⟨.glareQueued, by simp, by simp [empty], goes, fun other => absurd first other, fun _ =>
          ⟨fun d h => absurd h (none_ _ d), fun _ _ => ⟨rfl, slot, queue⟩, fun _ zero => absurd zero wait⟩⟩
    · obtain ⟨d, chosen⟩ := huntChoice_some (mode := (s.group call.group).huntMode) empty
      obtain ⟨goes, slot, seizes, idle⟩ := rehunt_seizes (id := id) (digits := digits) (eon := eon)
        (call := { call with glareCount := 1 }) sound chosen
      refine ⟨.rehunted, by simp, by simp [first, empty], goes, fun other => absurd first other, fun _ =>
        ⟨fun x hx => ?_, fun none_ => absurd none_ empty, fun none_ => absurd none_ empty⟩⟩
      obtain rfl := Option.some.inj (chosen.symm.trans hx)
      exact ⟨rfl, slot, seizes, idle⟩
  · obtain ⟨goes, slot⟩ := failGlare_ends id call s
    rw [if_neg first]
    exact ⟨.glareFailed, by simp, by simp [first], goes, fun _ => ⟨rfl, slot⟩, fun zero => absurd zero first⟩

end Displacement

end Sys2Proof.Machine

/-! PROOFS. The circuit that yields on glare (R94, R95), the incoming call that it offers (R29, R72), and the far end that gives
way (R92). -/

namespace Sys2Proof.Machine

section NewSeizures

variable {c d : Fin 96} {u : Fin 16} {s t v : State} {cls : UnitClass}

/-! ## No other circuit begins to seize -/

/-- No circuit but one has entered OUT_SEIZING. -/
def NoNewSeizure (c : Fin 96) (s t : State) : Prop :=
  ∀ d, d ≠ c → (t.circuit d).state = .outSeizing → (s.circuit d).state = .outSeizing

theorem NoNewSeizure.trans (h : NoNewSeizure c s t) (k : NoNewSeizure c t v) : NoNewSeizure c s v :=
  fun d hd seizing => h d hd (k d hd seizing)

theorem NoNewSeizure.of_circuits (h : CircuitsKept [c] s t) : NoNewSeizure c s t := fun d hd seizing => by
  rwa [h d (by simpa using hd)] at seizing

theorem attach_seizing (u : Fin 16) (d : Fin 96) (cls : UnitClass) (s : State)
    (seizing : ((attach u d cls s).circuit d).state = .outSeizing) : (s.circuit d).state = .outSeizing := by
  cases cls with
  | sender => rwa [attach_sender_circuit] at seizing
  | register =>
    obtain ⟨-, -, state, -⟩ := attach_register_kept u d s
    simp [state] at seizing

theorem NoNewSeizure.attach (u : Fin 16) (e : Fin 96) (cls : UnitClass) (s : State) :
    NoNewSeizure c s (attach u e cls s) := by
  intro d _ seizing
  by_cases same : d = e
  · subst same
    exact attach_seizing u d cls s seizing
  · rwa [(attached u e cls s).circuits d (by simpa using same)] at seizing

theorem NoNewSeizure.unlinkUnit (u : Fin 16) (s : State) : NoNewSeizure c s (unlinkUnit u s) := by
  intro d _ seizing
  obtain ⟨-, -, circuits, -⟩ := unlinkUnit_spec s u
  rw [circuits] at seizing
  split at seizing <;> exact seizing

theorem NoNewSeizure.detachFrom (c : Fin 96) (s : State) : NoNewSeizure c s (detachFrom c s) := by
  unfold Machine.detachFrom
  split
  · next u _ =>
    unfold detach
    simp only
    split
    · exact NoNewSeizure.unlinkUnit u s
    · refine (NoNewSeizure.unlinkUnit u s).trans ?_
      obtain ⟨-, -, eq⟩ | ⟨e, rest, -, eq⟩ | ⟨e, rest, -, -, eq⟩ := becomeAvailable_cases (Machine.unlinkUnit u s) u
      · rw [eq]
        exact fun _ _ h => h
      · rw [eq]
        exact .attach u e.circuit .register _
      · rw [eq]
        exact .attach u e.circuit .sender _
  · exact fun _ _ h => h

theorem NoNewSeizure.letGo (c : Fin 96) (s : State) : NoNewSeizure c s (letGo c s) := by
  refine (NoNewSeizure.detachFrom c s).trans (.of_circuits fun d hd => ?_)
  rw [Machine.letGo, (withdraw_spec _ c).1, if_neg (by simpa using hd)]

theorem NoNewSeizure.requestUnit (c : Fin 96) (cls : UnitClass) (s : State) : NoNewSeizure c s (requestUnit c cls s) := by
  intro d hd seizing
  by_cases kept : s.reclaimed = some d
  · cases free : s.freeUnit with
    | some u => simp [State.reclaimed, free] at kept
    | none =>
      cases parked : s.parked with
      | nil => simp [State.reclaimed, free, parked] at kept
      | cons u rest =>
        obtain ⟨-, -, -, -, -, -, -, -, circuits⟩ := requestUnit_attached_parked (c := c) (cls := cls) free parked
        rw [circuits d hd] at seizing
        split at seizing <;> exact seizing
  · rwa [requestUnit_circuit_other hd kept] at seizing

end NewSeizures

section Offered

variable {c d : Fin 96} {g : Fin 8} {u : Fin 16} {s s1 t v : State}

/-! ## The register of a yielded circuit (R72, R95) -/

theorem elapsed_self (t : Time) : elapsed t t = 0 := by simp [elapsed]

/-- A yielded circuit keeps its lead OFF for the gap, and its acknowledgement waits for it. -/
theorem attach_register_yielded (phase : (s.circuit c).glarePhase = .yielded)
    (since : (s.circuit c).glareTime = some s.timeBase) :
    ∃ (sup : Cond) (ackPulse : AckPulse) (timer : Option Timer) (ackEnd : Option Time),
      (attach u c .register s).circuit c =
        { s.circuit c with
          unit := some u, unitReq := none, state := .inReceiving, sup := sup, ackPulse := ackPulse, ackEnd := ackEnd
          timer := timer } ∧
      (0 < (s.circuit c).glareSep → sup = (s.circuit c).sup ∧
        (s.startMode c = .ackStart →
          ackPulse = .scheduled (timeAfter s.timeBase (s.circuit c).glareSep) ∧ timer = none ∧
            ackEnd = some (timeAfter (timeAfter s.timeBase (s.circuit c).glareSep) (s.par c .ackSend)))) ∧
      (s.startMode c = .timedStart → ackEnd = (s.circuit c).ackEnd ∧
        timer = some { start := s.timeBase, value := 1000 * s.par c .fdWait }) := by
  cases mode : s.startMode c with
  | timedStart =>
    rw [attach_register_of_timed mode, State.startTimer_circuit, if_pos rfl, State.listening_circuit]
    exact ⟨_, _, _, _, rfl, fun _ => ⟨rfl, fun h => by simp at h⟩, fun _ => ⟨rfl, rfl⟩⟩
  | ackStart =>
    rw [attach_register_of_ack mode]
    unfold acknowledge
    simp only [State.listening_circuit, phase, since, State.listening_timeBase, elapsed_self]
    by_cases gap : 0 < (s.circuit c).glareSep
    · refine ⟨(s.circuit c).sup, .scheduled (timeAfter s.timeBase (s.circuit c).glareSep), none,
        some (timeAfter (timeAfter s.timeBase (s.circuit c).glareSep) (s.par c .ackSend)), ?_,
        fun _ => ⟨rfl, fun _ => ⟨rfl, rfl, rfl⟩⟩, fun h => nomatch h⟩
      simp only [if_pos gap, State.modCircuit_circuit_self, State.listening_circuit, State.listening_par, ← phase, ← since]
    · simp only [if_neg gap, State.drive_circuit, if_true, State.modCircuit_circuit_self, State.listening_circuit]
      refine ⟨.on, .running, none, some (timeAfter s.timeBase ((s.listening u c).par c .ackSend)), ?_,
        fun h => absurd h gap, fun h => nomatch h⟩
      simp [phase, since]

/-! ## The offer of a yielded circuit (R29, R69, R95) -/

/-- A circuit whose yielded call has been offered: it waits for a register, or has one. -/
def YieldedOffer (c : Fin 96) (g : Fin 8) (owner : Option Port) (s t : State) : Prop :=
  let k := s.circuit c
  let r := t.circuit c
  r = { k with
        state := .inSeized, timer := none, owner := owner
        unitReq := if owner.isSome then
          some { cls := .register, time := s.timeBase, wait := (s.group g).par .regWait } else none } ∨
    ∃ u sup ackPulse ackEnd timer,
      r = { k with
            state := .inReceiving, owner := owner, unit := some u, unitReq := none, sup := sup, ackPulse := ackPulse
            ackEnd := ackEnd, timer := timer } ∧
      (t.unit u).circuit = some c ∧ (t.unit u).state = .register .waitDigit ∧ (t.unit u).attachTime = s.timeBase ∧
      (0 < k.glareSep → sup = k.sup ∧
        ((s.group g).startMode = .ackStart →
          ackPulse = .scheduled (timeAfter s.timeBase k.glareSep) ∧ timer = none ∧
            ackEnd = some (timeAfter (timeAfter s.timeBase k.glareSep) ((s.group g).par .ackSend)))) ∧
      ((s.group g).startMode = .timedStart → ackEnd = k.ackEnd ∧
        timer = some { start := s.timeBase, value := 1000 * (s.group g).par .fdWait })

/-- What the offer leaves alone, beside the pool: every group but for next_port, and the ports but for the event. -/
structure Offered (c : Fin 96) (g : Fin 8) (owner : Option Port) (s t : State) : Prop where
  group : t.group g = { s.group g with
    nextPort := if (s.group g).distribution = .alternate then otherPort (s.group g).nextPort else (s.group g).nextPort }
  groups : GroupsKept [g] s t
  event : CircuitEventBy owner c .offered s t
  lines : LinesKept s t
  seizures : NoNewSeizure c s t
  seizing : ∀ d, d ≠ c → (∀ u, (s.circuit d).unit = some u → (s.unit u).state = .sender .waitStart) →
    t.circuit d = s.circuit d ∧ (∀ u, (s.circuit d).unit = some u → t.unit u = s.unit u) ∧ t.sndQueue = s.sndQueue

/-- A register request leaves a circuit alone whose sender, if it has one, waits in WAIT_START. -/
theorem requestUnit_register_seizing (sound : PoolSound s) (pool : PoolKept s s1) (circuit : s1.circuit d = s.circuit d)
    (other : d ≠ c) (sender : ∀ u, (s.circuit d).unit = some u → (s.unit u).state = .sender .waitStart) :
    (requestUnit c .register s1).circuit d = s.circuit d ∧
      (∀ u, (s.circuit d).unit = some u → (requestUnit c .register s1).unit u = s.unit u) ∧
      (requestUnit c .register s1).sndQueue = s.sndQueue := by
  obtain ⟨units, -, snd, parkedKept⟩ := pool
  have unit : ∀ v, s1.unit v = s.unit v := fun v => by rw [State.unit, units, State.unit]
  have notFree : ∀ u, (s.circuit d).unit = some u → (s.unit u).state ≠ .free := fun u hu => by simp [sender u hu]
  have notParked : ∀ u, (s.circuit d).unit = some u → u ∉ s.parked := fun u hu listed => by
    have state := (sound.parkedList u).mp listed
    simp [sender u hu] at state
  have apart : ∀ u ∈ s.parked, (s.unit u).circuit ≠ some d := fun u listed serves =>
    notParked u ((sound.linked u d).mp serves) listed
  cases free : s1.freeUnit with
  | some v =>
    have a := requestUnit_attached_free (c := c) (cls := .register) free
    refine ⟨(a.circuits d (by simpa using other)).trans circuit, fun u hu => ?_, a.sndQueue.trans snd⟩
    have apart' : u ≠ v := fun same => notFree u hu (by rw [← unit, same]; exact (s1.freeUnit_some free).1)
    rw [a.units u (by simpa using apart'), unit]
  | none =>
    cases parked : s1.parked with
    | nil =>
      obtain ⟨-, others, units', -, -, snd'⟩ := requestUnit_queued (c := c) (cls := .register) free parked
      refine ⟨(others d (by simpa using other)).trans circuit, fun u _ => by rw [State.unit, units', ← unit]; rfl, ?_⟩
      rw [snd', snd]
      simp
    | cons v rest =>
      obtain ⟨-, -, -, -, units', -, snd', -, circuits⟩ :=
        requestUnit_attached_parked (c := c) (cls := .register) free parked
      have listed : v ∈ s.parked := by rw [← parkedKept, parked]; exact List.mem_cons_self
      refine ⟨?_, fun u hu => ?_, snd'.trans snd⟩
      · rw [circuits d other, if_neg (by rw [unit]; exact apart v listed), circuit]
      · have apart' : u ≠ v := fun same => notParked u hu (same ▸ listed)
        rw [units' u (by simpa using apart'), unit]

/-- The offer of a circuit that has yielded. -/
theorem offerCall_yielded (sound : PoolSound s) (group : (s.circuit c).group = some g) (unit : (s.circuit c).unit = none)
    (unitReq : (s.circuit c).unitReq = none) (phase : (s.circuit c).glarePhase = .yielded)
    (since : (s.circuit c).glareTime = some s.timeBase) :
    YieldedOffer c g (s.offerOwner (s.group g).offerPort) s (offerCall c s) ∧
      Offered c g (s.offerOwner (s.group g).offerPort) s (offerCall c s) := by
  obtain ⟨s1, groups, own, circuits, kept, lines, ports, eq⟩ := offerCall_cases s c g group
  generalize s.offerOwner (s.group g).offerPort = owner at circuits ports eq ⊢
  have circuit : s1.circuit c = { s.circuit c with state := .inSeized, timer := none, owner := owner } := by
    rw [circuits c, if_pos rfl]
  have others : ∀ d, d ≠ c → s1.circuit d = s.circuit d := fun d hd => by rw [circuits d, if_neg hd]
  have apart1 : NoneParkedOn c s1 := (sound.noneParkedOn unit).congr kept
  have par : ∀ p, s1.par c p = (s.group g).par p := fun p => by
    rw [State.par_of_group (g := g) (by rw [circuit]; exact group), own]
    rfl
  have mode : s1.startMode c = (s.group g).startMode := by
    rw [State.startMode_of_group (g := g) (by rw [circuit]; exact group), own]
  have time : s1.timeBase = s.timeBase := lines.2.1
  have first : NoNewSeizure c s s1 := .of_circuits fun d hd => others d (by simpa using hd)
  rw [eq]
  cases owner with
  | none =>
    refine ⟨.inl ?_, own, groups, ports, lines, first, fun d hd _ => ⟨others d hd, fun u _ => ?_, kept.2.2.1⟩⟩
    · simp only [Option.isSome_none, Bool.false_eq_true, if_false]
      rw [circuit, ← unitReq]
    · simp only [Option.isSome_none, Bool.false_eq_true, if_false]
      rw [State.unit, kept.1, State.unit]
  | some p =>
    obtain ⟨groups', ports', lines'⟩ := requestUnit_frame s1 c .register
    simp only [Option.isSome_some, if_true]
    refine ⟨?_, by rw [State.group, groups']; exact own, fun x hx => by rw [State.group, groups']; exact groups x hx,
      fun q => (ports'.port q).trans (ports q), lines.trans lines', first.trans (.requestUnit c .register s1),
      fun d hd sender => requestUnit_register_seizing sound kept (others d hd) hd sender⟩
    by_cases ready : s1.freeUnit.isSome = true ∨ s1.parked ≠ []
    · obtain ⟨u, s2, eq', time', group', own'⟩ := requestUnit_served (cls := .register) apart1 ready
      have mode' : s2.startMode c = (s.group g).startMode :=
        (State.startMode_congr (by rw [own']) fun x => by rw [group']).trans mode
      have par' : ∀ p, s2.par c p = (s.group g).par p := fun p =>
        (State.par_congr (by rw [own']) (fun x => by rw [group']) p).trans (par p)
      obtain ⟨sup, ackPulse, timer, ackEnd, record, gap, timed⟩ := attach_register_yielded (u := u) (c := c) (s := s2)
        (by rw [own', circuit]; exact phase) (by rw [own', circuit, time', time]; exact since)
      obtain ⟨-, -, -, listens, -⟩ := attach_register_kept u c s2
      rw [own', circuit] at record gap timed
      rw [mode', time', time, par'] at gap timed
      rw [eq']
      refine .inr ⟨u, sup, ackPulse, ackEnd, timer, record, ?_, ?_, ?_, gap, timed⟩
      · rw [listens]; rfl
      · rw [listens]; rfl
      · rw [listens]; exact time'.trans time
    · obtain ⟨none_, empty⟩ := not_or.mp ready
      obtain ⟨record, -⟩ := requestUnit_queued (c := c) (cls := .register) (by simpa using none_) (by simpa using empty)
      refine .inl ?_
      rw [record, circuit, time]
      simp only [State.requestWait, par, Option.isSome_some, if_true]

end Offered

end Sys2Proof.Machine

/-! PROOFS. Glare settled (R88 to R99): the priority end that holds, the circuit that yields with the call it displaces, and
the far end that gives way. -/

namespace Sys2Proof.Machine

section CircuitEvents

variable {c : Fin 96} {owner : Option Port} {e e' : Event} {it : Item} {p : Port} {s t : State}

/-! ## What an event on a circuit leaves of the slots -/

theorem CircuitEventBy.slot (h : CircuitEventBy owner c e s t) (id : SlotId) : t.slot id = s.slot id := by
  rw [State.slot, h]
  split <;> rfl

theorem CircuitEventBy.slotPend (h : CircuitEventBy owner c e s t) (id : SlotId) : t.slotPend id = s.slotPend id := by
  rw [State.slotPend, h]
  split
  · exact ((s.port id.port).withEvent_other (it := .circuit c) (x := .slot id.num) (by simp) e).1
  · rfl

theorem CircuitEventBy.reported (h : CircuitEventBy owner c e s t) (reported : Reported p it e' s) (apart : it ≠ .circuit c) :
    Reported p it e' t := by
  rw [Reported, h]
  split
  · obtain ⟨held, listed⟩ := reported
    have pend := ((s.port p).withEvent_other apart e).1
    exact ⟨by rw [pend]; exact held, (PortRecord.mem_withEvent ..).mpr (.inl listed)⟩
  · exact reported

end CircuitEvents

section Yielding

variable {c d : Fin 96} {g : Fin 8} {id : SlotId} {call : SlotCall} {s t v : State}

/-! ## The end without priority lets its call go (R94) -/

/-- The state in which a circuit without priority has let its unit go and lost the glare. -/
def State.yielding (s : State) (c : Fin 96) : State :=
  (letGo c ((s.modCircuit c fun k => { k with timer := none }).drive c .off)).raiseCircuit c .glareLost

/-- A seizing circuit as the yield leaves it. -/
def Circuit.yielding (k : Circuit) (off : Timer) : Circuit :=
  { k with timer := none, sup := .off, unit := none, unitReq := none, lastOff := if k.sup = .on then some off else k.lastOff }

/-- What lets the call go leaves alone beside the pool. -/
structure Yielding (c : Fin 96) (s t : State) : Prop where
  circuit : t.circuit c = (s.circuit c).yielding { start := s.timeBase, value := s.par c .sep }
  groups : t.groups = s.groups
  event : CircuitEvent c .glareLost s t
  lines : LinesKept s t
  seizures : NoNewSeizure c s t
  sound : PoolSound t
  apart : Apart c t

theorem State.yielding_spec (sound : PoolSound s) (seizing : (s.circuit c).state = .outSeizing) :
    Yielding c s (s.yielding c) := by
  have only : OnlyCircuit c s ((s.modCircuit c fun k => { k with timer := none }).drive c .off) :=
    ((OnlyCircuit.refl s c).modCircuit _).drive _
  have ports : PortsKept s ((s.modCircuit c fun k => { k with timer := none }).drive c .off) := ⟨rfl, rfl⟩
  have stopped := (sound.unseen (.stopTimer c)).drive c .off
  have own : ((s.modCircuit c fun k => { k with timer := none }).drive c .off).circuit c =
      { s.circuit c with
        timer := none, sup := .off
        lastOff := if (s.circuit c).sup = .on then some { start := s.timeBase, value := s.par c .sep }
          else (s.circuit c).lastOff } := by
    simp [State.drive_circuit, State.par]
  unfold State.yielding
  generalize (s.modCircuit c fun k => { k with timer := none }).drive c .off = s1 at only ports stopped own ⊢
  obtain ⟨own', ⟨-, groups, -, lines⟩, ports'⟩ := (stopped.tied c).letGo
  rw [own] at own'
  have event : CircuitEvent c .glareLost s ((letGo c s1).raiseCircuit c .glareLost) :=
    .raise (by rw [own']) (ports.trans ports') _
  have raised : ∀ d, ((letGo c s1).raiseCircuit c .glareLost).circuit d = (letGo c s1).circuit d := fun d =>
    State.raiseCircuit_circuit ..
  exact {
    circuit := by rw [raised, own']; rfl
    groups := (State.raiseCircuit_groups ..).trans (groups.trans only.2.1)
    event := event
    lines := (only.2.2.2.trans lines).raiseCircuit c _
    seizures := ((NoNewSeizure.of_circuits only.1).trans (.letGo c s1)).trans (.of_circuits fun d _ => raised d)
    sound := (stopped.letGo c).raiseCircuit c _
    apart := (stopped.letGo_apart (by rw [own]; simp [seizing])).alike (.raiseCircuit c _) }

/-! ## The circuit begins an incoming call (R95) -/

/-- The state in which a circuit without priority has begun its incoming call. -/
def State.begun (s : State) (c : Fin 96) : State :=
  s.modCircuit c fun k =>
    { k.startCall .incoming (s.startMode c) with
      digits := [], eon := false, glarePhase := .yielded, glareTime := some s.timeBase, glareSep := s.par c .sep }

theorem State.begun_only (s : State) (c : Fin 96) : OnlyCircuit c s (s.begun c) ∧ PortsKept s (s.begun c) :=
  ⟨(OnlyCircuit.refl s c).modCircuit _, rfl, rfl⟩

/-- The state in which the displaced call has gone on and the circuit has begun its own. -/
def State.yielded (s : State) (c : Fin 96) : State := (displaceCall c (s.yielding c)).begun c

theorem yieldGlare_eq (c : Fin 96) (s : State) : yieldGlare c s = offerCall c (s.yielded c) := rfl

/-- The record with which a yielded circuit is offered. -/
def Circuit.yielded (k : Circuit) (mode : StartMode) (sep : Nat) (now : Time) : Circuit :=
  { (k.yielding { start := now, value := sep }).startCall .incoming mode with
    digits := [], eon := false, slot := none, glarePhase := .yielded, glareTime := some now, glareSep := sep }

/-- The state that offers the yielded circuit, told from the one before the glare. -/
structure Yielded (c : Fin 96) (g : Fin 8) (s t : State) : Prop where
  circuit : t.circuit c = (s.circuit c).yielded (s.group g).startMode ((s.group g).par .sep) s.timeBase
  groups : ∀ x, ∃ idle queue, t.group x = { s.group x with idle := idle, queue := queue }
  reports : Reports c [((s.circuit c).owner, .glareLost)] s t
  lines : LinesKept s t
  sound : PoolSound t
  owner : ∀ p, t.offerOwner p = s.offerOwner p

theorem State.offerOwner_congr (enabled : ∀ p, (t.port p).enabled = (s.port p).enabled) (p : Port) :
    t.offerOwner p = s.offerOwner p := by
  simp only [State.offerOwner, enabled]

theorem State.yielded_spec (sound : PoolSound s) (group : (s.circuit c).group = some g)
    (seizing : (s.circuit c).state = .outSeizing) : Yielded c g s (s.yielded c) := by
  have y := State.yielding_spec sound seizing
  unfold State.yielded
  have own := (displaceCall_beside y.apart).circuit
  rw [State.modCircuit_circuit_self, y.circuit] at own
  have gone := Displaced.displaceCall (s.yielding c) c
  have lines := y.lines.displaceCall c
  have sound' := y.sound.displaceCall (c := c)
  have apart' := y.sound.displaceCall_apart y.apart (by rw [y.circuit]; exact seizing)
  have enabled : ∀ p, ((displaceCall c (s.yielding c)).port p).enabled = (s.port p).enabled := fun p =>
    (gone.enabled p).trans (y.event.portState p).1
  have sep : s.par c .sep = (s.group g).par .sep := State.par_of_group group _
  have groups : ∀ x, ∃ idle queue, (displaceCall c (s.yielding c)).group x =
      { s.group x with idle := idle, queue := queue } := fun x => by
    obtain ⟨idle, queue, eq⟩ := gone.groups x
    exact ⟨idle, queue, by rw [eq, State.group, y.groups]; rfl⟩
  have reports : Reports c [((s.circuit c).owner, .glareLost)] s (displaceCall c (s.yielding c)) :=
    (CircuitEventBy.reports y.event).quiet gone.quiet
  generalize displaceCall c (s.yielding c) = v at own lines sound' apart' enabled groups reports ⊢
  obtain ⟨idle, queue, mine⟩ := groups g
  have member : (v.circuit c).group = some g := by rw [own]; exact group
  have mode : v.startMode c = (s.group g).startMode := by rw [State.startMode_of_group member, mine]
  have sep' : v.par c .sep = (s.group g).par .sep := by rw [State.par_of_group member, mine]; rfl
  exact {
    circuit := by
      rw [State.begun, State.modCircuit_circuit_self, own, mode, sep', sep, lines.2.1]
      rfl
    groups := groups
    reports := reports.quiet (.of_ports ⟨rfl, rfl⟩)
    lines := lines.modCircuit c _
    sound := sound'.moveState apart' rfl rfl (by rw [own]; simp [Circuit.yielding, Circuit.startCall, seizing])
    owner := State.offerOwner_congr enabled }

/-! ## The circuit that the displaced call takes is not touched by the offer (R97) -/

/-- The sender of a circuit just seized waits for its first digit. -/
theorem Seizes.sender_waits {k : Group} {digits : List (Fin 10)} {eon : Bool} (h : Seizes k d id digits eon s t) (u : Fin 16)
    (unit : (t.circuit d).unit = some u) : (t.unit u).state = .sender .waitStart := by
  obtain ⟨-, -, -, -, -, -, -, -, -, -, -, -, -, -, -, -, bare, asks⟩ := h
  by_cases none_ : digits = []
  · simp [(bare none_).1] at unit
  · rcases asks none_ with ⟨u', unit', -, -, waits⟩ | ⟨unit', -⟩
    · obtain rfl := Option.some.inj (unit'.symm.trans unit)
      exact waits
    · simp [unit'] at unit

/-- A seizure is told by the circuit, its unit, the sender class and the instant. -/
theorem Seizes.beside {k : Group} {digits : List (Fin 10)} {eon : Bool} {s1 t' : State} (h : Seizes k d id digits eon s t)
    (circuit : t'.circuit d = t.circuit d) (units : ∀ u, (t.circuit d).unit = some u → t'.unit u = t.unit u)
    (sndQueue : t'.sndQueue = t.sndQueue) (time : s1.timeBase = s.timeBase) (lead : s1.leadOn d = s.leadOn d) :
    Seizes k d id digits eon s1 t' := by
  simp only [Seizes, circuit, sndQueue, time, lead] at h ⊢
  obtain ⟨state, fresh, phase, since, ackEnd, digit, eon_, owner, slot, seized, sup, present, ackMax, minSeize, prePause,
    timer, bare, asks⟩ := h
  refine ⟨state, fresh, phase, since, ackEnd, digit, eon_, owner, slot, seized, sup, present, ackMax, minSeize, prePause,
    timer, bare, fun some_ => ?_⟩
  rcases asks some_ with ⟨u, unit, unitReq, linked⟩ | waits
  · exact .inl ⟨u, unit, unitReq, by rw [units u unit]; exact linked⟩
  · exact .inr waits

/-! ## What becomes of the slots (R96 to R99) -/

/-- A call with no slot is dropped, and no other circuit is seized. -/
theorem yieldGlare_unlinked (sound : PoolSound s) (seizing : (s.circuit c).state = .outSeizing)
    (free : (s.circuit c).slot = none) {owner : Option Port} (offered : Offered c g owner (s.yielded c) t)
    (incoming : (t.circuit c).state ≠ .outSeizing) :
    (∀ id, t.slot id = s.slot id ∧ t.slotPend id = s.slotPend id) ∧ (t.group g).idle = (s.group g).idle ∧
      (t.group g).queue = (s.group g).queue ∧
      ∀ d, (t.circuit d).state = .outSeizing → (s.circuit d).state = .outSeizing := by
  have y := State.yielding_spec sound seizing
  have none_ : ((s.yielding c).circuit c).slot = none := by rw [y.circuit]; exact free
  obtain ⟨own, -, event, -, seizures, -⟩ := offered
  obtain ⟨only, ports⟩ : OnlyCircuit c (s.yielding c) (s.yielded c) ∧ PortsKept (s.yielding c) (s.yielded c) := by
    rw [State.yielded, displaceCall_of_none none_]
    exact ⟨((OnlyCircuit.refl _ c).modCircuit _).trans (State.begun_only _ c).1,
      PortsKept.trans ⟨rfl, rfl⟩ (State.begun_only _ c).2⟩
  have groups : (s.yielded c).group g = s.group g := by
    rw [State.group, only.2.1, y.groups, State.group]
  refine ⟨fun id => ⟨?_, ?_⟩, by rw [own, groups], by rw [own, groups], fun d outSeizing => ?_⟩
  · rw [event.slot, ports.slot, CircuitEventBy.slot y.event]
  · rw [event.slotPend, ports.slotPend, CircuitEventBy.slotPend y.event]
  · by_cases same : d = c
    · exact absurd (same ▸ outSeizing) incoming
    · exact (y.seizures.trans (.of_circuits only.1)) d same (seizures d same outSeizing)

/-- The state in which the call of a linked slot goes on: the slot has taken its seizure back. -/
def State.retaken (s : State) (c : Fin 96) (id : SlotId) : State := forgetSeized id ((s.yielding c).uncalled c)

theorem State.retaken_spec (sound : PoolSound s) (seizing : (s.circuit c).state = .outSeizing) (id : SlotId) :
    PoolSound (s.retaken c id) ∧ (∀ x, (s.retaken c id).group x = s.group x) ∧
      (s.retaken c id).timeBase = s.timeBase ∧ (s.retaken c id).filters = s.filters ∧
      (s.retaken c id).slotPend id = (s.slotPend id).retaken ∧
      ((s.retaken c id).port id.port).report = (s.port id.port).report.map (·.retaken id.num) := by
  have y := State.yielding_spec sound seizing
  have emptied : PoolSound ((s.yielding c).uncalled c) := y.sound.modCircuit rfl rfl rfl rfl
  obtain ⟨-, groups, -, -, time, filters, -⟩ := forgetSeized_frame id ((s.yielding c).uncalled c)
  refine ⟨emptied.forgetSeized id, fun x => ?_, time.trans y.lines.2.1, filters.trans y.lines.2.2.1, ?_, ?_⟩
  · rw [State.group, State.retaken, groups, State.group, ← y.groups]
    rfl
  · have kept : PortsKept (s.yielding c) ((s.yielding c).uncalled c) := ⟨rfl, rfl⟩
    rw [State.retaken, forgetSeized_slotPend, kept.slotPend, CircuitEventBy.slotPend y.event]
  · rw [State.retaken, forgetSeized_port, if_pos rfl, State.uncalled, State.modCircuit_port]
    rw [(y.event.portState id.port).2.2.2.2.2.2.2]

/-- The state that offers the yielded circuit holds the displaced call where it has gone on. -/
theorem State.yielded_of_slot (sound : PoolSound s) (seizing : (s.circuit c).state = .outSeizing)
    (linked : (s.circuit c).slot = some id) (slot : s.slot id = .seizing call c) :
    s.yielded c =
      (if call.glareCount = 0 then
        rehunt id { call with glareCount := 1 } (s.circuit c).digits (s.circuit c).eon (s.retaken c id)
      else failGlare id call (s.retaken c id)).begun c := by
  have y := State.yielding_spec sound seizing
  have linked' : ((s.yielding c).circuit c).slot = some id := by rw [y.circuit]; exact linked
  have slot' : (s.yielding c).slot id = .seizing call c := (CircuitEventBy.slot y.event id).trans slot
  rw [State.yielded, displaceCall_of_slot linked' slot', y.circuit]
  rfl

/-- The call of a linked slot goes on: rehunted, queued first, or failed. -/
theorem yieldGlare_linked (sound : PoolSound s) (seizing : (s.circuit c).state = .outSeizing)
    (linked : (s.circuit c).slot = some id) (slot : s.slot id = .seizing call c) {owner : Option Port}
    (offered : Offered c g owner (s.yielded c) t) :
    ∃ e ∈ [Event.rehunted, .glareQueued, .glareFailed],
      (e = .rehunted ↔ call.glareCount = 0 ∧ (s.group call.group).idle ≠ []) ∧
      t.slotPend id = (s.slotPend id).retaken.add e ∧ Reported id.port (.slot id.num) e t ∧
      (t.port id.port).report = (s.port id.port).report.map (·.retaken id.num) ∧
      CallGoesOn id call (s.circuit c).digits (s.circuit c).eon s t e := by
  have eq := State.yielded_of_slot sound seizing linked slot
  obtain ⟨sound', groups, time, filters, pend, report⟩ := State.retaken_spec sound seizing id
  obtain ⟨e, kind, rehunted, goes, on⟩ :=
    displaced_goes_on sound' id call (s.circuit c).digits (s.circuit c).eon
  generalize (if call.glareCount = 0 then
      rehunt id { call with glareCount := 1 } (s.circuit c).digits (s.circuit c).eon (s.retaken c id)
    else failGlare id call (s.retaken c id)) = v at eq goes on
  obtain ⟨only, ports⟩ := v.begun_only c
  obtain ⟨own, others, event, -, -, kept⟩ := offered
  rw [eq] at own others event kept
  have slots : t.slot id = v.slot id := (event.slot id).trans (ports.slot id)
  have lead : ∀ d, s.leadOn d = (s.retaken c id).leadOn d := fun d => by
    rw [State.leadOn, State.leadOn, State.filter, State.filter, filters]
  have idle : (t.group call.group).idle = (v.group call.group).idle ∧
      (t.group call.group).queue = (v.group call.group).queue := by
    have same : (v.begun c).group call.group = v.group call.group := by rw [State.group, only.2.1]; rfl
    by_cases mine : call.group = g
    · rw [mine] at same ⊢
      rw [own, same]
      exact ⟨rfl, rfl⟩
    · rw [others call.group (by simpa using mine), same]
      exact ⟨rfl, rfl⟩
  simp only [CallGoesOn, groups, time] at on rehunted
  refine ⟨e, kind, rehunted, ?_, ?_, ?_, ?_⟩
  · rw [event.slotPend, ports.slotPend, goes.pend, pend]
  · exact event.reported (by rw [Reported, ports.port]; exact goes.reported) (by simp)
  · rw [(event.portState id.port).2.2.2.2.2.2.2, ports.port, goes.report, report]
  · obtain ⟨failed, again⟩ := on
    unfold CallGoesOn
    rw [slots, idle.1, idle.2]
    refine ⟨failed, fun first => ?_⟩
    obtain ⟨taken, waits, ends⟩ := again first
    refine ⟨fun d chosen => ?_, waits, ends⟩
    obtain ⟨rehunted, seizing', seizes, left⟩ := taken d chosen
    have other : d ≠ c := by
      rintro rfl
      have listed := (sound.staffed.idle _ d (huntChoice_mem chosen)).1
      simp [seizing] at listed
    have circuit : (v.begun c).circuit d = v.circuit d := only.1 d (by simpa using other)
    have unit : ∀ u, (v.begun c).unit u = v.unit u := fun u => by rw [State.unit, only.2.2.1.1, State.unit]
    obtain ⟨same, units, snd⟩ := kept d other fun u hu => by
      rw [circuit] at hu
      rw [unit]
      exact seizes.sender_waits u hu
    refine ⟨rehunted, seizing', seizes.beside (same.trans circuit) (fun u hu => ?_) (snd.trans only.2.2.1.2.2.1) time.symm
      (lead d), left⟩
    rw [units u (by rw [circuit]; exact hu), unit]

/-- A report read of another item keeps its events; one of the slot takes the seizure back. -/
theorem ReportRead.retaken_spec (read : ReportRead) (n : Fin 16) :
    read.retaken n = { read with events := (read.retaken n).events } ∧
      (read.item ≠ .slot n → (read.retaken n).events = read.events) ∧
      (read.item = .slot n →
        (read.retaken n).events.has .seized = false ∧ (read.retaken n).events.has .rehunted = false ∧
          (read.retaken n).events.discarded = read.events.discarded ∧
          ∀ e ∈ [Event.expired, .glareQueued, .glareFailed], (read.retaken n).events.has e = read.events.has e) := by
  unfold ReportRead.retaken
  split
  · next same =>
    exact ⟨rfl, fun other => absurd same other, fun _ => ⟨read.events.retaken_seized, read.events.retaken_rehunted, rfl,
      fun e he => read.events.retaken_other he⟩⟩
  · next other => exact ⟨rfl, fun _ => rfl, fun same => absurd same other⟩

/-- The displaced call in the words of its slot: its events, a report read of it, and the place that it takes. -/
theorem yieldGlare_call (sound : PoolSound s) (seizing : (s.circuit c).state = .outSeizing)
    (linked : (s.circuit c).slot = some id) (slot : s.slot id = .seizing call c) (mine : call.group = g)
    {owner : Option Port} (offered : Offered c g owner (s.yielded c) t) :
    (t.slotPend id).has .seized = false ∧
      ((t.slotPend id).has .rehunted = true ↔ call.glareCount = 0 ∧ (s.group g).idle ≠ []) ∧
      (∀ e ∈ [Event.expired, .glareQueued, .glareFailed],
        (s.slotPend id).has e = true → (t.slotPend id).has e = true) ∧
      (∀ read, (s.port id.port).report = some read →
        ∃ read' : ReportRead, (t.port id.port).report = some { read with events := read'.events } ∧
          (read.item ≠ .slot id.num → read'.events = read.events) ∧
          (read.item = .slot id.num →
            read'.events.has .seized = false ∧ read'.events.has .rehunted = false ∧
              read'.events.discarded = read.events.discarded ∧
              ∀ e ∈ [Event.expired, .glareQueued, .glareFailed], read'.events.has e = read.events.has e)) ∧
      (call.glareCount ≠ 0 → t.slot id = .outcome call .glareFailed ∧
        Reported id.port (.slot id.num) .glareFailed t) ∧
      (call.glareCount = 0 →
        let again : SlotCall := { call with glareCount := 1 }
        (∀ d, huntChoice (s.group g).huntMode (s.group g).idle = some d →
          t.slot id = .seizing again d ∧ Seizes (s.group g) d id (s.circuit c).digits (s.circuit c).eon s t ∧
            (t.group g).idle = (s.group g).idle.filter (fun x => x ≠ d) ∧
            Reported id.port (.slot id.num) .rehunted t) ∧
        ((s.group g).idle = [] → 0 < call.wait →
          t.slot id = .waiting again (s.circuit c).digits (s.circuit c).eon (timeAfter s.timeBase (1000 * call.wait)) ∧
            (t.group g).queue = id :: (s.group g).queue ∧ Reported id.port (.slot id.num) .glareQueued t) ∧
        ((s.group g).idle = [] → call.wait = 0 →
          t.slot id = .outcome again .glareFailed ∧ Reported id.port (.slot id.num) .glareFailed t)) := by
  subst mine
  obtain ⟨e, kind, rehunted, pend, reported, report, failed, again⟩ :=
    yieldGlare_linked sound seizing linked slot offered
  obtain ⟨noSeized, second, others⟩ := (s.slotPend id).retaken_add kind
  rw [pend]
  refine ⟨noSeized, second.trans rehunted, others, fun read held => ?_, fun twice => ?_, fun once => ?_⟩
  · obtain ⟨whole, other, same⟩ := read.retaken_spec id.num
    exact ⟨read.retaken id.num, by rw [report, held, ← whole]; rfl, other, same⟩
  · obtain ⟨rfl, ends⟩ := failed twice
    exact ⟨ends, reported⟩
  · obtain ⟨taken, waits, ends⟩ := again once
    refine ⟨fun d chosen => ?_, fun empty wait => ?_, fun empty wait => ?_⟩
    · obtain ⟨rfl, seized, seizes, idle⟩ := taken d chosen
      exact ⟨seized, seizes, idle, reported⟩
    · obtain ⟨rfl, waiting, queue⟩ := waits empty wait
      exact ⟨waiting, queue, reported⟩
    · obtain ⟨rfl, outcome⟩ := ends empty wait
      exact ⟨outcome, reported⟩

/-! ## The far end gives way (R92) -/

/-- The state in which the far end of a held glare has given way. -/
def State.farCleared (s : State) (c : Fin 96) (g : Fin 8) : State :=
  (stamped c s).modCircuit c fun k =>
    { k with
      presentOn := false, glarePhase := .farCleared
      timer := match (s.group g).startMode with
        | .ackStart => k.timer
        | .timedStart => some { start := s.timeBase, value := (s.group g).par .prePause } }

theorem supervisionOff_holding (group : (s.circuit c).group = some g) (seizing : (s.circuit c).state = .outSeizing)
    (holding : (s.circuit c).glarePhase = .holding) (width : Nat) (held : Held) :
    supervisionOff c width held (stamped c s) = s.farCleared c g := by
  have member : ∀ f : Circuit → Circuit, (∀ k, (f k).group = k.group) →
      (((stamped c s).modCircuit c f).circuit c).group = some g := fun f kept => by simp [kept, group]
  have mode : ∀ f : Circuit → Circuit, (∀ k, (f k).group = k.group) →
      ((stamped c s).modCircuit c f).startMode c = (s.group g).startMode := fun f kept =>
    State.startMode_of_group (member f kept)
  have par : ∀ f : Circuit → Circuit, (∀ k, (f k).group = k.group) →
      ((stamped c s).modCircuit c f).par c .prePause = (s.group g).par .prePause := fun f kept =>
    State.par_of_group (member f kept) _
  simp only [supervisionOff, stamped_circuit_self, seizing, seizingOff, holding, if_true, State.modCircuit_modCircuit]
  rw [mode _ (by exact fun _ => rfl), par _ (by exact fun _ => rfl)]
  cases start : (s.group g).startMode <;> simp [State.farCleared, State.startTimer, start, State.modCircuit_modCircuit]

/-! ## The glare (R88, R91) -/

theorem reachAckMax_of_glare (group : (s.circuit c).group = some g) (bothway : (s.group g).direction = .bothway)
    (phase : (s.circuit c).glarePhase = .none) :
    reachAckMax c s = if hasPriority (s.group g).glareRule (s.circuit c).trunkNo = true then holdGlare c s
      else yieldGlare c s := by
  rw [reachAckMax, if_neg (by simp [phase]), group]
  simp only [bothway]

theorem holdGlare_circuit (group : (s.circuit c).group = some g) :
    (holdGlare c s).circuit c =
      { s.circuit c with
        glarePhase := .holding, glareTime := some s.timeBase
        timer := some { start := s.timeBase, value := (s.group g).par .ackWait } } := by
  rw [holdGlare, State.raiseCircuit_circuit, State.modCircuit_circuit_self, State.par_of_group group]

end Yielding

section Settled

/-- Settles O18: with priority the circuit holds; without it the circuit yields, its displaced call goes on in its slot, and
it is offered anew; a far end that gives way clears the glare. -/
theorem glareHoldsOrYields : Obligations.GlareHoldsOrYields := by
  unfold Obligations.GlareHoldsOrYields
  intro c g s awake sound group seizing on k met
  have glare : met → reachAckMax c s = if hasPriority (s.group g).glareRule k.trunkNo = true then holdGlare c s
      else yieldGlare c s := fun ⟨bothway, phase, _⟩ => reachAckMax_of_glare group bothway phase
  have due : met → ackMaxDue c s = true := fun ⟨_, phase, long⟩ =>
    ackMaxDue_of seizing on (by rw [show (s.circuit c).glarePhase = .none from phase]; simp) long
  refine ⟨fun met priority => ?_, fun met priority => ?_, fun holding taken => ?_⟩
  · refine ⟨_, onCircuit_due awake (due met), ?_⟩
    rw [glare met, if_pos priority]
    exact ⟨holdGlare_circuit group, ((OnlyCircuit.refl s c).modCircuit _).raiseCircuit c _,
      .of_modCircuit _ rfl⟩
  · refine ⟨_, onCircuit_due awake (due met), ?_⟩
    rw [glare met, priority, if_neg (by simp), yieldGlare_eq]
    have y := State.yielded_spec sound group seizing
    obtain ⟨idle, queue, mine⟩ := y.groups g
    obtain ⟨offer, offered⟩ := offerCall_yielded y.sound (by rw [y.circuit]; exact group) (by rw [y.circuit]; rfl)
      (by rw [y.circuit]; rfl) (by rw [y.circuit]; rfl) (by rw [y.circuit, y.lines.2.1]; rfl)
    generalize offerCall c (s.yielded c) = t at offer offered ⊢
    have whom : (s.yielded c).offerOwner ((s.yielded c).group g).offerPort = s.offerOwner (s.group g).offerPort := by
      rw [y.owner, mine]
      rfl
    rw [whom] at offer offered
    have reports := y.reports.trans offered.event.reports
    have lines := y.lines.trans offered.lines
    have state : (t.circuit c).state ≠ .outSeizing := by
      rcases offer with record | ⟨_, _, _, _, _, record, _⟩ <;> rw [record] <;> simp
    have unlinked := fun free => yieldGlare_unlinked sound seizing free offered state
    have next : (t.group g).nextPort = if (s.group g).distribution = .alternate then otherPort (s.group g).nextPort
        else (s.group g).nextPort := by rw [offered.group, mine]
    have calls := fun id call at_ slot mine => yieldGlare_call (id := id) (call := call) sound seizing at_ slot mine offered
    obtain ⟨-, time, filters, watches, forces, -⟩ := y.lines.trans offered.lines
    simp only [YieldedOffer, y.circuit, y.lines.2.1, mine] at offer
    rcases offer with record | ⟨u, sup, pulse, ackEnd, timer, record, serves, waits, since, gap, timed⟩
    · rw [record]
      exact ⟨.inl rfl, rfl, rfl, rfl, rfl, rfl, rfl, rfl, rfl, rfl, ⟨rfl, rfl, rfl, rfl, rfl, rfl, rfl, rfl, rfl⟩, rfl,
        fun _ => ⟨rfl, fun h => absurd h (by simp)⟩, fun h => absurd h (by simp), fun _ => ⟨rfl, rfl, rfl, rfl⟩, next,
        reports, filters, time, watches, forces, unlinked, calls⟩
    · rw [record]
      exact ⟨.inr rfl, rfl, rfl, rfl, rfl, rfl, rfl, rfl, rfl, rfl, ⟨rfl, rfl, rfl, rfl, rfl, rfl, rfl, rfl, rfl⟩, rfl,
        fun wide => ⟨(gap wide).1, fun _ ack => (gap wide).2 ack⟩,
        fun _ => ⟨⟨u, rfl, rfl, serves, waits, since⟩, fun mode => timed mode⟩, fun h => absurd h (by simp), next,
        reports, filters, time, watches, forces, unlinked, calls⟩
  · have holding' : (s.circuit c).glarePhase = .holding := holding
    have quiet : supervisionDue c s = false :=
      (supervisionDue_of_seizing seizing).trans (by simp [ackMaxDue, holding'])
    have given := supervisionOff_holding group seizing holding (s.recFor c) (s.heldOf c)
    obtain ⟨t, runs, w⟩ := exec_taken_off awake taken sound quiet (by simp [seizing]) on
      (by rw [given]; exact no_register_after sound (by simp [seizing]) fun _ => rfl)
    rw [given] at w
    have only : OnlyCircuit c (stamped c s) (s.farCleared c g) := (OnlyCircuit.refl _ c).modCircuit _
    refine ⟨t, runs, ?_, Watched.circuitsKept ((stamped_circuitsKept c s).trans only.1) w, w.groups,
      (stamped_pool c s).trans (only.2.2.1.trans w.pool),
      (stamped_ports c s).portState.trans (PortStateKept.trans (PortsKept.portState ⟨rfl, rfl⟩) w.portState),
      (NoCircuitEvent.of_ports (stamped_ports c s)).quiet ((NoCircuitEvent.of_ports ⟨rfl, rfl⟩).quiet (w.quiet c))⟩
    rw [w.circuit, State.farCleared]
    cases mode : (s.group g).startMode <;> simp [mode, k]

end Settled

end Sys2Proof.Machine

/-! PROOFS. The words of R184 and R185: a field of a packed word, a time-base value in two words, and packed digits. -/

namespace Sys2Proof.Machine

section Packed

/-! ## Fields of a packed word (R185) -/

/-- Whether fields, from the highest down, lie one below the other under bit `n`. -/
def fieldsBelow : Nat → List (Nat × Nat × Nat) → Bool
  | _, [] => true
  | n, (_, hi, lo) :: rest => lo ≤ hi && hi < n && fieldsBelow lo rest

/-- The value that packed fields hold in bits `hi` to `lo`: a field's own, or 0 beside the fields; none where the bits cut a
field. -/
def fieldHeld (hi lo : Nat) : List (Nat × Nat × Nat) → Option Nat
  | [] => some 0
  | (v, h, l) :: rest =>
    if hi = h && lo = l then some v else if hi < l then fieldHeld hi lo rest else if h < lo then some 0 else none

/-- The packed value before it is cut to a word. -/
def packedSum (fields : List (Nat × Nat × Nat)) : Nat :=
  (fields.map fun f => f.1 % 2 ^ (f.2.1 - f.2.2 + 1) * 2 ^ f.2.2).sum

theorem packedSum_cons (v hi lo : Nat) (rest : List (Nat × Nat × Nat)) :
    packedSum ((v, hi, lo) :: rest) = v % 2 ^ (hi - lo + 1) * 2 ^ lo + packedSum rest := rfl

theorem packedSum_lt {n : Nat} {fields : List (Nat × Nat × Nat)} (below : fieldsBelow n fields = true) :
    packedSum fields < 2 ^ n := by
  induction fields generalizing n with
  | nil => exact Nat.two_pow_pos n
  | cons f rest ih =>
    obtain ⟨v, hi, lo⟩ := f
    simp only [fieldsBelow, Bool.and_eq_true, decide_eq_true_eq] at below
    obtain ⟨⟨ordered, top⟩, tail⟩ := below
    have value : v % 2 ^ (hi - lo + 1) + 1 ≤ 2 ^ (hi - lo + 1) := Nat.mod_lt _ (Nat.two_pow_pos _)
    calc packedSum ((v, hi, lo) :: rest) < v % 2 ^ (hi - lo + 1) * 2 ^ lo + 2 ^ lo := by
          rw [packedSum_cons]
          exact Nat.add_lt_add_left (ih tail) _
      _ = (v % 2 ^ (hi - lo + 1) + 1) * 2 ^ lo := by ring
      _ ≤ 2 ^ (hi - lo + 1) * 2 ^ lo := Nat.mul_le_mul_right _ value
      _ = 2 ^ (hi + 1) := by rw [← Nat.pow_add]; congr 1; omega
      _ ≤ 2 ^ n := Nat.pow_le_pow_right (by decide) top

theorem packedSum_field {n hi lo v : Nat} {fields : List (Nat × Nat × Nat)} (below : fieldsBelow n fields = true)
    (order : lo ≤ hi) (held : fieldHeld hi lo fields = some v) :
    packedSum fields / 2 ^ lo % 2 ^ (hi - lo + 1) = v % 2 ^ (hi - lo + 1) := by
  induction fields generalizing n with
  | nil => obtain rfl := Option.some.inj held; simp [packedSum]
  | cons f rest ih =>
    obtain ⟨x, h, l⟩ := f
    have whole := packedSum_lt (n := h + 1) (fields := (x, h, l) :: rest) (by
      simp only [fieldsBelow, Bool.and_eq_true, decide_eq_true_eq] at below ⊢
      exact ⟨⟨below.1.1, Nat.lt_succ_self h⟩, below.2⟩)
    simp only [fieldsBelow, Bool.and_eq_true, decide_eq_true_eq] at below
    obtain ⟨⟨ordered, top⟩, tail⟩ := below
    simp only [fieldHeld, Bool.and_eq_true, decide_eq_true_eq] at held
    split at held
    · next same =>
      obtain ⟨rfl, rfl⟩ := same
      obtain rfl := Option.some.inj held
      rw [packedSum_cons, Nat.mul_comm, Nat.mul_add_div (Nat.two_pow_pos _), Nat.div_eq_of_lt (packedSum_lt tail),
        Nat.add_zero, Nat.mod_mod]
    · split at held
      · next under =>
        rw [packedSum_cons, ← ih tail held, ← Nat.mod_mul_right_div_self, ← Nat.mod_mul_right_div_self, ← Nat.pow_add]
        have multiple : 2 ^ (lo + (hi - lo + 1)) ∣ x % 2 ^ (h - l + 1) * 2 ^ l :=
          Dvd.dvd.mul_left (Nat.pow_dvd_pow 2 (by omega)) _
        obtain ⟨m, hm⟩ := multiple
        rw [hm, Nat.mul_add_mod]
      · split at held
        · next above =>
          obtain rfl := Option.some.inj held
          rw [Nat.div_eq_of_lt (lt_of_lt_of_le whole (Nat.pow_le_pow_right (by decide) above)), Nat.zero_mod]
        · cases held

theorem pack_toNat {fields : List (Nat × Nat × Nat)} (below : fieldsBelow 16 fields = true) :
    (pack fields).toNat = packedSum fields := by
  rw [pack, BitVec.toNat_ofNat]
  exact Nat.mod_eq_of_lt (packedSum_lt below)

/-- A packed word reads back in each field what was packed there, cut to the field. -/
theorem field_pack {fields : List (Nat × Nat × Nat)} {hi lo v : Nat} (held : fieldHeld hi lo fields = some v)
    (below : fieldsBelow 16 fields = true) (order : lo ≤ hi) : field (pack fields) hi lo = v % 2 ^ (hi - lo + 1) := by
  rw [field, pack_toNat below]
  exact packedSum_field below order held

/-- A value that its field can hold reads back as it is. -/
theorem field_pack_of_lt {fields : List (Nat × Nat × Nat)} {hi lo v : Nat} (held : fieldHeld hi lo fields = some v)
    (below : fieldsBelow 16 fields = true) (order : lo ≤ hi) (fits : v < 2 ^ (hi - lo + 1)) :
    field (pack fields) hi lo = v := (field_pack held below order).trans (Nat.mod_eq_of_lt fits)

theorem bitSet_pack {fields : List (Nat × Nat × Nat)} {i : Nat} {b : Bool} (held : fieldHeld i i fields = some (flag b))
    (below : fieldsBelow 16 fields = true) : bitSet (pack fields) i = b := by
  rw [bitSet, field_pack held below le_rfl]
  cases b <;> simp [flag]

/-- A bit that holds a code of 0 or 1. -/
theorem bitSet_pack_code {fields : List (Nat × Nat × Nat)} {i v : Nat} {p : Prop} [Decidable p]
    (held : fieldHeld i i fields = some v) (below : fieldsBelow 16 fields = true) (code : v = if p then 1 else 0) :
    bitSet (pack fields) i = decide p := by
  rw [bitSet, field_pack held below le_rfl, code]
  by_cases h : p <;> simp [h]

theorem unassigned_pack {fields : List (Nat × Nat × Nat)} {bits : List Nat}
    (held : bits.all fun i => fieldHeld i i fields = some 0) (below : fieldsBelow 16 fields = true) :
    Unassigned (pack fields) bits := fun i hi =>
  bitSet_pack (b := false) (of_decide_eq_true (List.all_eq_true.mp held i hi)) below

/-- The word of one field from bit 0 on. -/
theorem pack_single_toNat {v hi : Nat} (top : hi < 16) (fits : v < 2 ^ (hi + 1)) : (pack [(v, hi, 0)]).toNat = v := by
  rw [pack_toNat (by simp [fieldsBelow, top]), packedSum_cons]
  simp [packedSum, Nat.mod_eq_of_lt fits]

end Packed

section Times

/-! ## Time-base values (R184) -/

theorem timeWordsOpt_eq (t : Option Time) : timeWordsOpt t = timeWords (t.getD 0) := by cases t <;> rfl

theorem timeWords_append (t : Time) : (BitVec.ofNat 16 (t.toNat / 65536) ++ BitVec.ofNat 16 t.toNat : Time) = t := by
  apply BitVec.eq_of_toNat_eq
  have small := t.isLt
  rw [BitVec.toNat_append, BitVec.toNat_ofNat, BitVec.toNat_ofNat, Nat.mod_eq_of_lt (a := t.toNat / 65536) (by omega),
    ← Nat.shiftLeft_add_eq_or_of_lt (Nat.mod_lt _ (by decide)), Nat.shiftLeft_eq]
  omega

/-- A time-base value stands in a block where its two words do. -/
theorem timeAt_of_words {b : List Word} {i : Nat} {t : Time} (high : wordAt b i = BitVec.ofNat 16 (t.toNat / 65536))
    (low : wordAt b (i + 1) = BitVec.ofNat 16 t.toNat) : timeAt b i = t := by
  rw [timeAt, high, low, timeWords_append]

end Times

section Digits

/-! ## Digits (R184) -/

theorem digitAt_lt (ds : List (Fin 10)) (i : Nat) : digitAt ds i < 16 := by
  unfold digitAt
  split
  · next d _ => have := d.isLt; omega
  · decide

theorem wordAt_packDigits (ds : List (Fin 10)) {i : Nat} (h : i < digitWords ds.length) :
    wordAt (packDigits ds) i = pack [(digitAt ds (4 * i), 15, 12), (digitAt ds (4 * i + 1), 11, 8),
      (digitAt ds (4 * i + 2), 7, 4), (digitAt ds (4 * i + 3), 3, 0)] := by
  simp [wordAt, packDigits, h]

/-- A digit position of a packed string holds the digit, or 0 beyond the string's end. -/
theorem nibbleAt_packDigits (ds : List (Fin 10)) {j : Nat} (h : j < 4 * digitWords ds.length) :
    nibbleAt (packDigits ds) j = digitAt ds j := by
  obtain ⟨q, r, bound, rfl⟩ : ∃ q r, r < 4 ∧ j = 4 * q + r := ⟨j / 4, j % 4, Nat.mod_lt _ (by decide), by omega⟩
  have digit := digitAt_lt ds (4 * q + r)
  rw [nibbleAt, show (4 * q + r) / 4 = q by omega, show (4 * q + r) % 4 = r by omega, wordAt_packDigits ds (by omega)]
  interval_cases r
  all_goals exact field_pack_of_lt rfl rfl (by decide) digit

theorem digitsFrom_packDigits {b : List Word} {i : Nat} {ds : List (Fin 10)} (tail : b.drop i = packDigits ds)
    (long : i ≤ b.length) : DigitsFrom b i ds := by
  have length : b.length - i = (ds.length + 3) / 4 := by
    rw [← List.length_drop, tail]
    simp [packDigits, digitWords]
  refine ⟨by omega, fun j d hd => ?_, fun j beyond inside => ?_⟩
  · have inside : j < ds.length := (List.getElem?_eq_some_iff.mp hd).1
    rw [tail, nibbleAt_packDigits ds (by unfold digitWords; omega)]
    simp [digitAt, hd]
  · rw [tail, nibbleAt_packDigits ds inside]
    simp [digitAt, List.getElem?_eq_none beyond]

end Digits

end Sys2Proof.Machine

/-! PROOFS. The READ orders (R146, R147): the codes of R185, the words of a snapshot, and the orders that answer it. -/

namespace Sys2Proof.Machine

section Codes

/-! ## Codes (R184, R185) -/

/-- A coded value reads back from its field. -/
theorem Coded.of_pack {α : Type} {table : List α} {v : α} {fields : List (Nat × Nat × Nat)} {hi lo code : Nat}
    (coded : Coded table v (code % 2 ^ (hi - lo + 1))) (held : fieldHeld hi lo fields = some code)
    (below : fieldsBelow 16 fields = true) (order : lo ≤ hi) : Coded table v (field (pack fields) hi lo) := by
  rw [field_pack held below order]
  exact coded

theorem CircuitState.coded (v : CircuitState) : Coded stateTable v (v.code % 32) := by cases v <;> rfl

theorem Cause.coded (v : Cause) : Coded causeTable v (v.code % 16) := by cases v <;> rfl

theorem GlarePhase.coded (v : GlarePhase) : Coded [GlarePhase.none, .holding, .farCleared, .yielded] v (v.code % 4) := by
  cases v <;> rfl

theorem ownerCode_coded (v : Option Port) : Coded [none, some Port.A, some .B] v (ownerCode v % 4) := by
  rcases v with _ | (_ | _) <;> rfl

theorem CallDir.coded (v : CallDir) : Coded [CallDir.none, .outgoing, .incoming] v (v.code % 4) := by cases v <;> rfl

theorem callStartCode_coded (v : Option StartMode) :
    Coded [none, some StartMode.ackStart, some .timedStart] v (callStartCode v % 4) := by
  rcases v with _ | (_ | _) <;> rfl

theorem requestCode_coded (v : Option UnitReq) :
    Coded [none, some UnitClass.register, some .sender] (v.map (·.cls)) (requestCode v % 4) := by
  rcases v with _ | ⟨_ | _⟩ <;> rfl

theorem Direction.coded (v : Direction) : Coded [Direction.none, .outgoing, .incoming, .bothway] v (v.code % 4) := by
  cases v <;> rfl

theorem StartMode.coded (v : StartMode) : Coded [StartMode.ackStart, .timedStart] v (v.code % 2) := by cases v <;> rfl

theorem HuntMode.coded (v : HuntMode) : Coded [HuntMode.lowFirst, .highFirst, .longestIdle] v (v.code % 4) := by
  cases v <;> rfl

theorem GlareRule.coded (v : GlareRule) :
    Coded [GlareRule.priorityAll, .priorityNone, .priorityEven, .priorityOdd] v (v.code % 4) := by cases v <;> rfl

theorem Distribution.coded (v : Distribution) : Coded [Distribution.fixedA, .fixedB, .alternate] v (v.code % 4) := by
  cases v <;> rfl

theorem UnitState.coded (v : UnitState) :
    (v, v.codes.1 % 8, v.codes.2 % 8) ∈
      [(.free, 0, 0), (.outOfService, 1, 0), (.sender .waitStart, 2, 0), (.sender .inBreak, 2, 1), (.sender .inMake, 2, 2),
       (.sender .pause, 2, 3), (.sender .parked, 2, 4), (.register .waitDigit, 3, 0), (.register .inBreak, 3, 1),
       (.register .inMake, 3, 2)] := by
  rcases v with _ | _ | ⟨_ | _⟩ | ⟨_ | _⟩ <;> decide

theorem portBit_eq (p : Port) : portBit p = if p = .B then 1 else 0 := by cases p <;> rfl

theorem optPortBit_eq (id : Option SlotId) :
    optVal (fun id => portBit id.port) id = if id.map SlotId.port = some .B then 1 else 0 := by
  rcases id with _ | ⟨_ | _, _⟩ <;> rfl

theorem condBit_eq (v : Cond) : condBit v = if v = .on then 1 else 0 := by cases v <;> rfl

theorem optVal_val {n : Nat} [NeZero n] (v : Option (Fin n)) : optVal (·.val) v = (v.getD 0).val := by cases v <;> rfl

theorem optVal_num (id : Option SlotId) : optVal (fun id => id.num.val) id = ((id.map SlotId.num).getD 0).val := by
  cases id <;> rfl

end Codes

section Circuits

variable {c : Fin 96} {s : State}

/-! ## The source of a send lead (R7, R146) -/

theorem forcedBy_iff {f : Fin 8} : ForcedBy f c s ↔ (s.circuit c).state = .blocked ∧ s.forcing c = some f := by
  rw [ForcedBy, State.forcing_eq_some, and_assoc]

theorem senderDrive_isSome : (s.senderDrive c).isSome = true ↔ Pulsing c s := by
  constructor
  · intro drives
    obtain ⟨cond, hc⟩ := Option.isSome_iff_exists.mp drives
    obtain ⟨u, sub, unit, state, sends⟩ := State.senderDrive_eq_some.mp hc
    exact ⟨u, sub, unit, state, by cases sub <;> simp_all [SenderSub.drives]⟩
  · rintro ⟨u, sub, unit, state, pulses⟩
    cases sub <;> simp_all [State.senderDrive, SenderSub.drives]

/-- The source's codes, told by R7. -/
theorem leadSource_codes :
    (∀ f, ForcedBy f c s → (s.leadSource c).codes = (2, f.val)) ∧
      ((∀ f, ¬ ForcedBy f c s) → (Pulsing c s → (s.leadSource c).codes = (1, 0)) ∧
        (¬ Pulsing c s → (s.leadSource c).codes = (0, 0))) := by
  refine ⟨fun f forced => ?_, fun unforced => ?_⟩
  · obtain ⟨blocked, forcing⟩ := forcedBy_iff.mp forced
    simp [State.leadSource, blocked, forcing, Source.codes]
  · have none_ : (if (s.circuit c).state = .blocked then s.forcing c else none) = none := by
      split
      · next blocked => exact Option.eq_none_iff_forall_ne_some.mpr fun f hf => unforced f (forcedBy_iff.mpr ⟨blocked, hf⟩)
      · rfl
    rw [State.leadSource, none_, ← senderDrive_isSome]
    cases s.senderDrive c <;> simp [Source.codes]

/-- The source word of a circuit reads back the source. -/
theorem sourceWord_of_fields {w : Word} (source : field w 5 4 = (s.leadSource c).codes.1 % 4)
    (channel : field w 2 0 = (s.leadSource c).codes.2 % 8) : SourceWord c s w := by
  obtain ⟨forced, unforced⟩ := leadSource_codes (c := c) (s := s)
  refine ⟨fun f hf => ?_, fun none_ => ?_⟩
  · rw [source, channel, forced f hf]
    exact ⟨rfl, Nat.mod_eq_of_lt f.isLt⟩
  · obtain ⟨pulsing, quiet⟩ := unforced none_
    by_cases sends : Pulsing c s
    · rw [source, channel, pulsing sends]
      exact ⟨rfl, fun _ => rfl, fun h => absurd sends h⟩
    · rw [source, channel, quiet sends]
      exact ⟨rfl, fun h => absurd h sends, fun _ => rfl⟩

/-! ## Result blocks (R185) -/

theorem readOk_resultBlock {following : List Word} (short : following.length < 64) : ReadOk (resultBlock .ok following) := by
  have first : wordAt (resultBlock .ok following) 0 = pack [(1, 15, 8), (following.length, 5, 0)] := rfl
  rw [ReadOk, first, pack_toNat rfl]
  simp [packedSum, resultBlock, Nat.mod_eq_of_lt short]

/-! ## The words of READ CIRCUIT (R146, R185) -/

/-- State, group and number. -/
def Circuit.placeWord (k : Circuit) (c : Fin 96) : Word :=
  pack [(k.state.code, 15, 11), (match k.group with | some g => g.val | none => 15, 10, 7), (c.val, 6, 0)]

/-- Owner, flags and trunk number. -/
def Circuit.ownerWord (k : Circuit) : Word :=
  pack [(ownerCode k.owner, 15, 14), (flag k.blockPending, 13, 13), (flag k.eon, 12, 12), (flag k.answered, 11, 11),
        (k.trunkNo, 9, 0)]

/-- The call's direction and start mode, and its digit counts. -/
def Circuit.callWord (k : Circuit) : Word :=
  pack [(k.callDir.code, 15, 14), (callStartCode k.callStart, 13, 12), (k.digits.length, 11, 7), (k.sent, 4, 0)]

/-- Unit, request and slot. -/
def Circuit.linksWord (k : Circuit) : Word :=
  pack [(flag k.unit.isSome, 15, 15), (optVal (·.val) k.unit, 11, 8), (requestCode k.unitReq, 7, 6),
        (flag k.slot.isSome, 5, 5), (optVal (portBit ·.port) k.slot, 4, 4), (optVal (·.num.val) k.slot, 3, 0)]

/-- Cause, glare, ports, leads and the source of the send lead. -/
def State.leadsWord (s : State) (c : Fin 96) : Word :=
  pack [((s.circuit c).cause.code, 15, 12), ((s.circuit c).glarePhase.code, 11, 10), (flag s.portA.enabled, 9, 9),
        (flag s.portB.enabled, 8, 8), (condBit (s.filter c).recCond, 7, 7), (condBit (s.sendLead c), 6, 6),
        ((s.leadSource c).codes.1, 5, 4), ((s.leadSource c).codes.2, 2, 0)]

/-- Which of the instants are present. -/
def Circuit.presenceWord (k : Circuit) : Word :=
  pack [(flag k.timer.isSome, 15, 15), (flag k.ackEnd.isSome, 14, 14), (flag k.ansDue.isSome, 13, 13),
        (flag k.glareTime.isSome, 12, 12), (flag k.relTime.isSome, 11, 11)]

theorem circuitSnapshot_eq (c : Fin 96) (s : State) :
    circuitSnapshot c s =
      let k := s.circuit c
      timeWords s.timeBase ++
        [k.placeWord c, k.ownerWord, k.callWord, k.linksWord, s.leadsWord c, k.presenceWord] ++
        timeWords ((k.unitReq.map (·.time)).getD 0) ++ timeWords k.ansTime ++ timeWords k.lastBrkEnd ++
        timeWords ((k.timer.map (·.start)).getD 0) ++ timeWords (BitVec.ofNat 32 ((k.timer.map (·.value)).getD 0)) ++
        timeWords k.seizeTime ++ timeWords (k.ackEnd.getD 0) ++ timeWords (k.ansDue.getD 0) ++
        timeWords (k.glareTime.getD 0) ++ timeWords (k.relTime.getD 0) ++ timeWords (s.filter c).recTime ++
        packDigits k.digits := by
  have value : (s.circuit c).timer.map (fun t => BitVec.ofNat 32 t.value) =
      ((s.circuit c).timer.map (·.value)).map (BitVec.ofNat 32) := by rw [Option.map_map]; rfl
  have absent : ∀ v : Option Nat, (v.map (BitVec.ofNat 32)).getD 0 = BitVec.ofNat 32 (v.getD 0) := fun v => by
    cases v <;> rfl
  simp only [circuitSnapshot, timeWordsOpt_eq, value, absent]
  rfl

theorem Circuit.placeWord_reads (k : Circuit) (c : Fin 96) :
    Coded stateTable k.state (field (k.placeWord c) 15 11) ∧ field (k.placeWord c) 6 0 = c.val ∧
      (k.group = none → field (k.placeWord c) 10 7 = 15) ∧ ∀ g, k.group = some g → field (k.placeWord c) 10 7 = g.val := by
  unfold Circuit.placeWord
  refine ⟨.of_pack (CircuitState.coded _) rfl rfl (by decide), field_pack_of_lt rfl rfl (by decide) (by omega),
    fun none_ => ?_, fun g group => ?_⟩
  · rw [none_]
    exact field_pack_of_lt (v := 15) rfl rfl (by decide) (by decide)
  · rw [group]
    exact field_pack_of_lt (v := g.val) rfl rfl (by decide) (by omega)

theorem Circuit.ownerWord_reads {k : Circuit} (trunk : k.trunkNo ≤ 999) :
    Coded [none, some Port.A, some .B] k.owner (field k.ownerWord 15 14) ∧ bitSet k.ownerWord 13 = k.blockPending ∧
      bitSet k.ownerWord 12 = k.eon ∧ bitSet k.ownerWord 11 = k.answered ∧ Unassigned k.ownerWord [10] ∧
      field k.ownerWord 9 0 = k.trunkNo :=
  ⟨.of_pack (ownerCode_coded _) rfl rfl (by decide), bitSet_pack rfl rfl, bitSet_pack rfl rfl, bitSet_pack rfl rfl,
    unassigned_pack rfl rfl, field_pack_of_lt rfl rfl (by decide) (by omega)⟩

theorem Circuit.callWord_reads {k : Circuit} (few : k.digits.length ≤ 24) (sent : k.sent ≤ k.digits.length) :
    Coded [CallDir.none, .outgoing, .incoming] k.callDir (field k.callWord 15 14) ∧
      Coded [none, some StartMode.ackStart, some .timedStart] k.callStart (field k.callWord 13 12) ∧
      field k.callWord 11 7 = k.digits.length ∧ Unassigned k.callWord [6, 5] ∧ field k.callWord 4 0 = k.sent :=
  ⟨.of_pack (CallDir.coded _) rfl rfl (by decide), .of_pack (callStartCode_coded _) rfl rfl (by decide),
    field_pack_of_lt rfl rfl (by decide) (by omega), unassigned_pack rfl rfl,
    field_pack_of_lt rfl rfl (by decide) (by omega)⟩

theorem Circuit.linksWord_reads (k : Circuit) :
    bitSet k.linksWord 15 = k.unit.isSome ∧ Unassigned k.linksWord [14, 13, 12] ∧
      field k.linksWord 11 8 = (k.unit.getD 0).val ∧
      Coded [none, some UnitClass.register, some .sender] (k.unitReq.map (·.cls)) (field k.linksWord 7 6) ∧
      bitSet k.linksWord 5 = k.slot.isSome ∧ bitSet k.linksWord 4 = decide (k.slot.map SlotId.port = some .B) ∧
      field k.linksWord 3 0 = ((k.slot.map SlotId.num).getD 0).val := by
  unfold Circuit.linksWord
  rw [optVal_val, optVal_num]
  exact ⟨bitSet_pack rfl rfl, unassigned_pack rfl rfl, field_pack_of_lt rfl rfl (by decide) (Fin.isLt _),
    .of_pack (requestCode_coded _) rfl rfl (by decide), bitSet_pack rfl rfl, bitSet_pack_code rfl rfl (optPortBit_eq _),
    field_pack_of_lt rfl rfl (by decide) (Fin.isLt _)⟩

theorem State.leadsWord_reads (s : State) (c : Fin 96) :
    Coded causeTable (s.circuit c).cause (field (s.leadsWord c) 15 12) ∧
      Coded [GlarePhase.none, .holding, .farCleared, .yielded] (s.circuit c).glarePhase (field (s.leadsWord c) 11 10) ∧
      bitSet (s.leadsWord c) 9 = s.portA.enabled ∧ bitSet (s.leadsWord c) 8 = s.portB.enabled ∧
      bitSet (s.leadsWord c) 7 = decide ((s.filter c).recCond = .on) ∧
      bitSet (s.leadsWord c) 6 = decide (s.sendLead c = .on) ∧ SourceWord c s (s.leadsWord c) ∧
      Unassigned (s.leadsWord c) [3] :=
  ⟨.of_pack (Cause.coded _) rfl rfl (by decide), .of_pack (GlarePhase.coded _) rfl rfl (by decide), bitSet_pack rfl rfl,
    bitSet_pack rfl rfl, bitSet_pack_code rfl rfl (condBit_eq _), bitSet_pack_code rfl rfl (condBit_eq _),
    sourceWord_of_fields (field_pack rfl rfl (by decide)) (field_pack rfl rfl (by decide)), unassigned_pack rfl rfl⟩

theorem Circuit.presenceWord_reads (k : Circuit) :
    bitSet k.presenceWord 15 = k.timer.isSome ∧ bitSet k.presenceWord 14 = k.ackEnd.isSome ∧
      bitSet k.presenceWord 13 = k.ansDue.isSome ∧ bitSet k.presenceWord 12 = k.glareTime.isSome ∧
      bitSet k.presenceWord 11 = k.relTime.isSome ∧ field k.presenceWord 10 0 = 0 :=
  ⟨bitSet_pack rfl rfl, bitSet_pack rfl rfl, bitSet_pack rfl rfl, bitSet_pack rfl rfl, bitSet_pack rfl rfl,
    (field_pack rfl rfl (by decide)).trans rfl⟩

/-- The READ CIRCUIT block holds its circuit. -/
theorem circuitWords_snapshot (few : (s.circuit c).digits.length ≤ 24) (trunk : (s.circuit c).trunkNo ≤ 999)
    (sent : (s.circuit c).sent ≤ (s.circuit c).digits.length) :
    CircuitWords c s (resultBlock .ok (circuitSnapshot c s)) := by
  have length : (packDigits (s.circuit c).digits).length = ((s.circuit c).digits.length + 3) / 4 := by
    simp [packDigits, digitWords]
  have place := (s.circuit c).placeWord_reads c
  have owner := Circuit.ownerWord_reads trunk
  have call := Circuit.callWord_reads few sent
  have links := (s.circuit c).linksWord_reads
  have leads := s.leadsWord_reads c
  have presence := (s.circuit c).presenceWord_reads
  simp only [circuitSnapshot_eq, timeWords, List.cons_append, List.nil_append]
  generalize (s.circuit c).placeWord c = w3 at place ⊢
  generalize (s.circuit c).ownerWord = w4 at owner ⊢
  generalize (s.circuit c).callWord = w5 at call ⊢
  generalize (s.circuit c).linksWord = w6 at links ⊢
  generalize s.leadsWord c = w7 at leads ⊢
  generalize (s.circuit c).presenceWord = w8 at presence ⊢
  exact ⟨readOk_resultBlock (by simp [length]; omega), timeAt_of_words rfl rfl, place, owner, call, links, leads,
    presence, timeAt_of_words rfl rfl, timeAt_of_words rfl rfl, timeAt_of_words rfl rfl, timeAt_of_words rfl rfl,
    timeAt_of_words rfl rfl, timeAt_of_words rfl rfl, timeAt_of_words rfl rfl, timeAt_of_words rfl rfl,
    timeAt_of_words rfl rfl, timeAt_of_words rfl rfl, timeAt_of_words rfl rfl,
    digitsFrom_packDigits rfl (by simp [resultBlock])⟩

end Circuits

section Groups

variable {g : Fin 8} {s : State}

/-! ## The words of READ GROUP (R147, R185) -/

/-- The configuration. -/
def Group.configWord (k : Group) (g : Fin 8) : Word :=
  pack [(k.direction.code, 15, 14), (k.startMode.code, 13, 13), (k.huntMode.code, 12, 11), (k.glareRule.code, 10, 9),
        (k.distribution.code, 8, 7), (portBit k.nextPort, 6, 6), (g.val, 3, 0)]

/-- The members and the idle list. -/
def State.listsWord (s : State) (g : Fin 8) : Word :=
  pack [((s.members g).length, 14, 8), ((s.group g).idle.length, 6, 0)]

/-- The lock with its runs, and the count since the last apply. -/
def Reference.lockWord (r : Reference) : Word :=
  pack [(flag r.locked, 15, 15), (r.inRun, 14, 12), (r.outRun, 11, 10), (r.sinceApply, 6, 0)]

theorem Group.configWord_reads (k : Group) (g : Fin 8) :
    Coded [Direction.none, .outgoing, .incoming, .bothway] k.direction (field (k.configWord g) 15 14) ∧
      Coded [StartMode.ackStart, .timedStart] k.startMode (field (k.configWord g) 13 13) ∧
      Coded [HuntMode.lowFirst, .highFirst, .longestIdle] k.huntMode (field (k.configWord g) 12 11) ∧
      Coded [GlareRule.priorityAll, .priorityNone, .priorityEven, .priorityOdd] k.glareRule
        (field (k.configWord g) 10 9) ∧
      Coded [Distribution.fixedA, .fixedB, .alternate] k.distribution (field (k.configWord g) 8 7) ∧
      bitSet (k.configWord g) 6 = decide (k.nextPort = .B) ∧ Unassigned (k.configWord g) [5, 4] ∧
      field (k.configWord g) 3 0 = g.val :=
  ⟨.of_pack (Direction.coded _) rfl rfl (by decide), .of_pack (StartMode.coded _) rfl rfl (by decide),
    .of_pack (HuntMode.coded _) rfl rfl (by decide), .of_pack (GlareRule.coded _) rfl rfl (by decide),
    .of_pack (Distribution.coded _) rfl rfl (by decide), bitSet_pack_code rfl rfl (portBit_eq _), unassigned_pack rfl rfl,
    field_pack_of_lt rfl rfl (by decide) (by omega)⟩

theorem members_length (s : State) (g : Fin 8) : (s.members g).length ≤ 96 :=
  (List.length_filter_le _ _).trans (by simp [allCircuits])

theorem State.listsWord_reads (idle : (s.group g).idle.Nodup) :
    Unassigned (s.listsWord g) [15, 7] ∧ field (s.listsWord g) 14 8 = (s.members g).length ∧
      field (s.listsWord g) 6 0 = (s.group g).idle.length := by
  have members := members_length s g
  have listed : (s.group g).idle.length ≤ 96 := idle.length_le_card
  exact ⟨unassigned_pack rfl rfl, field_pack_of_lt rfl rfl (by decide) (by omega),
    field_pack_of_lt rfl rfl (by decide) (by omega)⟩

theorem Reference.lockWord_reads {r : Reference} (sound : r.Sound) :
    bitSet r.lockWord 15 = r.locked ∧ field r.lockWord 14 12 = r.inRun ∧ field r.lockWord 11 10 = r.outRun ∧
      Unassigned r.lockWord [9, 8, 7] ∧ field r.lockWord 6 0 = r.sinceApply := by
  obtain ⟨-, -, since, -, -, -, -, runs⟩ := sound
  have bounds : r.inRun ≤ 4 ∧ r.outRun ≤ 2 := by split at runs <;> omega
  exact ⟨bitSet_pack rfl rfl, field_pack_of_lt rfl rfl (by decide) (by omega),
    field_pack_of_lt rfl rfl (by decide) (by omega), unassigned_pack rfl rfl,
    field_pack_of_lt rfl rfl (by decide) (by omega)⟩

theorem SlotId.nodup_length {l : List SlotId} (once : l.Nodup) : l.length ≤ 32 := by
  have pairs : (l.map fun id => (decide (id.port = .A), id.num)).Nodup := once.map fun a b same => by
    obtain ⟨_ | _, _⟩ := a <;> obtain ⟨_ | _, _⟩ := b <;> simp_all
  simpa using pairs.length_le_card

/-- A parameter fits a word (R16). -/
theorem Param.admits_lt {p : Param} {v : Nat} (h : p.admits v) : v < 2 ^ 16 :=
  lt_of_le_of_lt h.2.1 (by cases p <;> decide)

theorem wordAt_params (p : Param) (head : List Word) (tail : Param → Word) :
    wordAt (head ++ Param.all.map tail) (head.length + p.index.val) = tail p := by
  rw [wordAt, List.getD_append_right _ _ _ _ (Nat.le_add_right _ _), Nat.add_sub_cancel_left]
  cases p <;> rfl

/-- The READ GROUP block holds its group. -/
theorem groupWords_snapshot (idle : (s.group g).idle.Nodup) (queue : (s.group g).queue.Nodup)
    (params : ∀ p : Param, p.admits ((s.group g).par p)) (reference : (s.group g).reference.Sound) :
    GroupWords g s (resultBlock .ok (groupSnapshot g s)) := by
  have config := (s.group g).configWord_reads g
  have lists := State.listsWord_reads idle
  have lock := Reference.lockWord_reads reference
  have eq : resultBlock .ok (groupSnapshot g s) =
      [pack [(Result.ok.code, 15, 8), ((groupSnapshot g s).length, 5, 0)],
        BitVec.ofNat 16 (s.timeBase.toNat / 65536), BitVec.ofNat 16 s.timeBase.toNat, (s.group g).configWord g,
        s.listsWord g, pack [((s.group g).queue.length, 5, 0)], (s.group g).reference.lockWord,
        BitVec.ofNat 16 (s.group g).reference.ref, BitVec.ofNat 16 (s.group g).reference.tBm,
        BitVec.ofNat 16 (s.group g).reference.tId] ++ Param.all.map fun p => BitVec.ofNat 16 ((s.group g).par p) := rfl
  have length : (groupSnapshot g s).length = 42 := rfl
  have ok := readOk_resultBlock (following := groupSnapshot g s) (by rw [length]; decide)
  have waiting := SlotId.nodup_length queue
  obtain ⟨-, high, -, -, tBm, -, tId, -⟩ := reference
  rw [eq] at ok ⊢
  generalize (s.group g).configWord g = w3 at config ⊢
  generalize s.listsWord g = w4 at lists ⊢
  generalize (s.group g).reference.lockWord = w6 at lock ⊢
  refine ⟨ok, rfl, timeAt_of_words rfl rfl, config, lists, pack_single_toNat (by decide) (by omega), lock,
    (BitVec.toNat_ofNat ..).trans (Nat.mod_eq_of_lt (by omega)), (BitVec.toNat_ofNat ..).trans (Nat.mod_eq_of_lt (by omega)),
    (BitVec.toNat_ofNat ..).trans (Nat.mod_eq_of_lt (by omega)), fun p => ?_⟩
  refine (congrArg BitVec.toNat (wordAt_params p _ _)).trans ?_
  rw [BitVec.toNat_ofNat, Nat.mod_eq_of_lt (Param.admits_lt (params p))]

end Groups

section Units

variable {u : Fin 16} {s : State}

/-! ## The words of READ UNIT (R147, R185) -/

/-- State, marks and circuit. -/
def DigitUnit.stateWord (k : DigitUnit) : Word :=
  pack [(k.state.codes.1, 15, 13), (k.state.codes.2, 12, 10), (flag k.pendingOos, 9, 9), (flag k.longBrk, 8, 8),
        (flag k.circuit.isSome, 7, 7), (optVal (·.val) k.circuit, 6, 0)]

/-- Number and count. -/
def DigitUnit.countWord (k : DigitUnit) (u : Fin 16) : Word := pack [(u.val, 11, 8), (k.count, 3, 0)]

/-- Which of the instants are present. -/
def DigitUnit.presenceWord (k : DigitUnit) : Word :=
  pack [(flag k.brkStart.isSome, 15, 15), (flag k.prevBrkStart.isSome, 14, 14), (flag k.subEnd.isSome, 13, 13),
        (flag k.parkTime.isSome, 12, 12)]

/-- The lengths of the two classes of the unit request queue. -/
def State.queuesWord (s : State) : Word := pack [(s.regQueue.length, 14, 8), (s.sndQueue.length, 6, 0)]

theorem DigitUnit.stateWord_reads (k : DigitUnit) :
    (k.state, field k.stateWord 15 13, field k.stateWord 12 10) ∈
        [(.free, 0, 0), (.outOfService, 1, 0), (.sender .waitStart, 2, 0), (.sender .inBreak, 2, 1), (.sender .inMake, 2, 2),
         (.sender .pause, 2, 3), (.sender .parked, 2, 4), (.register .waitDigit, 3, 0), (.register .inBreak, 3, 1),
         (.register .inMake, 3, 2)] ∧
      bitSet k.stateWord 9 = k.pendingOos ∧ bitSet k.stateWord 8 = k.longBrk ∧ bitSet k.stateWord 7 = k.circuit.isSome ∧
      field k.stateWord 6 0 = (k.circuit.getD 0).val := by
  unfold DigitUnit.stateWord
  rw [optVal_val]
  refine ⟨?_, bitSet_pack rfl rfl, bitSet_pack rfl rfl, bitSet_pack rfl rfl,
    field_pack_of_lt rfl rfl (by decide) (by have := (k.circuit.getD 0).isLt; omega)⟩
  rw [field_pack (v := k.state.codes.1) rfl rfl (by decide), field_pack (v := k.state.codes.2) rfl rfl (by decide)]
  exact k.state.coded

theorem DigitUnit.countWord_reads {k : DigitUnit} (count : k.count ≤ 11) (u : Fin 16) :
    field (k.countWord u) 15 12 = 0 ∧ field (k.countWord u) 11 8 = u.val ∧ field (k.countWord u) 7 4 = 0 ∧
      field (k.countWord u) 3 0 = k.count :=
  ⟨field_pack_of_lt rfl rfl (by decide) (by decide), field_pack_of_lt rfl rfl (by decide) (by omega),
    field_pack_of_lt rfl rfl (by decide) (by decide), field_pack_of_lt rfl rfl (by decide) (by omega)⟩

theorem DigitUnit.presenceWord_reads (k : DigitUnit) :
    bitSet k.presenceWord 15 = k.brkStart.isSome ∧ bitSet k.presenceWord 14 = k.prevBrkStart.isSome ∧
      bitSet k.presenceWord 13 = k.subEnd.isSome ∧ bitSet k.presenceWord 12 = k.parkTime.isSome ∧
      field k.presenceWord 11 0 = 0 :=
  ⟨bitSet_pack rfl rfl, bitSet_pack rfl rfl, bitSet_pack rfl rfl, bitSet_pack rfl rfl,
    field_pack_of_lt rfl rfl (by decide) (by decide)⟩

theorem State.queuesWord_reads (sound : PoolSound s) :
    Unassigned s.queuesWord [15, 7] ∧ field s.queuesWord 14 8 = s.regQueue.length ∧
      field s.queuesWord 6 0 = s.sndQueue.length := by
  have queued : ((s.regQueue ++ s.sndQueue).map (·.circuit)).length ≤ 96 := sound.queuedOnce.length_le_card
  rw [List.length_map, List.length_append] at queued
  exact ⟨unassigned_pack rfl rfl, field_pack_of_lt rfl rfl (by decide) (by omega),
    field_pack_of_lt rfl rfl (by decide) (by omega)⟩

/-- The READ UNIT block holds its unit. -/
theorem unitWords_snapshot (sound : PoolSound s) (count : (s.unit u).count ≤ 11) :
    UnitWords u s (resultBlock .ok (unitSnapshot u s)) := by
  have state := (s.unit u).stateWord_reads
  have counts := DigitUnit.countWord_reads count u
  have presence := (s.unit u).presenceWord_reads
  have queues := State.queuesWord_reads sound
  have parked : s.parked.length ≤ 16 := sound.parkedOnce.length_le_card
  have eq : unitSnapshot u s = timeWords s.timeBase ++ [(s.unit u).stateWord, (s.unit u).countWord u,
      (s.unit u).presenceWord, s.queuesWord, pack [(s.parked.length, 4, 0)]] ++ timeWords ((s.unit u).brkStart.getD 0) ++
      timeWords ((s.unit u).prevBrkStart.getD 0) ++ timeWords ((s.unit u).subEnd.getD 0) ++
      timeWords (s.unit u).attachTime ++ timeWords ((s.unit u).parkTime.getD 0) := by
    simp only [unitSnapshot, timeWordsOpt_eq]
    rfl
  simp only [eq, timeWords, List.cons_append, List.nil_append]
  generalize (s.unit u).stateWord = w3 at state ⊢
  generalize (s.unit u).countWord u = w4 at counts ⊢
  generalize (s.unit u).presenceWord = w5 at presence ⊢
  generalize s.queuesWord = w6 at queues ⊢
  exact ⟨readOk_resultBlock (by simp), rfl, timeAt_of_words rfl rfl, state, counts, presence, queues,
    pack_single_toNat (by decide) (by omega), timeAt_of_words rfl rfl, timeAt_of_words rfl rfl, timeAt_of_words rfl rfl,
    timeAt_of_words rfl rfl, timeAt_of_words rfl rfl⟩

end Units

section ReadOrders

variable {w : OrderWrite} {s : State}

/-! ## A snapshot does not see the order that asks for it -/

theorem State.eq_of_ports {t : State} (circuits : t.circuits = s.circuits) (groups : t.groups = s.groups)
    (pool : PoolKept s t) (lines : LinesKept s t) : t = { s with portA := t.portA, portB := t.portB } := by
  obtain ⟨units, reg, snd, parked⟩ := pool
  obtain ⟨reset, time, filters, watches, forces, pending, choices⟩ := lines
  cases t
  simp_all

theorem orderStart_eq (w : OrderWrite) (s : State) :
    ∃ a b, orderStart w s = { s with portA := a, portB := b } ∧ a.enabled = s.portA.enabled ∧
      b.enabled = s.portB.enabled := by
  obtain ⟨circuits, groups, pool, lines, -, -, enabled⟩ := orderStart_frame s w
  exact ⟨_, _, State.eq_of_ports circuits groups pool lines, enabled .A, enabled .B⟩

theorem circuitSnapshot_orderStart (w : OrderWrite) (s : State) (c : Fin 96) :
    circuitSnapshot c (orderStart w s) = circuitSnapshot c s := by
  obtain ⟨a, b, eq, enabledA, enabledB⟩ := orderStart_eq w s
  rw [eq]
  simp only [circuitSnapshot, enabledA, enabledB]
  rfl

theorem groupSnapshot_orderStart (w : OrderWrite) (s : State) (g : Fin 8) :
    groupSnapshot g (orderStart w s) = groupSnapshot g s := by
  obtain ⟨a, b, eq, -⟩ := orderStart_eq w s
  rw [eq]
  rfl

theorem unitSnapshot_orderStart (w : OrderWrite) (s : State) (u : Fin 16) :
    unitSnapshot u (orderStart w s) = unitSnapshot u s := by
  obtain ⟨a, b, eq, -⟩ := orderStart_eq w s
  rw [eq]
  rfl

/-! ## The orders (R146, R147) -/

theorem orderReadCircuit_high {p : Port} {ws : List Word} (h : 95 < field (wordAt ws 1) 6 0) :
    orderReadCircuit p ws s = refuse .badValue s := by simp [orderReadCircuit, circuitOf_none.mpr h]

theorem orderReadCircuit_of_circuit {p : Port} {ws : List Word} {c : Fin 96} (h : field (wordAt ws 1) 6 0 = c.val) :
    orderReadCircuit p ws s = (s, resultBlock .ok (circuitSnapshot c s)) := by
  simp [orderReadCircuit, circuitOf_some.mpr h]

theorem orderReadGroup_high {p : Port} {ws : List Word} (h : 7 < field (wordAt ws 1) 3 0) :
    orderReadGroup p ws s = refuse .badGroup s := by simp [orderReadGroup, eightOf_none.mpr h]

theorem orderReadGroup_of_group {p : Port} {ws : List Word} {g : Fin 8} (h : field (wordAt ws 1) 3 0 = g.val) :
    orderReadGroup p ws s = (s, resultBlock .ok (groupSnapshot g s)) := by simp [orderReadGroup, eightOf_some.mpr h]

theorem orderReadUnit_high {p : Port} {ws : List Word} (h : 15 < field (wordAt ws 1) 4 0) :
    orderReadUnit p ws s = refuse .badValue s := by simp [orderReadUnit, sixteenOf_none.mpr h]

theorem orderReadUnit_of_unit {p : Port} {ws : List Word} {u : Fin 16} (h : field (wordAt ws 1) 4 0 = u.val) :
    orderReadUnit p ws s = (s, resultBlock .ok (unitSnapshot u s)) := by simp [orderReadUnit, sixteenOf_some.mpr h]

/-- Settles O38: the words of each snapshot read back field by field, and the order that asks for it changes nothing. -/
theorem readOrdersAnswerSnapshots : Obligations.ReadOrdersAnswerSnapshots := by
  unfold Obligations.ReadOrdersAnswerSnapshots
  intro w ws s pool slots references fields digits
  obtain ⟨circuits, -, -⟩ := fields
  obtain ⟨sent, units⟩ := digits
  refine ⟨fun ready => ⟨fun high => refuses_of_body ready (orderReadCircuit_high (p := w.port) high), fun c hc => ?_⟩,
    fun ready => ⟨fun high => refuses_of_body ready (orderReadGroup_high (p := w.port) high), fun g hg => ?_⟩,
    fun ready => ⟨fun high => refuses_of_body ready (orderReadUnit_high (p := w.port) high), fun u hu => ?_⟩⟩
  · have answers := answers_block_of_body ready (orderReadCircuit_of_circuit (p := w.port) hc)
    rw [circuitSnapshot_orderStart] at answers
    obtain ⟨few, trunk⟩ := circuits c
    exact ⟨_, answers, circuitWords_snapshot few trunk (sent c)⟩
  · have answers := answers_block_of_body ready (orderReadGroup_of_group (p := w.port) hg)
    rw [groupSnapshot_orderStart] at answers
    obtain ⟨params, reference⟩ := references g
    exact ⟨_, answers, groupWords_snapshot (pool.idleOnce g) (slots.waitingOnce g) params reference⟩
  · have answers := answers_block_of_body ready (orderReadUnit_of_unit (p := w.port) hu)
    rw [unitSnapshot_orderStart] at answers
    obtain ⟨count, -⟩ := units u
    exact ⟨_, answers, unitWords_snapshot pool count⟩

end ReadOrders

end Sys2Proof.Machine

/-! PROOFS. The words of a report (R160 to R162, R186): the event words, the header, and the fields of each kind of item. -/

namespace Sys2Proof.Machine

section EventWords

variable {k : EventSet} {w : Word} {events : List Event} {base : Nat}

/-! ## Event words (R154, R186) -/

theorem EventSet.has_eq (k : EventSet) (e : Event) : k.has e = k.bits.getLsbD e.bit := by
  have own : e.mask.getLsbD e.bit = true := by cases e <;> decide
  have iff : k.has e = true ↔ k.bits.getLsbD e.bit = true := by
    rw [EventSet.has, decide_eq_true_eq]
    constructor
    · intro some_
      by_contra clear
      refine some_ (BitVec.eq_of_getLsbD_eq fun i _ => ?_)
      rw [BitVec.getLsbD_and, Bool.and_eq_false_imp.mpr fun held => ?_]
      · simp
      · refine Bool.eq_false_iff.mpr fun masked => clear ?_
        rw [Event.mask_getLsbD masked]
        exact held
    · intro held none_
      have bit : (k.bits &&& e.mask).getLsbD e.bit = false := by rw [none_]; simp
      rw [BitVec.getLsbD_and, held, own] at bit
      cases bit
  exact Bool.eq_iff_iff.mpr iff

theorem bitSet_eq (w : Word) (i : Nat) : bitSet w i = w.getLsbD i := by
  rw [bitSet, field, BitVec.getLsbD, Nat.testBit_eq_decide_div_mod_eq]
  simp

theorem bitSet_firstWord (k : EventSet) {j : Nat} (h : j < 16) : bitSet k.firstWord j = k.bits.getLsbD (16 + j) := by
  rw [bitSet_eq, EventSet.firstWord, BitVec.getLsbD_ofNat, BitVec.getLsbD, show 65536 = 2 ^ 16 from rfl,
    Nat.testBit_div_two_pow]
  simp [h, Nat.add_comm]

theorem bitSet_secondWord (k : EventSet) {j : Nat} (h : j < 16) : bitSet k.secondWord j = k.bits.getLsbD (0 + j) := by
  rw [bitSet_eq, EventSet.secondWord, BitVec.getLsbD_ofNat, BitVec.getLsbD]
  simp [h]

/-- A word shows the events of a list whose places are those of their bits, when the set holds no others there. -/
theorem eventWord_of_bits (reads : ∀ j < 16, bitSet w j = k.bits.getLsbD (base + j))
    (places : ∀ i : Fin 16, (events[i.val]?).all (fun e => e.bit = base + (15 - i.val)) = true)
    (fits : ∀ j < 16, k.bits.getLsbD (base + j) = true → ∃ e, events[15 - j]? = some e) : EventWord events k w := by
  intro i
  rw [reads _ (by omega)]
  have place := places i
  cases at_ : events[i.val]? with
  | none =>
    refine Bool.eq_false_iff.mpr fun held => ?_
    obtain ⟨e, there⟩ := fits _ (by omega) held
    rw [show 15 - (15 - i.val) = i.val by omega, at_] at there
    cases there
  | some e =>
    rw [at_] at place
    simp only [Option.all_some, decide_eq_true_eq] at place
    simp [EventSet.has_eq, place]

theorem Item.firstEvents (it : Item) :
    (∀ i : Fin 16, (it.events[i.val]?).all (fun e => e.bit = 16 + (15 - i.val)) = true) ∧
      ∀ e ∈ it.events, ∀ j < 16, e.bit = 16 + j → it.events[15 - j]? = some e := by
  cases it <;> simp only [Item.events] <;> decide

theorem Item.secondEvents (c : Fin 96) :
    (∀ i : Fin 16, (((Item.circuit c).events.drop 16)[i.val]?).all (fun e => e.bit = 0 + (15 - i.val)) = true) ∧
      ∀ e ∈ (Item.circuit c).events, ∀ j < 16, e.bit = 0 + j → ((Item.circuit c).events.drop 16)[15 - j]? = some e := by
  simp only [Item.events]
  decide

theorem EventSet.Fits.firstWord {it : Item} (h : k.Fits it) : EventWord it.events k k.firstWord := by
  refine eventWord_of_bits (fun j hj => bitSet_firstWord k hj) it.firstEvents.1 fun j hj held => ?_
  obtain ⟨e, listed, bit⟩ := h.1 _ held
  exact ⟨e, it.firstEvents.2 e listed j hj bit⟩

theorem EventSet.Fits.secondWord {c : Fin 96} (h : k.Fits (.circuit c)) :
    EventWord ((Item.circuit c).events.drop 16) k k.secondWord := by
  refine eventWord_of_bits (fun j hj => bitSet_secondWord k hj) (Item.secondEvents c).1 fun j hj held => ?_
  obtain ⟨e, listed, bit⟩ := h.1 _ held
  exact ⟨e, (Item.secondEvents c).2 e listed j hj bit⟩

end EventWords

section Reports

variable {p : Port} {k : EventSet} {c : Fin 96} {s : State}

/-! ## A circuit's report (R160) -/

/-- State, owner and the answer's flag, and the cause. -/
def Circuit.reportWord (r : Circuit) : Word :=
  pack [(r.state.code, 15, 11), (ownerCode r.owner, 10, 9), (flag r.answered, 8, 8), (r.cause.code, 3, 0)]

/-- The digit counts, and the digits discarded with answered. -/
def Circuit.countsWord (r : Circuit) (k : EventSet) : Word :=
  pack [(r.digits.length, 15, 11), (r.sent, 10, 6), (if k.has .answered then k.discarded else 0, 4, 0)]

theorem Circuit.reportWord_reads (r : Circuit) :
    Coded stateTable r.state (field r.reportWord 15 11) ∧
      Coded [none, some Port.A, some .B] r.owner (field r.reportWord 10 9) ∧ bitSet r.reportWord 8 = r.answered ∧
      field r.reportWord 7 4 = 0 ∧ Coded causeTable r.cause (field r.reportWord 3 0) :=
  ⟨.of_pack (CircuitState.coded _) rfl rfl (by decide), .of_pack (ownerCode_coded _) rfl rfl (by decide),
    bitSet_pack rfl rfl, field_pack_of_lt rfl rfl (by decide) (by decide), .of_pack (Cause.coded _) rfl rfl (by decide)⟩

theorem Circuit.countsWord_reads {r : Circuit} (few : r.digits.length ≤ 24) (sent : r.sent ≤ r.digits.length)
    (discarded : k.discarded ≤ 24) :
    field (r.countsWord k) 15 11 = r.digits.length ∧ field (r.countsWord k) 10 6 = r.sent ∧
      Unassigned (r.countsWord k) [5] ∧ field (r.countsWord k) 4 0 = if k.has .answered then k.discarded else 0 :=
  ⟨field_pack_of_lt rfl rfl (by decide) (by omega), field_pack_of_lt rfl rfl (by decide) (by omega),
    unassigned_pack rfl rfl, field_pack_of_lt rfl rfl (by decide) (by split <;> omega)⟩

theorem reportHolds_circuit (fits : k.Fits (.circuit c)) (few : (s.circuit c).digits.length ≤ 24)
    (sent : (s.circuit c).sent ≤ (s.circuit c).digits.length) :
    ReportHolds p (.circuit c) k s (reportWords p (.circuit c) k s) := by
  have report := (s.circuit c).reportWord_reads
  have counts := Circuit.countsWord_reads (k := k) few sent fits.2
  have header : (pack [(0, 15, 13), (c.val, 6, 0)]).toNat = c.val := by
    rw [pack_toNat rfl]
    simp [packedSum, Nat.mod_eq_of_lt (show c.val < 128 by omega)]
  have eq : reportWords p (.circuit c) k s =
      [pack [(0, 15, 13), (c.val, 6, 0)], BitVec.ofNat 16 (s.timeBase.toNat / 65536), BitVec.ofNat 16 s.timeBase.toNat,
        k.firstWord, k.secondWord, (s.circuit c).reportWord, (s.circuit c).countsWord k,
        BitVec.ofNat 16 ((s.circuit c).ansTime.toNat / 65536), BitVec.ofNat 16 (s.circuit c).ansTime.toNat] ++
        packDigits (s.circuit c).digits := rfl
  rw [eq]
  generalize (s.circuit c).reportWord = w5 at report ⊢
  generalize (s.circuit c).countsWord k = w6 at counts ⊢
  exact ⟨timeAt_of_words rfl rfl, fits.firstWord, header, fits.secondWord, report, counts, timeAt_of_words rfl rfl,
    digitsFrom_packDigits rfl (by simp)⟩

/-! ## A slot's report (R161) -/

theorem slotReportWords_read {slot : Slot} (used : slot ≠ .free) :
    ∃ state outcome circuit tag w5 w6, slotReportWords slot = [w5, w6] ∧ SlotReport slot state outcome circuit tag ∧
      (field w5 15 14 = state ∧ field w5 13 12 = outcome ∧ field w5 11 8 = 0 ∧ bitSet w5 7 = circuit.isSome ∧
        field w5 6 0 = (circuit.getD 0).val) ∧ w6.toNat = tag.toNat := by
  have tag : ∀ call : SlotCall, (pack [(call.tag.toNat, 7, 0)]).toNat = call.tag.toNat := fun call =>
    pack_single_toNat (by decide) call.tag.isLt
  cases slot with
  | free => exact absurd rfl used
  | waiting call =>
    exact ⟨1, 0, none, call.tag, _, _, rfl, ⟨rfl, rfl, rfl, rfl⟩, ⟨field_pack_of_lt rfl rfl (by decide) (by decide),
      field_pack_of_lt rfl rfl (by decide) (by decide), field_pack_of_lt rfl rfl (by decide) (by decide),
      bitSet_pack (b := false) rfl rfl, field_pack_of_lt rfl rfl (by decide) (by decide)⟩, tag call⟩
  | seizing call c =>
    exact ⟨2, 1, some c, call.tag, _, _, rfl, ⟨rfl, rfl, rfl, rfl⟩, ⟨field_pack_of_lt rfl rfl (by decide) (by decide),
      field_pack_of_lt rfl rfl (by decide) (by decide), field_pack_of_lt rfl rfl (by decide) (by decide),
      bitSet_pack (b := true) rfl rfl, field_pack_of_lt rfl rfl (by decide) (by simp; omega)⟩, tag call⟩
  | outcome call out =>
    cases out with
    | seized c =>
      exact ⟨3, 1, some c, call.tag, _, _, rfl, ⟨rfl, rfl, rfl, rfl⟩, ⟨field_pack_of_lt rfl rfl (by decide) (by decide),
        field_pack_of_lt rfl rfl (by decide) (by decide), field_pack_of_lt rfl rfl (by decide) (by decide),
        bitSet_pack (b := true) rfl rfl, field_pack_of_lt rfl rfl (by decide) (by simp; omega)⟩, tag call⟩
    | expired =>
      exact ⟨3, 2, none, call.tag, _, _, rfl, ⟨rfl, rfl, rfl, rfl⟩, ⟨field_pack_of_lt rfl rfl (by decide) (by decide),
        field_pack_of_lt rfl rfl (by decide) (by decide), field_pack_of_lt rfl rfl (by decide) (by decide),
        bitSet_pack (b := false) rfl rfl, field_pack_of_lt rfl rfl (by decide) (by decide)⟩, tag call⟩
    | glareFailed =>
      exact ⟨3, 3, none, call.tag, _, _, rfl, ⟨rfl, rfl, rfl, rfl⟩, ⟨field_pack_of_lt rfl rfl (by decide) (by decide),
        field_pack_of_lt rfl rfl (by decide) (by decide), field_pack_of_lt rfl rfl (by decide) (by decide),
        bitSet_pack (b := false) rfl rfl, field_pack_of_lt rfl rfl (by decide) (by decide)⟩, tag call⟩

theorem reportHolds_slot {n : Fin 16} (fits : k.Fits (.slot n)) :
    ReportHolds p (.slot n) k s (reportWords p (.slot n) k s) := by
  have header : (pack [(1, 15, 13), (portBit p, 7, 7), (n.val, 3, 0)]).toNat =
      0x2000 + (if p = .B then 0x80 else 0) + n.val := by
    rw [pack_toNat rfl]
    cases p <;> simp [packedSum, portBit, Nat.mod_eq_of_lt (show n.val < 16 from n.isLt)]
    omega
  have eq : reportWords p (.slot n) k s =
      [pack [(1, 15, 13), (portBit p, 7, 7), (n.val, 3, 0)], BitVec.ofNat 16 (s.timeBase.toNat / 65536),
        BitVec.ofNat 16 s.timeBase.toNat, k.firstWord] ++ slotReportWords (s.slot { port := p, num := n }) := rfl
  have two : (slotReportWords (s.slot { port := p, num := n })).length = 2 := by
    generalize s.slot { port := p, num := n } = slot
    cases slot with
    | outcome call out => cases out <;> rfl
    | free | waiting | seizing => rfl
  rw [eq]
  refine ⟨timeAt_of_words rfl rfl, fits.firstWord, header, by simp [two], fun used => ?_⟩
  obtain ⟨state, outcome, circuit, tag, w5, w6, words, report, fields, last⟩ := slotReportWords_read used
  rw [words]
  exact ⟨state, outcome, circuit, tag, report, fields, last⟩

/-! ## A group's and a watch channel's report (R162) -/

/-- The lock and the reference. -/
def Reference.reportWord (r : Reference) : Word := pack [(flag r.locked, 15, 15), (r.ref, 11, 0)]

theorem Reference.reportWord_reads {r : Reference} (high : r.ref ≤ 3200) :
    bitSet r.reportWord 15 = r.locked ∧ Unassigned r.reportWord [14, 13, 12] ∧ field r.reportWord 11 0 = r.ref :=
  ⟨bitSet_pack rfl rfl, unassigned_pack rfl rfl, field_pack_of_lt rfl rfl (by decide) (by omega)⟩

theorem reportHolds_group {g : Fin 8} (fits : k.Fits (.group g)) (reference : (s.group g).reference.Sound) :
    ReportHolds p (.group g) k s (reportWords p (.group g) k s) := by
  obtain ⟨-, high, -, -, tBm, -, tId, -⟩ := reference
  have report := Reference.reportWord_reads high
  have header : (pack [(2, 15, 13), (g.val, 6, 0)]).toNat = 0x4000 + g.val := by
    rw [pack_toNat rfl]
    simp [packedSum, Nat.mod_eq_of_lt (show g.val < 128 by omega)]
  have eq : reportWords p (.group g) k s =
      [pack [(2, 15, 13), (g.val, 6, 0)], BitVec.ofNat 16 (s.timeBase.toNat / 65536), BitVec.ofNat 16 s.timeBase.toNat,
        k.firstWord, (s.group g).reference.reportWord, BitVec.ofNat 16 (s.group g).reference.tBm,
        BitVec.ofNat 16 (s.group g).reference.tId] := rfl
  rw [eq]
  generalize (s.group g).reference.reportWord = w4 at report ⊢
  exact ⟨timeAt_of_words rfl rfl, fits.firstWord, header, rfl, report,
    (BitVec.toNat_ofNat ..).trans (Nat.mod_eq_of_lt (by omega)),
    (BitVec.toNat_ofNat ..).trans (Nat.mod_eq_of_lt (by omega))⟩

theorem reportHolds_watch {ch : Fin 8} (fits : k.Fits (.watch ch)) (count : (s.watch ch).matchCount ≤ 65535) :
    ReportHolds p (.watch ch) k s (reportWords p (.watch ch) k s) := by
  have header : (pack [(3, 15, 13), (ch.val, 6, 0)]).toNat = 0x6000 + ch.val := by
    rw [pack_toNat rfl]
    simp [packedSum, Nat.mod_eq_of_lt (show ch.val < 128 by omega)]
  exact ⟨timeAt_of_words rfl rfl, fits.firstWord, header, rfl,
    (BitVec.toNat_ofNat ..).trans (Nat.mod_eq_of_lt (by omega))⟩

/-- The words of a report hold its item. -/
theorem reportHolds_words (references : ReferencesSound s) (fields : FieldsSound s) (digits : DigitsSound s) {it : Item}
    (fits : k.Fits it) : ReportHolds p it k s (reportWords p it k s) := by
  obtain ⟨circuits, -, watches⟩ := fields
  cases it with
  | circuit c => exact reportHolds_circuit fits (circuits c).1 (digits.1 c)
  | slot n => exact reportHolds_slot fits
  | group g => exact reportHolds_group fits (references g).2
  | watch ch => exact reportHolds_watch fits (watches ch)

end Reports

end Sys2Proof.Machine

/-! PROOFS. CH 1 reads (R141, R156, R157): the report that begins, its words in turn, and the order that a read abandons. -/

namespace Sys2Proof.Machine

section ReportReads

variable {p : Port} {it : Item} {s t : State}

/-! ## The words of a report are those of the instant -/

/-- A report sees the records, the watch channels, the time base and the port's own slots. -/
theorem reportWords_congr (time : t.timeBase = s.timeBase) (circuit : ∀ c, t.circuit c = s.circuit c)
    (group : ∀ g, t.group g = s.group g) (watch : ∀ w, t.watch w = s.watch w)
    (slot : ∀ n, t.slot { port := p, num := n } = s.slot { port := p, num := n }) (k : EventSet) :
    reportWords p it k t = reportWords p it k s := by
  cases it <;> simp only [reportWords, time, circuit, group, watch, slot]

theorem reportWords_modPort {f : PortRecord → PortRecord} (slots : (f (s.port p)).slots = (s.port p).slots) (k : EventSet) :
    reportWords p it k (s.modPort p f) = reportWords p it k s :=
  reportWords_congr (by simp) (by simp) (by simp) (by simp) (fun n => by
    rw [State.slot, State.modPort_port_self, slots, State.slot]) k

/-! ## The read that begins a report (R32, R156) -/

/-- What the first word of a report leaves of a port's slots (R32). -/
def PortRecord.settled (r : PortRecord) (it : Item) : PortRecord :=
  match it with
  | .slot n =>
    match r.slots[n] with
    | .outcome _ _ => { r with slots := r.slots.set n .free }
    | .free | .waiting _ _ _ _ | .seizing _ _ => r
  | .circuit _ | .group _ | .watch _ => r

theorem settleSlot_eq (p : Port) (it : Item) (s : State) : settleSlot p it s = s.modPort p (·.settled it) := by
  have same : s.modPort p id = s := by cases p <;> rfl
  cases it with
  | slot n =>
    have slot : s.slot { port := p, num := n } = (s.port p).slots[n] := rfl
    rw [settleSlot, slot]
    cases at_ : (s.port p).slots[n] <;> simp only
    case outcome call out =>
      rw [freeSlotOf, State.setSlot]
      exact State.modPort_congr (by simp [PortRecord.settled, at_])
    all_goals exact same.symm.trans (State.modPort_congr (by simp [PortRecord.settled, at_]))
  | circuit | group | watch => exact same.symm

theorem PortRecord.settled_slot (r : PortRecord) (it : Item) (n : Fin 16) :
    (r.settled it).slots[n] = if it = .slot n then (match r.slots[n] with | .outcome _ _ => .free | k => k) else r.slots[n] := by
  cases it with
  | slot m =>
    by_cases same : m = n
    · subst same
      cases at_ : r.slots[m] <;> simp [PortRecord.settled, at_]
    · have apart : m.val ≠ n.val := fun h => same (Fin.ext h)
      cases at_ : r.slots[m] <;> simp [PortRecord.settled, at_, same, apart]
  | circuit | group | watch => simp [PortRecord.settled]

/-- A port whose report of an item begins. -/
def PortRecord.reporting (r : PortRecord) (it : Item) (words : List Word) : PortRecord :=
  (((r.settled it).setPend it EventSet.empty).leave it).presentReport
    { item := it, words := words, position := 1, events := r.pendOf it, merge := true }

theorem beginReport_eq (p : Port) (it : Item) (s : State) :
    beginReport p it s =
      s.modPort p (·.reporting it (reportWords p it ((s.port p).pendOf it) s)) := by
  rw [beginReport, settleSlot_eq, State.modPort_modPort]
  exact State.modPort_congr rfl

theorem reportWords_long (p : Port) (it : Item) (k : EventSet) (s : State) : 2 ≤ (reportWords p it k s).length := by
  simp [reportWords, timeWords]

theorem PortRecord.settled_rest (r : PortRecord) (it : Item) :
    r.settled it = { r with slots := (r.settled it).slots } := by
  cases it with
  | slot n => cases at_ : r.slots[n] <;> simp [PortRecord.settled, at_]
  | circuit | group | watch => rfl

/-- A report that begins presents its first word and waits for the read of the second. -/
theorem PortRecord.reporting_eq (r : PortRecord) (it : Item) {words : List Word} (long : 2 ≤ words.length) :
    r.reporting it words =
      { r with
        slots := (r.settled it).slots, pend := r.pend.set it.index EventSet.empty
        attention := r.attention.filter fun x => x ≠ it, handshake := .replyingRead (wordAt words 0) false
        report := some { item := it, words := words, position := 2, events := r.pendOf it, merge := true } } := by
  have more : ¬ words.length ≤ 1 := by omega
  rw [PortRecord.reporting, PortRecord.settled_rest]
  simp only [PortRecord.setPend, PortRecord.leave, PortRecord.presentReport, more, decide_false]
  rfl

/-! ## A read on an open port (R141, R157) -/

/-- A port whose CH 1 read is taken, with no order in assembly. -/
def PortRecord.reading (r : PortRecord) : PortRecord := { r with rsel := true, resultPos := 1 }

theorem readStart_reading (empty : (s.port p).assembly = .empty) :
    (readStart p s).modPort p (fun r => { r.abandonOrder with resultPos := 1 }) = s.modPort p .reading := by
  rw [readStart, State.modPort_modPort]
  exact State.modPort_congr (by simp only [PortRecord.abandonOrder, empty, PortRecord.reading])

/-- An order in assembly is abandoned, and the read acts as on the port that has abandoned it. -/
theorem readStart_abandons {ws : List Word} {n : Nat} (assembling : (s.port p).assembly = .assembling ws n) :
    (readStart p s).modPort p (fun r => { r.abandonOrder with resultPos := 1 }) =
      (readStart p (s.modPort p fun k => { k with assembly := .empty, result := [0x2400#16], resultPos := 1 })).modPort p
        fun r => { r.abandonOrder with resultPos := 1 } := by
  rw [readStart, readStart, State.modPort_modPort, State.modPort_modPort, State.modPort_modPort]
  refine State.modPort_congr ?_
  simp only [PortRecord.abandonOrder, assembling]
  rfl

theorem Open.modPort {f : PortRecord → PortRecord} (h : Open p s) (handshake : (f (s.port p)).handshake = (s.port p).handshake)
    (wsel : (f (s.port p)).wsel = (s.port p).wsel) (rsel : (f (s.port p)).rsel = (s.port p).rsel) : Open p (s.modPort p f) := by
  obtain ⟨awake, quiet, write, read⟩ := h
  rw [Open, State.modPort_port_self, handshake, wsel, rsel, State.modPort_resetAsserted]
  exact ⟨awake, quiet, write, read⟩

/-- Settles O51: the read abandons an order in assembly, and then presents no report, the first word of the head item's, or
the next word of the report that is read. -/
theorem reportReadsPresentTheSnapshot : Obligations.ReportReadsPresentTheSnapshot := by
  unfold Obligations.ReportReadsPresentTheSnapshot
  intro p s free r a
  have wsel : (s.port p).wsel = false := free.2.2.1
  refine ⟨fun ws n assembling => ?_, fun empty none_ idle => ?_, fun it rest empty none_ listed => ?_,
    fun k word empty reading first there => ?_⟩
  · rw [exec_reportRead free, exec_reportRead (free.modPort rfl rfl rfl), answerReportRead, answerReportRead,
      readStart_abandons assembling]
  · rw [exec_reportRead free, answerReportRead, readStart_reading empty]
    simp only [State.modPort_port_self, PortRecord.reading, show (s.port p).report = none from none_,
      show (s.port p).attention = [] from idle, State.modPort_modPort]
    rfl
  · have begun : exec (.reportRead a) s = .next (beginReport p it (s.modPort p .reading)) := by
      rw [exec_reportRead free, answerReportRead, readStart_reading empty]
      simp only [State.modPort_port_self, PortRecord.reading, show (s.port p).report = none from none_,
        show (s.port p).attention = it :: rest from listed]
    have words : reportWords p it ((s.port p).pendOf it) (s.modPort p .reading) = reportWords p it (r.pendOf it) s :=
      reportWords_modPort rfl _
    have pend : ((s.modPort p .reading).port p).pendOf it = (s.port p).pendOf it := by rw [State.modPort_port_self]; rfl
    rw [beginReport_eq, pend, words, State.modPort_modPort] at begun
    have own := PortRecord.reporting_eq (s.port p).reading it (reportWords_long p it (r.pendOf it) s)
    refine ⟨_, reportWords p it (r.pendOf it) s, begun, fun references fields digits events =>
      reportHolds_words references fields digits ((events p).1 it), ?_⟩
    have slots : ∀ n : Fin 16, (r.reading.settled it).slots[n] =
        if it = .slot n then (match r.slots[n] with | .outcome _ _ => .free | k => k) else r.slots[n] :=
      r.reading.settled_slot it
    simp only [State.modPort_port_self, own, State.modPort_circuits, State.modPort_groups, State.modPort_port_other]
    refine ⟨trivial, rfl, ?_, rfl, rfl, rfl, empty, rfl, rfl, wsel, slots, trivial, trivial, trivial,
      ⟨by simp, by simp, by simp, by simp⟩, by simp [LinesKept]⟩
    rw [PortRecord.reading, show (s.port p).attention = it :: rest from listed]
    simp
  · rw [exec_reportRead free, answerReportRead, readStart_reading empty]
    simp only [State.modPort_port_self, PortRecord.reading, show (s.port p).report = some k from reading,
      State.modPort_modPort]
    refine congrArg _ (State.modPort_congr ?_)
    have short : k.position ≤ k.words.length := by
      have := (List.getElem?_eq_some_iff.mp there).1
      omega
    have last : k.words.length ≤ k.position ↔ k.position = k.words.length := by omega
    have shown : wordAt k.words (k.position - 1) = word := by simp [wordAt, there]
    simp only [PortRecord.presentReport, last, shown, decide_eq_true_eq]

end ReportReads

end Sys2Proof.Machine

/-! PROOFS. Transfers of ownership (R149, R150): one circuit that passes, all of them in their order, and the items that they
take to the other port. -/

namespace Sys2Proof.Machine

section Passing

variable {x y : Port} {c : Fin 96} {l : List (Fin 96)} {s t v : State}

/-! ## One circuit passes (R149) -/

/-- What a transfer makes of an item's pending set: the losing port's joins the other's, with transferred. -/
def handedSet (x y : Port) (it : Item) (s : State) : EventSet :=
  (((s.port x).pend[it.index]).union (s.port y).pend[it.index]).add .transferred

theorem transferCircuit_circuit (x y : Port) (c d : Fin 96) (s : State) :
    (transferCircuit x y c s).circuit d = if d = c then { s.circuit c with owner := some y } else s.circuit d := by
  simp only [transferCircuit, State.modPort_circuit, State.modCircuit_circuit]

theorem transferCircuit_source (apart : x ≠ y) (c : Fin 96) (s : State) :
    (transferCircuit x y c s).port x =
      { s.port x with
        pend := (s.port x).pend.set (Item.circuit c).index EventSet.empty
        attention := (s.port x).attention.filter fun it => it ≠ .circuit c } := by
  rw [transferCircuit, State.modPort_port_ne _ _ _ apart, State.modPort_port_self, State.modCircuit_port]
  rfl

theorem transferCircuit_dest (apart : x ≠ y) (c : Fin 96) (s : State) :
    (transferCircuit x y c s).port y =
      { s.port y with
        pend := (s.port y).pend.set (Item.circuit c).index (handedSet x y (.circuit c) s)
        attention := if .circuit c ∈ (s.port y).attention then (s.port y).attention
          else (s.port y).attention ++ [.circuit c] } := by
  rw [transferCircuit, State.modPort_port_self, State.modPort_port_ne _ _ _ apart.symm, State.modCircuit_port]
  simp only [PortRecord.join, PortRecord.setPend, PortRecord.pendOf, handedSet,
    List.contains_iff_mem]

theorem transferCircuit_frame (x y : Port) (c : Fin 96) (s : State) :
    (transferCircuit x y c s).groups = s.groups ∧ PoolKept s (transferCircuit x y c s) ∧
      LinesKept s (transferCircuit x y c s) := by
  simp [transferCircuit, PoolKept, LinesKept]

/-! ## A list of circuits passes -/

/-- A list of circuits has passed from one port to the other. -/
structure Passed (x y : Port) (l : List (Fin 96)) (s t : State) : Prop where
  circuit : ∀ d, t.circuit d = if d ∈ l then { s.circuit d with owner := some y } else s.circuit d
  source : ∃ pend, t.port x = { s.port x with
      pend := pend, attention := (s.port x).attention.filter fun it => it ∉ l.map Item.circuit } ∧
    ∀ it : Item, pend[it.index] = if it ∈ l.map Item.circuit then EventSet.empty else (s.port x).pend[it.index]
  dest : ∃ pend, t.port y = { s.port y with
      pend := pend
      attention := (s.port y).attention ++ (l.map Item.circuit).filter fun it => it ∉ (s.port y).attention } ∧
    ∀ it : Item, pend[it.index] = if it ∈ l.map Item.circuit then handedSet x y it s else (s.port y).pend[it.index]
  groups : t.groups = s.groups
  pool : PoolKept s t
  lines : LinesKept s t

theorem set_index_get (pend : Vector EventSet 128) (it it' : Item) (k : EventSet) :
    (pend.set it.index k)[it'.index] = if it' = it then k else pend[it'.index] := by
  by_cases same : it' = it
  · subst same; simp
  · have apart : it.index.val ≠ it'.index.val := fun h => same (Item.index_injective (Fin.ext h)).symm
    simp [same, apart]

theorem Passed.nil (x y : Port) (s : State) : Passed x y [] s s where
  circuit := by simp
  source := ⟨(s.port x).pend, by simp, by simp⟩
  dest := ⟨(s.port y).pend, by simp, by simp⟩
  groups := rfl
  pool := .refl s
  lines := .refl s

theorem Passed.cons (apart : x ≠ y) (new : c ∉ l) (h : Passed x y l (transferCircuit x y c s) t) :
    Passed x y (c :: l) s t where
  circuit d := by
    rw [h.circuit, transferCircuit_circuit]
    by_cases same : d = c
    · subst same; simp [new]
    · simp [same]
  source := by
    obtain ⟨pend, eq, held⟩ := h.source
    rw [transferCircuit_source apart] at eq held
    refine ⟨pend, ?_, fun it => ?_⟩
    · rw [eq]
      simp [List.filter_filter, Bool.and_comm]
    · rw [held, set_index_get]
      by_cases later : it ∈ l.map Item.circuit
      · simp only [later, List.map_cons, List.mem_cons, or_true, if_true]
      · simp only [later, List.map_cons, List.mem_cons, or_false, if_false]
  dest := by
    obtain ⟨pend, eq, held⟩ := h.dest
    have other : ∀ it ∈ l.map Item.circuit, it ≠ .circuit c := fun it listed same => by
      subst same
      simp [new] at listed
    rw [transferCircuit_dest apart] at eq held
    refine ⟨pend, ?_, fun it => ?_⟩
    · have joined : (if .circuit c ∈ (s.port y).attention then (s.port y).attention
            else (s.port y).attention ++ [.circuit c]) ++
          (l.map Item.circuit).filter (fun it => it ∉ (if .circuit c ∈ (s.port y).attention then (s.port y).attention
            else (s.port y).attention ++ [.circuit c])) =
          (s.port y).attention ++ ((c :: l).map Item.circuit).filter fun it => it ∉ (s.port y).attention := by
        by_cases listed : .circuit c ∈ (s.port y).attention
        · simp [listed]
        · have same : (l.map Item.circuit).filter (fun it => it ∉ (s.port y).attention ++ [.circuit c]) =
              (l.map Item.circuit).filter fun it => it ∉ (s.port y).attention :=
            List.filter_congr fun it hit => by simp [other it hit]
          rw [if_neg listed, same]
          simp [listed]
      rw [eq, joined]
    · rw [held, set_index_get]
      by_cases later : it ∈ l.map Item.circuit
      · simp only [later, List.map_cons, List.mem_cons, or_true, if_true, handedSet, transferCircuit_source apart,
          transferCircuit_dest apart, set_index_get, if_neg (other it later)]
      · by_cases same : it = .circuit c
        · subst same
          simp only [later, List.map_cons, List.mem_cons, true_or, if_true, if_false]
        · simp only [later, same, List.map_cons, List.mem_cons, or_false, if_false]
  groups := h.groups.trans (transferCircuit_frame x y c s).1
  pool := (transferCircuit_frame x y c s).2.1.trans h.pool
  lines := (transferCircuit_frame x y c s).2.2.trans h.lines

theorem passed_foldl (apart : x ≠ y) (once : l.Nodup) (s : State) :
    Passed x y l s (l.foldl (fun s c => transferCircuit x y c s) s) := by
  induction l generalizing s with
  | nil => exact .nil x y s
  | cons c l ih =>
    obtain ⟨new, rest⟩ := List.nodup_cons.mp once
    exact .cons apart new (ih rest _)

end Passing

section Order

variable {x y : Port} {c : Fin 96} {s t : State}

/-! ## The order in which circuits pass (R149) -/

theorem mem_circuitItems {items : List Item} : c ∈ circuitItems items ↔ .circuit c ∈ items := by
  rw [circuitItems, List.mem_filterMap]
  constructor
  · rintro ⟨it, listed, same⟩
    cases it <;> simp_all
  · exact fun listed => ⟨_, listed, rfl⟩

theorem circuitItems_nodup {items : List Item} (once : items.Nodup) : (circuitItems items).Nodup := by
  refine once.filterMap fun a b d ha hb => ?_
  cases a <;> cases b <;> simp_all

theorem map_circuitItems (items : List Item) (owned : Fin 96 → Bool) :
    ((circuitItems items).filter owned).map Item.circuit =
      items.filter fun it => match it with
        | .circuit c => owned c
        | .slot _ | .group _ | .watch _ => false := by
  induction items with
  | nil => rfl
  | cons it rest ih =>
    cases it with
    | circuit c =>
      rw [show circuitItems (.circuit c :: rest) = c :: circuitItems rest from rfl, List.filter_cons, List.filter_cons]
      split <;> simp [ih]
    | slot | group | watch => exact ih

theorem mem_transferOrder : c ∈ transferOrder x s ↔ (s.circuit c).owner = some x := by
  simp only [transferOrder, State.ownedBy, List.mem_append, List.mem_filter, allCircuits, List.mem_finRange,
    decide_eq_true_eq, mem_circuitItems, Bool.not_eq_true', true_and]
  by_cases owned : (s.circuit c).owner = some x
  · by_cases listed : Item.circuit c ∈ (s.port x).attention <;> simp [owned, listed, mem_circuitItems]
  · simp [owned]

theorem transferOrder_nodup (once : (s.port x).attention.Nodup) : (transferOrder x s).Nodup := by
  refine List.nodup_append.mpr ⟨(circuitItems_nodup once).filter _, ?_, fun a listed b rest same => ?_⟩
  · exact ((List.nodup_finRange 96).filter _).filter _
  · subst same
    obtain ⟨-, unlisted⟩ := List.mem_filter.mp rest
    rw [Bool.not_eq_true', ← Bool.not_eq_true, List.contains_iff_mem] at unlisted
    exact unlisted listed

/-- The circuits pass in the order of the items that they take along. -/
theorem map_transferOrder (x : Port) (s : State) : (transferOrder x s).map Item.circuit = s.handedItems x := by
  rw [transferOrder, List.map_append, map_circuitItems, State.handedItems]
  refine congrArg₂ _ (List.filter_congr fun it _ => by cases it <;> rfl) ?_
  rw [List.filter_map, State.ownedBy, List.filter_filter, allCircuits]
  refine congrArg _ (List.filter_congr fun c _ => ?_)
  by_cases owned : (s.circuit c).owner = some x <;> simp [State.ownsItem, owned, mem_circuitItems]

theorem State.ownsItem_iff {it : Item} : s.ownsItem x it = true ↔ ∃ c, it = .circuit c ∧ (s.circuit c).owner = some x := by
  cases it <;> simp [State.ownsItem]

theorem mem_map_transferOrder {it : Item} : it ∈ (transferOrder x s).map Item.circuit ↔ s.ownsItem x it = true := by
  rw [List.mem_map, State.ownsItem_iff]
  exact ⟨fun ⟨c, listed, same⟩ => ⟨c, same.symm, mem_transferOrder.mp listed⟩,
    fun ⟨c, same, owned⟩ => ⟨c, mem_transferOrder.mpr owned, same.symm⟩⟩

theorem transferAll_passed (apart : x ≠ y) (once : (s.port x).attention.Nodup) :
    Passed x y (transferOrder x s) s (transferAll x y s) := passed_foldl apart (transferOrder_nodup once) s

end Order

section Transferred

variable {x y : Port} {u w t : State} {keep : Item → Bool}

/-! ## All the circuits of a port pass (R149, R150) -/

/-- Two states whose circuits have the same owners, and whose losing ports differ outside the items kept. -/
structure HandsAlike (x y : Port) (keep : Item → Bool) (u w : State) : Prop where
  owner : ∀ c, (w.circuit c).owner = (u.circuit c).owner
  dest : (w.port y).pend = (u.port y).pend ∧ (w.port y).attention = (u.port y).attention
  listed : (w.port x).attention = (u.port x).attention.filter keep
  pend : ∀ it : Item, keep it = true → (w.port x).pend[it.index] = (u.port x).pend[it.index]

theorem HandsAlike.ownsItem (h : HandsAlike x y keep u w) (p : Port) (it : Item) : w.ownsItem p it = u.ownsItem p it := by
  cases it <;> simp [State.ownsItem, h.owner]

theorem HandsAlike.handedItems (h : HandsAlike x y keep u w) (circuits : ∀ c, keep (.circuit c) = true) :
    w.handedItems x = u.handedItems x := by
  have kept : ∀ it, u.ownsItem x it = true → keep it = true := fun it owned => by
    obtain ⟨c, rfl, -⟩ := State.ownsItem_iff.mp owned
    exact circuits c
  rw [State.handedItems, State.handedItems, h.listed, List.filter_filter]
  refine congrArg₂ _ (List.filter_congr fun it _ => ?_) (List.filter_congr fun it _ => ?_)
  · rw [h.ownsItem]
    cases owned : u.ownsItem x it with
    | true => simp [kept it owned]
    | false => rfl
  · rw [h.ownsItem]
    cases owned : u.ownsItem x it with
    | true => simp [kept it owned]
    | false => simp

theorem Passed.transfers (passed : Passed x y (transferOrder x w) w t) (h : HandsAlike x y keep u w)
    (others : ∀ it, (∀ n, it ≠ .slot n) → keep it = true) :
    Transfers x y u t ∧
      (t.port x).attention = (u.port x).attention.filter fun it => keep it ∧ u.ownsItem x it = false := by
  obtain ⟨pendX, sourceX, heldX⟩ := passed.source
  obtain ⟨pendY, destY, heldY⟩ := passed.dest
  have circuits : ∀ c, keep (.circuit c) = true := fun c => others _ (by simp)
  simp only [mem_map_transferOrder, h.ownsItem] at sourceX heldX heldY
  rw [map_transferOrder, h.handedItems circuits, h.dest.2] at destY
  rw [h.listed, List.filter_filter] at sourceX
  refine ⟨⟨fun c owned => ?_, by rw [destY], fun it unowned => ⟨?_, fun other => ?_⟩⟩, ?_⟩
  · have mine : u.ownsItem x (.circuit c) = true := State.ownsItem_iff.mpr ⟨c, rfl, owned⟩
    have set : (t.port y).pend[(Item.circuit c).index] = handedSet x y (.circuit c) w := by
      rw [destY]
      exact (heldY _).trans (if_pos mine)
    have pend := h.pend _ (circuits c)
    simp only
    rw [set, handedSet, pend, h.dest.1]
    refine ⟨?_, ?_, rfl, rfl, ?_, ?_⟩
    · rw [passed.circuit, if_pos (mem_transferOrder.mpr (by rw [h.owner]; exact owned))]
    · rw [destY]
      by_cases there : .circuit c ∈ (u.port y).attention
      · exact List.mem_append_left _ there
      · refine List.mem_append_right _ (List.mem_filter.mpr ⟨?_, by simpa using there⟩)
        rw [← h.handedItems circuits, ← map_transferOrder, mem_map_transferOrder, h.ownsItem]
        exact mine
    · rw [sourceX]
      exact (heldX _).trans (if_pos mine)
    · rw [sourceX]
      simp [mine]
  · rw [destY]
    exact (heldY it).trans (by rw [if_neg (by simp [unowned]), h.dest.1])
  · rw [sourceX]
    exact (heldX it).trans (by rw [if_neg (by simp [unowned]), h.pend it (others it other)])
  · rw [sourceX]
    refine List.filter_congr fun it _ => ?_
    cases u.ownsItem x it <;> cases keep it <;> rfl

end Transferred

end Sys2Proof.Machine

/-! PROOFS. The PEN lines (R148 to R150): the slots that a fall frees, and the circuits that a fall and a rise hand over. -/

namespace Sys2Proof.Machine

section Slots

variable {x y : Port} {n m : Fin 16} {l : List (Fin 16)} {s t v : State}

/-! ## The slots of a port whose PEN falls (R148) -/

/-- What the freeing of slots of one port leaves of the rest. -/
structure SlotsDropped (x : Port) (s t : State) : Prop where
  other : t.port (otherPort x) = s.port (otherPort x)
  own : t.port x = { s.port x with slots := (t.port x).slots }
  circuit : ∀ c, ∃ slot, t.circuit c = { s.circuit c with slot := slot } ∧ (slot = (s.circuit c).slot ∨ slot = none)
  group : ∀ g, ∃ queue, t.group g = { s.group g with queue := queue } ∧ queue.Sublist (s.group g).queue
  pool : PoolKept s t
  lines : LinesKept s t

theorem SlotsDropped.refl (x : Port) (s : State) : SlotsDropped x s s :=
  ⟨rfl, rfl, fun _ => ⟨_, rfl, .inl rfl⟩, fun _ => ⟨_, rfl, .refl _⟩, .refl s, .refl s⟩

theorem SlotsDropped.trans (h : SlotsDropped x s t) (k : SlotsDropped x t v) : SlotsDropped x s v where
  other := k.other.trans h.other
  own := by rw [k.own, h.own]
  circuit c := by
    obtain ⟨slot, eq, from_⟩ := h.circuit c
    obtain ⟨slot', eq', from'⟩ := k.circuit c
    refine ⟨slot', by rw [eq', eq], ?_⟩
    rw [eq] at from'
    rcases from' with rfl | none_
    · exact from_
    · exact .inr none_
  group g := by
    obtain ⟨queue, eq, sub⟩ := h.group g
    obtain ⟨queue', eq', sub'⟩ := k.group g
    rw [eq] at sub'
    exact ⟨queue', by rw [eq', eq], sub'.trans sub⟩
  pool := h.pool.trans k.pool
  lines := h.lines.trans k.lines

theorem SlotsDropped.freeSlotOf (x : Port) (n : Fin 16) (s : State) :
    SlotsDropped x s (freeSlotOf { port := x, num := n } s) where
  other := by rw [Machine.freeSlotOf, State.setSlot, State.modPort_port_other]
  own := by rw [Machine.freeSlotOf, State.setSlot, State.modPort_port_self]
  circuit c := ⟨_, State.setSlot_circuit .., .inl rfl⟩
  group g := ⟨_, State.setSlot_group .., .refl _⟩
  pool := by simp [Machine.freeSlotOf, PoolKept]
  lines := by simp [Machine.freeSlotOf, LinesKept]

/-- What becomes of one slot. -/
structure SlotGone (x : Port) (n : Fin 16) (s t : State) : Prop where
  free : t.slot { port := x, num := n } = .free
  waiting : ∀ call digits eon expiry, s.slot { port := x, num := n } = .waiting call digits eon expiry →
    ({ port := x, num := n } : SlotId) ∉ (t.group call.group).queue
  seizing : ∀ call c, s.slot { port := x, num := n } = .seizing call c → (t.circuit c).slot = none

theorem dropSlot_spec (x : Port) (n : Fin 16) (s : State) :
    SlotsDropped x s (dropSlot { port := x, num := n } s) ∧ SlotGone x n s (dropSlot { port := x, num := n } s) ∧
      ∀ m, m ≠ n → (dropSlot { port := x, num := n } s).slot { port := x, num := m } = s.slot { port := x, num := m } := by
  have others : ∀ (v : State) m, m ≠ n → (freeSlotOf { port := x, num := n } v).slot { port := x, num := m } =
      v.slot { port := x, num := m } := fun v m apart => State.setSlot_slot_ne _ _ _ (by simpa using apart)
  have free : ∀ v, (freeSlotOf { port := x, num := n } v).slot { port := x, num := n } = .free := fun v =>
    State.setSlot_slot_self ..
  unfold dropSlot
  cases slot : s.slot { port := x, num := n } with
  | free => exact ⟨.refl x s, ⟨slot, by simp [slot], by simp [slot]⟩, fun _ _ => rfl⟩
  | waiting call digits eon expiry =>
    simp only
    have left : SlotsDropped x s (leaveQueue call.group { port := x, num := n } s) := {
      SlotsDropped.refl x s with
      other := by simp [leaveQueue]
      own := by simp [leaveQueue]
      group := fun g => by
        rw [leaveQueue_group]
        split
        · next same => subst same; exact ⟨_, rfl, List.filter_sublist⟩
        · exact ⟨_, rfl, .refl _⟩ }
    refine ⟨left.trans (.freeSlotOf x n _), ⟨free _, fun call' _ _ _ same => ?_, by simp [slot]⟩, fun m apart => ?_⟩
    · rw [slot] at same
      cases same
      rw [freeSlotOf, State.setSlot_group, leaveQueue_group]
      simp
    · rw [others _ m apart]
      rfl
  | seizing call c =>
    simp only
    have unlinked : SlotsDropped x s (s.modCircuit c fun k => { k with slot := none }) := {
      SlotsDropped.refl x s with
      circuit := fun d => by
        rw [State.modCircuit_circuit]
        split
        · next same => subst same; exact ⟨none, rfl, .inr rfl⟩
        · exact ⟨_, rfl, .inl rfl⟩ }
    refine ⟨unlinked.trans (.freeSlotOf x n _), ⟨free _, by simp [slot], fun call' c' same => ?_⟩, fun m apart => ?_⟩
    · rw [slot] at same
      cases same
      rw [freeSlotOf, State.setSlot_circuit, State.modCircuit_circuit_self]
    · rw [others _ m apart]
      rfl
  | outcome call out =>
    exact ⟨.freeSlotOf x n s, ⟨free _, by simp [slot], by simp [slot]⟩, fun m apart => others _ m apart⟩

/-- A slot that is gone stays gone. -/
theorem SlotGone.later (h : SlotGone x n s t) (k : SlotsDropped x t v)
    (slot : v.slot { port := x, num := n } = t.slot { port := x, num := n }) : SlotGone x n s v where
  free := slot.trans h.free
  waiting call digits eon expiry there listed := by
    obtain ⟨queue, eq, sub⟩ := k.group call.group
    rw [eq] at listed
    exact h.waiting call digits eon expiry there (sub.subset listed)
  seizing call c there := by
    obtain ⟨slot', eq, from_⟩ := k.circuit c
    rw [eq]
    rcases from_ with rfl | none_
    · exact h.seizing call c there
    · exact none_

theorem dropSlots_spec (x : Port) (once : l.Nodup) (s : State) :
    SlotsDropped x s (l.foldl (fun s n => dropSlot { port := x, num := n } s) s) ∧
      (∀ n ∈ l, SlotGone x n s (l.foldl (fun s n => dropSlot { port := x, num := n } s) s)) ∧
      ∀ m ∉ l, (l.foldl (fun s n => dropSlot { port := x, num := n } s) s).slot { port := x, num := m } =
        s.slot { port := x, num := m } := by
  induction l generalizing s with
  | nil => exact ⟨.refl x s, by simp, fun _ _ => rfl⟩
  | cons n l ih =>
    obtain ⟨new, rest⟩ := List.nodup_cons.mp once
    obtain ⟨first, gone, others⟩ := dropSlot_spec x n s
    obtain ⟨later, goneLater, othersLater⟩ := ih rest (dropSlot { port := x, num := n } s)
    refine ⟨first.trans later, fun m listed => ?_, fun m unlisted => ?_⟩
    · rcases List.mem_cons.mp listed with rfl | listed
      · exact gone.later later (othersLater m new)
      · have apart : m ≠ n := fun same => new (same ▸ listed)
        obtain ⟨free, waiting, seizing⟩ := goneLater m listed
        rw [others m apart] at waiting seizing
        exact ⟨free, waiting, seizing⟩
    · rw [List.mem_cons, not_or] at unlisted
      rw [List.foldl_cons, othersLater m unlisted.2, others m unlisted.1]

end Slots

section Abandonment

variable {p x : Port} {s : State}

/-! ## A report read is abandoned whatever PEN (R148, R150) -/

theorem abandonReport_enabled (p x : Port) (b : Bool) (s : State) :
    abandonReport p (s.modPort x fun r => { r with enabled := b }) =
      (abandonReport p s).modPort x fun r => { r with enabled := b } := by
  have report : ((s.modPort x fun r => { r with enabled := b }).port p).report = (s.port p).report := by
    rw [State.modPort_port]; split <;> simp_all
  have given : ∀ it, givesBack p it (s.modPort x fun r => { r with enabled := b }) = givesBack p it s := fun it => by
    cases it with
    | slot n =>
      have slots : ((s.modPort x fun r => { r with enabled := b }).port p).slots = (s.port p).slots := by
        rw [State.modPort_port]; split <;> simp_all
      exact decide_eq_decide.mpr (by rw [State.slot, slots, State.slot])
    | circuit | group | watch => rfl
  unfold abandonReport
  rw [report]
  cases (s.port p).report with
  | none => rfl
  | some k =>
    simp only [given]
    split <;> cases p <;> cases x <;> rfl

theorem abandonReport_frame (p : Port) (s : State) :
    (abandonReport p s).circuits = s.circuits ∧ (abandonReport p s).groups = s.groups ∧ PoolKept s (abandonReport p s) ∧
      LinesKept s (abandonReport p s) ∧ (∀ q, q ≠ p → (abandonReport p s).port q = s.port q) := by
  obtain ⟨f, eq⟩ := abandonReport_modPort (s := s) p
  rw [eq]
  exact ⟨by simp, by simp, by simp [PoolKept], by simp [LinesKept], fun q apart => State.modPort_port_ne s p f apart⟩

theorem AttentionSound.abandonReport (h : AttentionSound s) (p : Port) : AttentionSound (abandonReport p s) :=
  (Books.abandonReport (refs := False) (bounded := False) ⟨.nodup, False.elim, h⟩ p).ports

/-- A circuit's report that is abandoned leaves the pending sets of the slots. -/
theorem abandonReport_slot_pend (reads : readsOwnCircuit p s = true) (n : Fin 16) :
    ((abandonReport p s).port p).pend[(Item.slot n).index] = (s.port p).pend[(Item.slot n).index] := by
  unfold readsOwnCircuit at reads
  cases report : (s.port p).report with
  | none => simp [report] at reads
  | some k =>
    rw [report] at reads
    obtain ⟨c, circuit⟩ : ∃ c, k.item = .circuit c := by
      cases item : k.item <;> simp_all
    by_cases given : k.merge = true ∧ givesBack p k.item s = true
    · have eq : abandonReport p s = s.modPort p fun r => { r.restore k.item k.events with report := none } := by
        rw [abandonReport, report]
        exact if_pos given
      rw [eq, State.modPort_port_self, circuit]
      exact (set_index_get _ (.circuit c) (.slot n) _).trans (if_neg (by simp))
    · have eq : abandonReport p s = s.modPort p fun r => { r with report := none } := by
        rw [abandonReport, report]
        exact if_neg given
      rw [eq, State.modPort_port_self]

end Abandonment

section PenChanges

variable {x : Port} {s t : State}

/-! ## PEN falls (R148, R149) -/

/-- The state in which a port whose PEN falls has freed its slots. -/
def State.unslotted (s : State) (x : Port) : State :=
  (allSixteen.foldl (fun s n => dropSlot { port := x, num := n } s)
    ((abandonReport x s).modPort x fun r => { r with enabled := false })).modPort x PortRecord.dropSlotItems

theorem fallPen_eq (x : Port) (s : State) :
    fallPen x s =
      if ((s.unslotted x).port (otherPort x)).enabled then transferAll x (otherPort x) (s.unslotted x)
      else s.unslotted x := by
  rw [fallPen, abandonReport_enabled]
  rfl

theorem otherPort_ne (x : Port) : otherPort x ≠ x := by cases x <;> simp [otherPort]

/-- What the freed slots leave, told from the abandoned report. -/
structure Unslotted (x : Port) (s u t : State) : Prop where
  hands : HandsAlike x (otherPort x) Item.notSlot u t
  other : t.port (otherPort x) = s.port (otherPort x)
  disabled : (t.port x).enabled = false ∧ (t.port x).report = none
  circuit : ∀ c, ∃ slot, t.circuit c = { s.circuit c with slot := slot }
  gone : ∀ n, SlotGone x n s t
  pend : ∀ n, (t.port x).pend[(Item.slot n).index] = EventSet.empty
  pool : PoolKept s t
  lines : LinesKept s t

theorem State.unslotted_spec (x : Port) (s : State) : Unslotted x s (abandonReport x s) (s.unslotted x) := by
  obtain ⟨circuits, groups, pool, lines, others⟩ := abandonReport_frame x s
  obtain ⟨report, -, -, -, -, -, -, -, slots⟩ := abandonReport_port (s := s) x
  unfold State.unslotted
  generalize abandonReport x s = u at circuits groups pool lines others report slots ⊢
  obtain ⟨dropped, gone, -⟩ := dropSlots_spec x (l := allSixteen) (List.nodup_finRange 16)
    (u.modPort x fun r => { r with enabled := false })
  generalize allSixteen.foldl (fun s n => dropSlot { port := x, num := n } s)
    (u.modPort x fun r => { r with enabled := false }) = v at dropped gone ⊢
  obtain ⟨pend, emptied⟩ := (v.port x).dropSlotItems_eq
  have own := dropped.own
  rw [State.modPort_port_self] at own
  have circuit : ∀ c, ∃ slot, v.circuit c = { s.circuit c with slot := slot } := fun c => by
    obtain ⟨slot, eq, -⟩ := dropped.circuit c
    exact ⟨slot, by rw [eq, State.modPort_circuit, State.circuit, circuits]; rfl⟩
  have here : (v.modPort x PortRecord.dropSlotItems).port x = (v.port x).dropSlotItems := State.modPort_port_self ..
  have slot : ∀ n, (v.modPort x PortRecord.dropSlotItems).slot { port := x, num := n } = v.slot { port := x, num := n } :=
    fun n => by rw [State.slot, here, emptied, State.slot]
  have there : (v.modPort x PortRecord.dropSlotItems).port (otherPort x) = s.port (otherPort x) := by
    rw [State.modPort_port_other, dropped.other, State.modPort_port_other, others _ (otherPort_ne x)]
  have pends : ∀ it : Item, ((v.modPort x PortRecord.dropSlotItems).port x).pend[it.index] =
      if it.notSlot then (u.port x).pend[it.index] else EventSet.empty := fun it => by
    rw [here]
    exact ((v.port x).dropSlotItems_pendOf it).trans (by rw [own]; rfl)
  exact {
    hands := {
      owner := fun c => by
        obtain ⟨slot, eq⟩ := circuit c
        rw [State.modPort_circuit, eq, State.circuit, State.circuit, circuits]
      dest := by rw [there, others _ (otherPort_ne x)]; exact ⟨rfl, rfl⟩
      listed := by rw [here, emptied, own]
      pend := fun it kept => (pends it).trans (if_pos kept) }
    other := there
    disabled := by rw [here, emptied, own]; exact ⟨rfl, report⟩
    circuit := fun c => by rw [State.modPort_circuit]; exact circuit c
    gone := fun n => by
      obtain ⟨free, waiting, seizing⟩ := gone n (List.mem_finRange n)
      have before : ∀ n, (u.modPort x fun r => { r with enabled := false }).slot { port := x, num := n } =
          s.slot { port := x, num := n } := fun n => by
        rw [State.slot, State.modPort_port_self, State.slot]
        exact congrArg (·[n]) slots
      rw [before] at waiting seizing
      exact ⟨(slot n).trans free, fun call digits eon expiry there => by
        rw [State.modPort_group]; exact waiting call digits eon expiry there, fun call c there => by
        rw [State.modPort_circuit]; exact seizing call c there⟩
    pend := fun n => (pends _).trans (if_neg (by simp [Item.notSlot]))
    pool := (pool.trans (PoolKept.trans (by simp [PoolKept]) dropped.pool)).trans (by simp [PoolKept])
    lines := (lines.trans (LinesKept.trans (by simp [LinesKept]) dropped.lines)).trans (by simp [LinesKept]) }

/-- What a fall of PEN leaves, whether or not the circuits pass. -/
structure Fallen (x : Port) (s t : State) : Prop where
  disabled : (t.port x).enabled = false ∧ (t.port x).report = none
  other : (t.port (otherPort x)).enabled = (s.port (otherPort x)).enabled
  gone : ∀ n, SlotGone x n s t
  items : ∀ n, (t.port x).pend[(Item.slot n).index] = EventSet.empty ∧ Item.slot n ∉ (t.port x).attention
  owner : ∀ c, (s.circuit c).owner ≠ some x → (t.circuit c).owner = (s.circuit c).owner
  circuit : ∀ c, (t.circuit c).state = (s.circuit c).state ∧ (t.circuit c).digits = (s.circuit c).digits ∧
    (t.circuit c).timer = (s.circuit c).timer
  pool : PoolKept s t
  lines : LinesKept s t

theorem Unslotted.fallen {u : State} (h : Unslotted x s u t) : Fallen x s t where
  disabled := h.disabled
  other := by rw [h.other]
  gone := h.gone
  items n := ⟨h.pend n, by rw [h.hands.listed]; simp [Item.notSlot]⟩
  owner c _ := by
    obtain ⟨slot, eq⟩ := h.circuit c
    rw [eq]
  circuit c := by
    obtain ⟨slot, eq⟩ := h.circuit c
    rw [eq]
    exact ⟨rfl, rfl, rfl⟩
  pool := h.pool
  lines := h.lines

theorem Fallen.passed {w : State} (h : Fallen x s w) (owners : ∀ c, (w.circuit c).owner = (s.circuit c).owner)
    (k : Passed x (otherPort x) (transferOrder x w) w t) : Fallen x s t := by
  obtain ⟨pendX, sourceX, heldX⟩ := k.source
  obtain ⟨pendY, destY, -⟩ := k.dest
  have circuit : ∀ c, ∃ owner, t.circuit c = { w.circuit c with owner := owner } ∧
      ((s.circuit c).owner ≠ some x → owner = (w.circuit c).owner) := fun c => by
    rw [k.circuit]
    split
    · next listed => exact ⟨_, rfl, fun other => absurd ((owners c).symm.trans (mem_transferOrder.mp listed)) other⟩
    · exact ⟨_, rfl, fun _ => rfl⟩
  exact {
    disabled := by rw [sourceX]; exact h.disabled
    other := by rw [destY]; exact h.other
    gone := fun n => by
      obtain ⟨free, waiting, seizing⟩ := h.gone n
      refine ⟨?_, fun call digits eon expiry there => ?_, fun call c there => ?_⟩
      · rw [State.slot, sourceX]
        exact free
      · rw [State.group, k.groups]
        exact waiting call digits eon expiry there
      · obtain ⟨owner, eq, -⟩ := circuit c
        rw [eq]
        exact seizing call c there
    items := fun n => by
      obtain ⟨empty, unlisted⟩ := h.items n
      rw [sourceX]
      exact ⟨(heldX _).trans ((if_neg (by simp)).trans empty), fun listed => unlisted (List.mem_filter.mp listed).1⟩
    owner := fun c other => by
      obtain ⟨owner, eq, kept⟩ := circuit c
      rw [eq]
      exact (kept other).trans (owners c)
    circuit := fun c => by
      obtain ⟨owner, eq, -⟩ := circuit c
      rw [eq]
      exact h.circuit c
    pool := h.pool.trans k.pool
    lines := h.lines.trans k.lines }

theorem Item.notSlot_eq : Item.notSlot = fun it => decide (∀ n, it ≠ .slot n) := by
  funext it
  cases it <;> simp [Item.notSlot]

theorem exec_penFall (awake : s.resetAsserted = false) (enabled : (s.port x).enabled = true) :
    exec (.penFall x) s = .next (fallPen x s) := (unlessReset_of _ awake).trans (by simp only [enabled, if_true])

theorem exec_penRise (awake : s.resetAsserted = false) (disabled : (s.port x).enabled = false) :
    exec (.penRise x) s = .next (risePen x s) := by
  refine (unlessReset_of (fun s => if (s.port x).enabled then s else risePen x s) awake).trans ?_
  simp [disabled]

/-! ## PEN rises (R150) -/

/-- The state whose circuits pass as PEN rises: a report read of one of them is abandoned. -/
def State.unread (s : State) (y : Port) : State := if readsOwnCircuit y s then abandonReport y s else s

structure Unread (y : Port) (s u : State) : Prop where
  circuits : u.circuits = s.circuits
  groups : u.groups = s.groups
  pool : PoolKept s u
  lines : LinesKept s u
  enabled : (u.port y).enabled = (s.port y).enabled
  slots : ∀ n, (u.port y).pend[(Item.slot n).index] = (s.port y).pend[(Item.slot n).index]
  once : (u.port y).attention.Nodup

theorem State.unread_spec (attention : AttentionSound s) (y : Port) : Unread y s (s.unread y) := by
  unfold State.unread
  split
  · next reads =>
    obtain ⟨circuits, groups, pool, lines, -⟩ := abandonReport_frame y s
    obtain ⟨-, enabled, -⟩ := abandonReport_port (s := s) y
    exact ⟨circuits, groups, pool, lines, enabled, abandonReport_slot_pend reads, attention.abandonReport y y⟩
  · exact ⟨rfl, rfl, .refl s, .refl s, rfl, fun _ => rfl, attention y⟩

theorem risePen_eq (x : Port) (s : State) :
    risePen x s =
      if (s.port (otherPort x)).enabled then s.modPort x fun r => { r with enabled := true }
      else transferAll (otherPort x) x
        ((s.unread (otherPort x)).modPort x fun r => { r with enabled := true }) := by
  have reads : readsOwnCircuit (otherPort x) (s.modPort x fun r => { r with enabled := true }) =
      readsOwnCircuit (otherPort x) s := by
    simp only [readsOwnCircuit, State.modPort_port_other, State.modPort_circuit]
  rw [risePen]
  simp only [State.modPort_port_other, reads, abandonReport_enabled, State.unread]
  split
  · rfl
  · split <;> rfl

/-- Settles O54: a fall frees the slots and passes the circuits, and a rise passes the circuits of a disabled port. -/
theorem penChangesMoveOwnership : Obligations.PenChangesMoveOwnership := by
  unfold Obligations.PenChangesMoveOwnership
  intro x s awake attention y
  refine ⟨fun enabled => ⟨_, exec_penFall awake enabled, ?_⟩, fun disabled => ⟨_, exec_penRise awake disabled, ?_⟩⟩
  · have w := s.unslotted_spec x
    have once : ((s.unslotted x).port x).attention.Nodup := by
      rw [w.hands.listed]
      exact (attention.abandonReport x x).filter _
    have owners : ∀ c, ((s.unslotted x).circuit c).owner = (s.circuit c).owner := fun c => by
      obtain ⟨slot, eq⟩ := w.circuit c
      rw [eq]
    have other : ((s.unslotted x).port (otherPort x)).enabled = (s.port y).enabled := by rw [w.other]
    rw [fallPen_eq, other]
    cases on : (s.port y).enabled with
    | true =>
      have passed := transferAll_passed (otherPort_ne x).symm once
      obtain ⟨transfers, listed⟩ := passed.transfers w.hands fun it h => by cases it <;> simp_all [Item.notSlot]
      rw [Item.notSlot_eq] at listed
      have fallen := w.fallen.passed owners passed
      rw [if_pos rfl]
      exact ⟨fallen.disabled.1, fallen.other.trans on, fallen.disabled.2,
        fun n => ⟨(fallen.gone n).free, fallen.items n⟩, fun n => (fallen.gone n).waiting,
        fun n => (fallen.gone n).seizing, ⟨fun _ => ⟨transfers, listed⟩, fun off => by simp at off⟩,
        fallen.owner, fallen.circuit, fallen.pool, fallen.lines⟩
    | false =>
      have fallen := w.fallen
      have listed := w.hands.listed
      have pend := w.hands.pend
      rw [Item.notSlot_eq] at listed pend
      rw [if_neg (by simp)]
      exact ⟨fallen.disabled.1, fallen.other.trans on, fallen.disabled.2,
        fun n => ⟨(fallen.gone n).free, fallen.items n⟩, fun n => (fallen.gone n).waiting,
        fun n => (fallen.gone n).seizing, ⟨fun off => by simp at off, fun _ => ⟨owners, w.other, listed, pend⟩⟩,
        fallen.owner, fallen.circuit, fallen.pool, fallen.lines⟩
  · rw [risePen_eq]
    cases on : (s.port y).enabled with
    | true =>
      rw [if_pos rfl, State.modPort_port_self]
      exact ⟨rfl, (congrArg _ (State.modPort_port_other ..)).trans on, fun _ => rfl, fun off => by simp at off,
        State.modPort_groups .., by simp [PoolKept], by simp [LinesKept]⟩
    | false =>
      have u := s.unread_spec attention y
      rw [if_neg (by simp)]
      have own : ((s.unread y).modPort x fun r => { r with enabled := true }).port y = (s.unread y).port y :=
        State.modPort_port_other ..
      have passed := transferAll_passed (otherPort_ne x)
        (s := (s.unread y).modPort x fun r => { r with enabled := true }) (by rw [own]; exact u.once)
      have hands : HandsAlike y x (fun _ => true) (s.unread y) ((s.unread y).modPort x fun r => { r with enabled := true }) := {
        owner := fun c => by rw [State.modPort_circuit]
        dest := by rw [State.modPort_port_self]; exact ⟨rfl, rfl⟩
        listed := by rw [own]; simp
        pend := fun it _ => by rw [own] }
      obtain ⟨transfers, listed⟩ := passed.transfers hands fun _ _ => rfl
      obtain ⟨pendX, sourceX, heldX⟩ := passed.source
      obtain ⟨pendY, destY, -⟩ := passed.dest
      refine ⟨by rw [destY, State.modPort_port_self], ?_, fun off => by simp at off, fun _ => ⟨transfers, ?_, fun n => ?_,
        fun c other => ?_⟩, ?_, ?_, ?_⟩
      · rw [sourceX, own]
        exact u.enabled.trans on
      · rw [listed]
        exact List.filter_congr fun it _ =>
          decide_eq_decide.mpr ⟨fun ⟨_, unowned⟩ => unowned, fun unowned => ⟨rfl, unowned⟩⟩
      · rw [sourceX]
        exact (heldX _).trans ((if_neg (by simp)).trans (by rw [own]; exact u.slots n))
      · have kept : ((s.unread y).modPort x fun r => { r with enabled := true }).circuit c = s.circuit c := by
          rw [State.modPort_circuit, State.circuit, u.circuits, State.circuit]
        rw [passed.circuit, if_neg fun listed => other (by rw [← kept]; exact mem_transferOrder.mp listed), kept]
      · exact passed.groups.trans ((State.modPort_groups ..).trans u.groups)
      · exact u.pool.trans (PoolKept.trans (by simp [PoolKept]) passed.pool)
      · exact u.lines.trans (LinesKept.trans (by simp [LinesKept]) passed.lines)

end PenChanges

end Sys2Proof.Machine

/-! PROOFS. RESTART CALLS (R39, R63, R87, R116, R173 to R175): each circuit's record after it, and what it empties. -/

namespace Sys2Proof.Machine

section Restarts

variable {s t : State} {c : Fin 96} {w : OrderWrite} {now : Time} {lead : Bool} {guardWait : Nat} {k r : Circuit}

/-! ## A circuit at the restart (R63, R87, R174) -/

/-- The record `r` that the restart at an instant leaves of the record `k`, with the lead's recognized condition and the
guard_wait of the circuit's group. -/
def Circuit.Cleared (now : Time) (lead : Bool) (guardWait : Nat) (k r : Circuit) : Prop :=
  r.unit = none ∧ r.unitReq = none ∧ r.slot = none ∧ r.group = k.group ∧ r.trunkNo = k.trunkNo ∧
  r.blockPending = k.blockPending ∧ r.digits = k.digits ∧ r.cause = k.cause ∧ r.answered = k.answered ∧
  (k.state = .outSeizing ∨ k.state = .outSending ∨ k.state = .outWaitAnswer ∨ k.state = .outAnswered ∨
      k.state = .outClearedBack →
    r.state = .outReleasing ∧ r.owner = none ∧ r.relTime = some now ∧ r.presentOn = lead ∧
    (if k.state = .outSeizing ∧ elapsed now k.seizeTime < k.minSeize then
      r.sup = k.sup ∧ r.timer = some { start := k.seizeTime, value := k.minSeize }
    else r.sup = .off ∧ r.timer = some { start := now, value := guardWait })) ∧
  (k.state = .inSeized ∨ k.state = .inReceiving ∨ k.state = .inHeld ∨ k.state = .inAnswered ∨
      k.state = .inClearedBack →
    r.state = .inHeld ∧ r.owner = none ∧ r.sup = .off ∧ r.ansDue = none ∧ r.timer = none ∧
    (k.ackPulse = .running → r.ackEnd = some now)) ∧
  (k.state = .outReleasing ∨ k.state = .inGuard →
    r = { k with owner := none, unit := none, unitReq := none, slot := none }) ∧
  (k.state = .unequipped ∨ k.state = .blocked ∨ k.state = .fault ∨ k.state = .idle ∨ k.state = .inPreseize →
    r = { k with unit := none, unitReq := none, slot := none })

/-- What a release by R57 and R58 leaves of a record. -/
theorem releaseForward_keeps (c : Fin 96) (s : State) :
    let r := (releaseForward c s).circuit c
    let k := s.circuit c
    r.group = k.group ∧ r.trunkNo = k.trunkNo ∧ r.blockPending = k.blockPending ∧ r.answered = k.answered := by
  unfold releaseForward
  simp only
  split <;> simp [State.startTimer_circuit, State.drive_circuit]

/-- An outgoing call at the restart clears forward without its owner. -/
theorem cleared_outgoing (forward : (s.circuit c).state.clearsForward = true) :
    (s.circuit c).Cleared s.timeBase (s.leadOn c) (s.par c .guardWait)
      (((releaseForward c (s.modCircuit c Circuit.unlinked)).modCircuit c fun k =>
        { k with owner := none }).circuit c) := by
  obtain ⟨state, relTime, -, unit, unitReq, slot, digits, -, -, cause, hold⟩ :=
    releaseForward_spec (s.modCircuit c Circuit.unlinked) c
  obtain ⟨group, trunkNo, blockPending, answered⟩ := releaseForward_keeps c (s.modCircuit c Circuit.unlinked)
  have present := releaseForward_presentOn c (s.modCircuit c Circuit.unlinked)
  have par : (s.modCircuit c Circuit.unlinked).par c .guardWait = s.par c .guardWait :=
    State.par_congr (s := s) (t := s.modCircuit c _) (by rw [State.modCircuit_circuit_self]; rfl) (fun _ => rfl) _
  rw [par] at hold
  simp only [State.modCircuit_circuit_self] at *
  refine ⟨unit, unitReq, slot, group, trunkNo, blockPending, digits, cause, answered,
    fun _ => ⟨state, rfl, relTime, present, hold⟩, fun incoming => ?_, fun releasing => ?_, fun resting => ?_⟩
  · obtain h | h | h | h | h := incoming <;> simp [h, CircuitState.clearsForward] at forward
  · obtain h | h := releasing <;> simp [h, CircuitState.clearsForward] at forward
  · obtain h | h | h | h | h := resting <;> simp [h, CircuitState.clearsForward] at forward

/-- An incoming call at the restart is held with its lead OFF. -/
theorem cleared_incoming (clearable : (s.circuit c).state.clearable = true) :
    (s.circuit c).Cleared s.timeBase (s.leadOn c) (s.par c .guardWait)
      ((holdAtRestart c (s.modCircuit c Circuit.unlinked)).circuit c) := by
  obtain ⟨pulse, sep, cut⟩ := cutAckPulse_circuit c (s.modCircuit c Circuit.unlinked)
  simp only [holdAtRestart, State.drive_circuit, State.modCircuit_circuit_self, cut, if_true]
  refine ⟨rfl, rfl, rfl, rfl, rfl, rfl, rfl, rfl, rfl, fun outgoing => ?_,
    fun _ => ⟨rfl, rfl, rfl, rfl, rfl, fun running => ?_⟩, fun releasing => ?_, fun resting => ?_⟩
  · obtain h | h | h | h | h := outgoing <;> simp [h, CircuitState.clearable] at clearable
  · simp [Circuit.cutEnd, Circuit.unlinked, running]
  · obtain h | h := releasing <;> simp [h, CircuitState.clearable] at clearable
  · obtain h | h | h | h | h := resting <;> simp [h, CircuitState.clearable] at clearable

/-- A circuit that releases or guards at the restart loses its owner and its links. -/
theorem cleared_released (releasing : (s.circuit c).state = .outReleasing ∨ (s.circuit c).state = .inGuard) :
    (s.circuit c).Cleared s.timeBase (s.leadOn c) (s.par c .guardWait)
      { s.circuit c with owner := none, unit := none, unitReq := none, slot := none } := by
  refine ⟨rfl, rfl, rfl, rfl, rfl, rfl, rfl, rfl, rfl, fun outgoing => ?_, fun incoming => ?_, fun _ => rfl,
    fun resting => ?_⟩ <;> obtain h | h := releasing <;> simp_all

/-- A circuit in no call at the restart loses its links alone. -/
theorem cleared_resting (resting : (s.circuit c).state = .unequipped ∨ (s.circuit c).state = .blocked ∨
      (s.circuit c).state = .fault ∨ (s.circuit c).state = .idle ∨ (s.circuit c).state = .inPreseize) :
    (s.circuit c).Cleared s.timeBase (s.leadOn c) (s.par c .guardWait) (s.circuit c).unlinked := by
  refine ⟨rfl, rfl, rfl, rfl, rfl, rfl, rfl, rfl, rfl, fun outgoing => ?_, fun incoming => ?_, fun releasing => ?_,
    fun _ => rfl⟩ <;> obtain h | h | h | h | h := resting <;> simp_all

/-- What the restart leaves of a circuit, by its state. -/
theorem restartCircuit_cleared (c : Fin 96) (s : State) :
    (s.circuit c).Cleared s.timeBase (s.leadOn c) (s.par c .guardWait) ((restartCircuit c s).circuit c) := by
  unfold restartCircuit
  extract_lets s1
  have state : (s1.circuit c).state = (s.circuit c).state := by simp [s1]
  rw [state]
  cases hs : (s.circuit c).state with
  | outSeizing | outSending | outWaitAnswer | outAnswered | outClearedBack =>
    exact cleared_outgoing (by simp [hs, CircuitState.clearsForward])
  | inSeized | inReceiving | inHeld | inAnswered | inClearedBack =>
    exact cleared_incoming (by simp [hs, CircuitState.clearable])
  | outReleasing | inGuard =>
    simp only [s1, State.modCircuit_circuit_self]
    exact cleared_released (by simp [hs])
  | unequipped | blocked | fault | idle | inPreseize =>
    simp only [s1, State.modCircuit_circuit_self]
    exact cleared_resting (by simp [hs])

/-! ## Every circuit at the restart -/

/-- Some circuits have been cleared, and nothing else is changed. -/
structure ClearedAll (done : List (Fin 96)) (s t : State) : Prop where
  groups : t.groups = s.groups
  pool : PoolKept s t
  lines : LinesKept s t
  ports : PortsKept s t
  cleared : ∀ c ∈ done,
    (s.circuit c).Cleared s.timeBase (s.leadOn c) (s.par c .guardWait) (t.circuit c)
  rest : ∀ c, c ∉ done → t.circuit c = s.circuit c

theorem ClearedAll.refl (s : State) : ClearedAll [] s s :=
  ⟨rfl, .refl s, .refl s, ⟨rfl, rfl⟩, by simp, fun _ _ => rfl⟩

theorem ClearedAll.next {done : List (Fin 96)} (h : ClearedAll done s t) (new : c ∉ done) :
    ClearedAll (c :: done) s (restartCircuit c t) := by
  obtain ⟨groups, pool, lines, ports, cleared, rest⟩ := h
  obtain ⟨f, eq, -⟩ := restartCircuit_alone c t
  have other : ∀ x, x ≠ c → (restartCircuit c t).circuit x = t.circuit x := fun x ne => by
    rw [eq, State.modCircuit_circuit_ne _ _ _ ne]
  have own := restartCircuit_cleared c t
  have par : t.par c .guardWait = s.par c .guardWait :=
    State.par_congr (by rw [rest c new]) (fun g => by rw [State.group, groups]; rfl) _
  obtain ⟨-, time, filters, -⟩ := id lines
  have lead : t.leadOn c = s.leadOn c := by rw [State.leadOn, State.filter, filters]; rfl
  rw [rest c new, par, lead, time] at own
  refine ⟨by rw [eq]; exact groups, by rw [eq]; exact pool, by rw [eq]; exact lines, by rw [eq]; exact ports,
    fun x member => ?_, fun x fresh => ?_⟩
  · obtain rfl | member := List.mem_cons.mp member
    · exact own
    · rw [other x fun h => new (h ▸ member)]
      exact cleared x member
  · obtain ⟨ne, fresh⟩ := not_or.mp (mt List.mem_cons.mpr fresh)
    rw [other x ne, rest x fresh]

theorem ClearedAll.foldl (l : List (Fin 96)) : ∀ {done : List (Fin 96)} {t : State}, ClearedAll done s t →
    (∀ c ∈ l, c ∉ done) → l.Nodup →
    ∃ all, (∀ c ∈ l, c ∈ all) ∧ (∀ c ∈ done, c ∈ all) ∧
      ClearedAll all s (l.foldl (fun s c => restartCircuit c s) t) := by
  induction l with
  | nil => exact fun h _ _ => ⟨_, by simp, fun _ member => member, h⟩
  | cons c l ih =>
    intro done t h new once
    obtain ⟨apart, once⟩ := List.nodup_cons.mp once
    obtain ⟨all, covers, old, cleared⟩ := ih (h.next (new c List.mem_cons_self)) (fun x member => by
      rw [List.mem_cons, not_or]
      exact ⟨fun eq => apart (eq ▸ member), new x (List.mem_cons_of_mem _ member)⟩) once
    refine ⟨all, fun x member => ?_, fun x member => old x (List.mem_cons_of_mem _ member), cleared⟩
    obtain rfl | member := List.mem_cons.mp member
    · exact old x List.mem_cons_self
    · exact covers x member

/-- RESTART CALLS clears every circuit of the emptied state. -/
theorem restartCircuits_cleared (s : State) :
    ∃ all, (∀ c, c ∈ all) ∧ ClearedAll all s (allCircuits.foldl (fun s c => restartCircuit c s) s) := by
  obtain ⟨all, covers, -, cleared⟩ :=
    ClearedAll.foldl allCircuits (.refl s) (by simp) (List.nodup_finRange 96)
  exact ⟨all, fun c => covers c (List.mem_finRange c), cleared⟩

/-! ## What the restart empties (R39, R116, R152, R175) -/

theorem emptyAtRestart_port (p : Port) (s : State) : (emptyAtRestart s).port p = (s.port p).restarted := by
  cases p <;> rfl

/-- The emptying leaves the guard_wait, the lead and the record of every circuit. -/
theorem emptyAtRestart_circuit (c : Fin 96) (s : State) : (emptyAtRestart s).circuit c = s.circuit c ∧
    (emptyAtRestart s).leadOn c = s.leadOn c ∧ (emptyAtRestart s).par c .guardWait = s.par c .guardWait :=
  ⟨rfl, rfl, State.par_congr (s := s) (t := emptyAtRestart s) rfl (fun g => by rw [emptyAtRestart_group]; rfl) _⟩

/-- A unit that serves is detached at the restart, and goes out of service if that was pending. -/
theorem DigitUnit.restarted_serving {k : DigitUnit} (free : k.state ≠ .free) (out : k.state ≠ .outOfService) :
    k.restarted.state = (if k.pendingOos then .outOfService else .free) ∧ k.restarted.pendingOos = false := by
  unfold DigitUnit.restarted
  cases h : k.state with
  | free => exact absurd h free
  | outOfService => exact absurd h out
  | sender _ | register _ => exact ⟨rfl, rfl⟩

/-- A unit that does not serve is left alone at the restart. -/
theorem DigitUnit.restarted_resting {k : DigitUnit} (h : k.state = .free ∨ k.state = .outOfService) :
    k.restarted = k := by
  unfold DigitUnit.restarted
  obtain h | h := h <;> rw [h]

end Restarts

/-- Settles O48: the state is emptied, and then every circuit is cleared on its own. -/
theorem restartClearsEveryCall : Obligations.RestartClearsEveryCall := by
  unfold Obligations.RestartClearsEveryCall
  intro w ws s sound ready
  obtain ⟨-, -, -, lines, other, -, -⟩ := orderStart_frame s w
  obtain ⟨time, circuit, group, unit, filter⟩ := orderStart_records s w
  have dropped : ((orderStart w s).port w.port).report = none := by
    obtain ⟨report, -⟩ := abandonReport_port (s.modPort w.port fun r => { r with wsel := true }) w.port
    simpa [orderStart, writeStart] using report
  obtain ⟨all, covers, groups, pool, lines', ports, cleared, -⟩ := restartCircuits_cleared (emptyAtRestart (orderStart w s))
  refine ⟨_, answers_of_body ready rfl, ?_⟩
  generalize allCircuits.foldl (fun s c => restartCircuit c s) (emptyAtRestart (orderStart w s)) = t at *
  have units : ∀ u, t.unit u = (s.unit u).restarted := fun u => by
    rw [State.unit, pool.1, ← unit, ← emptyAtRestart_unit]; rfl
  have port : ∀ p, t.port p = ((orderStart w s).port p).restarted := fun p => by
    rw [ports.port, emptyAtRestart_port]
  obtain ⟨-, regQueue, sndQueue, parked⟩ := pool
  refine ⟨fun c => ?_, fun g => ?_, fun u => ?_, regQueue, sndQueue, parked, fun p => ⟨fun n => ?_, ?_, fun it => ?_, ?_⟩,
    ?_, other, ?_⟩
  · have own := cleared c (covers c)
    obtain ⟨record, lead, par⟩ := emptyAtRestart_circuit c (orderStart w s)
    have lead' : (orderStart w s).leadOn c = s.leadOn c := by rw [State.leadOn, filter]; rfl
    rw [record, lead, par, circuit, lead', orderStart_par] at own
    rw [← time]
    exact own
  · rw [← group g, ← emptyAtRestart_group, State.group, groups]
    rfl
  · rw [units]
    exact ⟨DigitUnit.restarted_circuit (sound.unattached u), DigitUnit.restarted_resting,
      DigitUnit.restarted_serving⟩
  · rw [State.slot, port]
    simp [PortRecord.restarted]
  · rw [port]
    rfl
  · rw [port]
    simp [PortRecord.restarted]
  · rw [port]
    rfl
  · rw [port, PortRecord.restarted, dropped]
    rfl
  · exact lines.trans lines'

end Sys2Proof.Machine

/-! PROOFS. The pairs of a CONFIGURE GROUP (R21, R184): what test 2 lets pass, and what the pairs then carry. -/

namespace Sys2Proof.Machine

section Pairs

variable {α : Type} {p : Param} {k k' : GroupChange} {sel v n : Nat} {ws : List Word} {ps done rest : List (Nat × Nat)}

/-! ## The codes of the fields (R184) -/

theorem directionOf_eq (v : Nat) : directionOf v = [Direction.none, .outgoing, .incoming, .bothway][v]? := by
  match v with
  | 0 | 1 | 2 | 3 => rfl
  | _ + 4 => rfl

theorem startModeOf_eq (v : Nat) : startModeOf v = [StartMode.ackStart, .timedStart][v]? := by
  match v with
  | 0 | 1 => rfl
  | _ + 2 => rfl

theorem huntModeOf_eq (v : Nat) : huntModeOf v = [HuntMode.lowFirst, .highFirst, .longestIdle][v]? := by
  match v with
  | 0 | 1 | 2 => rfl
  | _ + 3 => rfl

theorem glareRuleOf_eq (v : Nat) :
    glareRuleOf v = [GlareRule.priorityAll, .priorityNone, .priorityEven, .priorityOdd][v]? := by
  match v with
  | 0 | 1 | 2 | 3 => rfl
  | _ + 4 => rfl

theorem distributionOf_eq (v : Nat) : distributionOf v = [Distribution.fixedA, .fixedB, .alternate][v]? := by
  match v with
  | 0 | 1 | 2 => rfl
  | _ + 3 => rfl

theorem Param.ofSelector_index (p : Param) : Param.ofSelector (8 + p.index.val) = some p := by
  cases p <;> rfl

theorem Param.ofSelector_eq_some : Param.ofSelector n = some p ↔ n = 8 + p.index.val := by
  refine ⟨fun h => ?_, fun h => by rw [h, Param.ofSelector_index]⟩
  unfold Param.ofSelector at h
  split at h
  · cases h
  · next low =>
    obtain ⟨i, rfl⟩ : ∃ i, n = 8 + i := ⟨n - 8, by omega⟩
    have inside := (List.getElem?_eq_some_iff.mp h).1
    have small : i < 33 := by rw [Nat.add_sub_cancel_left] at inside; exact inside
    rw [Nat.add_sub_cancel_left] at h
    interval_cases i <;> cases h <;> rfl

theorem Param.ofSelector_eq_none : Param.ofSelector n = none ↔ n < 8 ∨ 40 < n := by
  have length : Param.all.length = 33 := rfl
  unfold Param.ofSelector
  split
  · next low => simp [low]
  · rw [List.getElem?_eq_none_iff, length]
    omega

theorem Param.isSwitch_iff (p : Param) : p.isSwitch = true ↔ 36 ≤ 8 + p.index.val ∧ 8 + p.index.val ≤ 38 := by
  cases p <;> decide

/-! ## The pairs as numbers (R184) -/

/-- The pairs of an order's words, each a selector and a value. -/
def pairsOf : List Word → List (Nat × Nat)
  | sel :: v :: rest => (field sel 7 0, v.toNat) :: pairsOf rest
  | _ => []

theorem carryPairs_eq (ws : List Word) : ∀ k : GroupChange,
    carryPairs ws k = (pairsOf ws).foldlM (fun k x => carryPair k x.1 x.2) k := by
  induction ws using pairsOf.induct with
  | case1 sel v rest ih =>
    intro k
    rw [carryPairs, pairsOf, List.foldlM_cons]
    cases carryPair k (field sel 7 0) v.toNat with
    | none => rfl
    | some k => exact ih k
  | case2 ws short =>
    intro k
    match ws with
    | [] | [_] => rfl
    | sel :: v :: rest => exact absurd rfl (short sel v rest)

theorem pairsOf_getElem? (ws : List Word) : ∀ j : Nat, (pairsOf ws)[j]? =
    if 2 * j + 1 < ws.length then some (field (wordAt ws (2 * j)) 7 0, (wordAt ws (2 * j + 1)).toNat) else none := by
  induction ws using pairsOf.induct with
  | case1 a b rest ih =>
    intro j
    cases j with
    | zero => simp [pairsOf, wordAt]
    | succ j =>
      have length : 2 * (j + 1) + 1 < (a :: b :: rest).length ↔ 2 * j + 1 < rest.length := by
        simp only [List.length_cons]; omega
      rw [pairsOf, List.getElem?_cons_succ, ih, if_congr length rfl rfl]
      rfl
  | case2 ws short =>
    intro j
    match ws with
    | [] | [_] => simp [pairsOf]
    | a :: b :: rest => exact absurd rfl (short a b rest)

theorem pairAt_iff (ws : List Word) (j sel v : Nat) : PairAt ws j sel v ↔ (pairsOf (ws.drop 2))[j]? = some (sel, v) := by
  have word : ∀ i, wordAt (ws.drop 2) i = wordAt ws (i + 2) := fun i => by
    simp [wordAt, List.getD, Nat.add_comm]
  rw [pairsOf_getElem?, word, word, List.length_drop]
  unfold PairAt
  split
  · simp only [Option.some.injEq, Prod.mk.injEq, show 2 * j + 1 + 2 = 2 * j + 3 from rfl]
    exact and_iff_right (by omega)
  · simp only [reduceCtorEq, iff_false]
    omega

/-- Test 2 of R21 on the pairs. -/
theorem pairsBad_iff (ws : List Word) : PairsBad ws ↔
    (∃ x ∈ pairsOf (ws.drop 2), ¬ PairAllowed x.1 x.2) ∨ ¬ ((pairsOf (ws.drop 2)).map Prod.fst).Nodup := by
  simp only [PairsBad, pairAt_iff]
  generalize pairsOf (ws.drop 2) = ps
  refine or_congr ⟨?_, ?_⟩ ⟨?_, ?_⟩
  · rintro ⟨j, sel, v, here, bad⟩
    exact ⟨_, List.mem_of_getElem? here, bad⟩
  · rintro ⟨⟨sel, v⟩, member, bad⟩
    obtain ⟨j, here⟩ := List.getElem?_of_mem member
    exact ⟨j, sel, v, here, bad⟩
  · rintro ⟨i, j, sel, v, v', ne, first, second⟩ once
    obtain ⟨lt_i, at_i⟩ := List.getElem?_eq_some_iff.mp (show (ps.map Prod.fst)[i]? = some sel by simp [first])
    obtain ⟨lt_j, at_j⟩ := List.getElem?_eq_some_iff.mp (show (ps.map Prod.fst)[j]? = some sel by simp [second])
    exact ne (once.getElem_inj_iff.mp (at_i.trans at_j.symm))
  · intro twice
    rw [List.nodup_iff_getElem?_ne_getElem?] at twice
    push Not at twice
    obtain ⟨i, j, lt, inside, same⟩ := twice
    obtain ⟨⟨sel, v'⟩, at_j⟩ : ∃ y, ps[j]? = some y :=
      ⟨_, List.getElem?_eq_getElem (by simpa using inside)⟩
    rw [List.getElem?_map, List.getElem?_map, at_j, Option.map_some, Option.map_eq_some_iff] at same
    obtain ⟨⟨sel', v⟩, at_i, rfl⟩ := same
    exact ⟨i, j, sel', v, v', lt.ne, at_i, at_j⟩

/-! ## What the pairs carry -/

/-- A structural field that pairs carry. -/
def CarriedBy (ps : List (Nat × Nat)) (sel : Nat) (table : List α) (carried : Option α) : Prop :=
  ∀ x, carried = some x ↔ ∃ v, (sel, v) ∈ ps ∧ Coded table x v

/-- Everything that pairs carry. -/
structure Carried (ps : List (Nat × Nat)) (k : GroupChange) : Prop where
  direction : CarriedBy ps 1 [Direction.none, .outgoing, .incoming, .bothway] k.direction
  startMode : CarriedBy ps 2 [StartMode.ackStart, .timedStart] k.startMode
  huntMode : CarriedBy ps 3 [HuntMode.lowFirst, .highFirst, .longestIdle] k.huntMode
  glareRule : CarriedBy ps 4 [GlareRule.priorityAll, .priorityNone, .priorityEven, .priorityOdd] k.glareRule
  distribution : CarriedBy ps 5 [Distribution.fixedA, .fixedB, .alternate] k.distribution
  params : ∀ (p : Param) (v : Nat), (p, v) ∈ k.params ↔ (8 + p.index.val, v) ∈ ps

theorem Carried.empty : Carried [] GroupChange.empty := by
  constructor <;> simp [CarriedBy, GroupChange.empty]

theorem Carried.carries (h : Carried (pairsOf (ws.drop 2)) k) : Carries ws k := by
  have carries : ∀ {α : Type} {sel : Nat} {table : List α} {carried : Option α},
      CarriedBy (pairsOf (ws.drop 2)) sel table carried → CarriesField ws sel table carried := by
    intro α sel table carried by_ x
    rw [by_ x]
    simp only [pairAt_iff, List.mem_iff_getElem?]
    exact ⟨fun ⟨v, ⟨j, here⟩, code⟩ => ⟨j, v, here, code⟩, fun ⟨j, v, here, code⟩ => ⟨v, ⟨j, here⟩, code⟩⟩
  refine ⟨carries h.direction, carries h.startMode, carries h.huntMode, carries h.glareRule, carries h.distribution,
    fun p v => ?_⟩
  simp only [pairAt_iff, h.params p v, List.mem_iff_getElem?]

/-- A pair with another selector leaves what a field carries. -/
theorem CarriedBy.other {table : List α} {carried : Option α} {at_ : Nat} (h : CarriedBy done at_ table carried)
    (ne : at_ ≠ sel) : CarriedBy (done ++ [(sel, v)]) at_ table carried := by
  intro x
  rw [h x]
  simp [ne]

/-- A pair for a field leaves the parameters that are carried. -/
theorem Carried.params_field (h : Carried done k) (low : sel < 8) (p : Param) (u : Nat) :
    (p, u) ∈ k.params ↔ (8 + p.index.val, u) ∈ done ++ [(sel, v)] := by
  simp [h.params]
  omega

/-- What taking one pair more comes to: it passes test 2 and is carried, or it fails it. -/
def PairTaken (done : List (Nat × Nat)) (sel v : Nat) (o : Option GroupChange) : Prop :=
  (∀ k, o = some k → PairAllowed sel v ∧ sel ∉ done.map Prod.fst ∧ Carried (done ++ [(sel, v)]) k) ∧
    (o = none → ¬ PairAllowed sel v ∨ sel ∈ done.map Prod.fst)

/-- A structural field is taken once, with a code that the table has. -/
theorem pairTaken_field {table : List α} {held : Option α} {store : α → GroupChange}
    (carried : CarriedBy done sel table held) (passed : ∀ x ∈ done, PairAllowed x.1 x.2)
    (allowed : ∀ v, PairAllowed sel v ↔ v < table.length)
    (stores : ∀ x, CarriedBy (done ++ [(sel, v)]) sel table (some x) → Carried (done ++ [(sel, v)]) (store x)) :
    PairTaken done sel v ((carryOnce held table[v]?).map store) := by
  cases held with
  | some x =>
    obtain ⟨u, member, -⟩ := (carried x).mp rfl
    exact ⟨fun k stored => by simp [carryOnce] at stored, fun _ => .inr (List.mem_map.mpr ⟨_, member, rfl⟩)⟩
  | none =>
    have fresh : ∀ u, (sel, u) ∉ done := fun u member => by
      have low := (allowed u).mp (passed _ member)
      have coded : Coded table table[u] u := List.getElem?_eq_getElem low
      simpa using (carried table[u]).mpr ⟨u, member, coded⟩
    refine ⟨fun k stored => ?_, fun refused => .inl fun pass => ?_⟩
    · obtain ⟨x, code, rfl⟩ := Option.map_eq_some_iff.mp stored
      have code : table[v]? = some x := code
      refine ⟨(allowed v).mpr (List.getElem?_eq_some_iff.mp code).1, by simpa using fresh, stores x fun y => ?_⟩
      simp [fresh, Coded, code]
    · have low := (allowed v).mp pass
      simp [carryOnce, low] at refused

/-- A parameter is taken once, and a switch with the value 0 or 1 alone. -/
theorem pairTaken_param (h : Carried done k) (named : sel = 8 + p.index.val) :
    PairTaken done sel v (carryParam k p v) := by
  subst named
  have index := p.index.isLt
  have held : (k.params.any fun x => x.1 = p) = true ↔ 8 + p.index.val ∈ done.map Prod.fst := by
    simp [h.params]
  have allowed : PairAllowed (8 + p.index.val) v ↔ ¬ (p.isSwitch = true ∧ 1 < v) := by
    rw [Param.isSwitch_iff, PairAllowed]
    omega
  unfold carryParam
  split
  · next refused =>
    refine ⟨by simp, fun _ => ?_⟩
    rw [held] at refused
    rw [allowed]
    tauto
  · next passes =>
    rw [held] at passes
    obtain ⟨fresh, low⟩ := not_or.mp passes
    refine ⟨fun k' stored => ⟨allowed.mpr low, fresh, ?_⟩, by simp⟩
    obtain rfl := Option.some.inj stored
    refine ⟨h.direction.other (by omega), h.startMode.other (by omega), h.huntMode.other (by omega),
      h.glareRule.other (by omega), h.distribution.other (by omega), fun q u => ?_⟩
    have same : q = p ↔ q.index.val = p.index.val :=
      ⟨fun e => by rw [e], fun e => Param.index_injective (Fin.ext e)⟩
    simp [h.params, same]

theorem pairTaken_carryPair (h : Carried done k) (passed : ∀ x ∈ done, PairAllowed x.1 x.2) :
    PairTaken done sel v (carryPair k sel v) := by
  unfold carryPair
  split
  · rw [directionOf_eq]
    refine pairTaken_field h.direction passed (by simp [PairAllowed]; omega) fun x carried => ?_
    exact ⟨carried, h.startMode.other (by decide), h.huntMode.other (by decide), h.glareRule.other (by decide),
      h.distribution.other (by decide), h.params_field (by decide)⟩
  · rw [startModeOf_eq]
    refine pairTaken_field h.startMode passed (by simp [PairAllowed]) fun x carried => ?_
    exact ⟨h.direction.other (by decide), carried, h.huntMode.other (by decide), h.glareRule.other (by decide),
      h.distribution.other (by decide), h.params_field (by decide)⟩
  · rw [huntModeOf_eq]
    refine pairTaken_field h.huntMode passed (by simp [PairAllowed]; omega) fun x carried => ?_
    exact ⟨h.direction.other (by decide), h.startMode.other (by decide), carried, h.glareRule.other (by decide),
      h.distribution.other (by decide), h.params_field (by decide)⟩
  · rw [glareRuleOf_eq]
    refine pairTaken_field h.glareRule passed (by simp [PairAllowed]; omega) fun x carried => ?_
    exact ⟨h.direction.other (by decide), h.startMode.other (by decide), h.huntMode.other (by decide), carried,
      h.distribution.other (by decide), h.params_field (by decide)⟩
  · rw [distributionOf_eq]
    refine pairTaken_field h.distribution passed (by simp [PairAllowed]; omega) fun x carried => ?_
    exact ⟨h.direction.other (by decide), h.startMode.other (by decide), h.huntMode.other (by decide),
      h.glareRule.other (by decide), carried, h.params_field (by decide)⟩
  · next not1 not2 not3 not4 not5 =>
    split
    · next p named => exact pairTaken_param h (Param.ofSelector_eq_some.mp named)
    · next unnamed =>
      have apart := Param.ofSelector_eq_none.mp unnamed
      refine ⟨by simp, fun _ => .inl ?_⟩
      rintro (⟨is, -⟩ | ⟨is, -⟩ | ⟨is, -⟩ | ⟨is, -⟩ | ⟨is, -⟩ | ⟨low, high, -⟩)
      exacts [not1 is, not2 is, not3 is, not4 is, not5 is, by omega]

/-- All the pairs are taken in turn: they pass test 2 and are carried, or they fail it. -/
theorem pairsTaken (rest : List (Nat × Nat)) : ∀ {done : List (Nat × Nat)} {k : GroupChange}, Carried done k →
    (∀ x ∈ done, PairAllowed x.1 x.2) → (done.map Prod.fst).Nodup →
    (∀ k', rest.foldlM (fun k x => carryPair k x.1 x.2) k = some k' → Carried (done ++ rest) k' ∧
      (∀ x ∈ done ++ rest, PairAllowed x.1 x.2) ∧ ((done ++ rest).map Prod.fst).Nodup) ∧
    (rest.foldlM (fun k x => carryPair k x.1 x.2) k = none →
      (∃ x ∈ done ++ rest, ¬ PairAllowed x.1 x.2) ∨ ¬ ((done ++ rest).map Prod.fst).Nodup) := by
  induction rest with
  | nil =>
    intro done k carried passed once
    simp only [List.foldlM_nil, List.append_nil]
    exact ⟨fun k' taken => by obtain rfl := Option.some.inj taken; exact ⟨carried, passed, once⟩, by simp⟩
  | cons x rest ih =>
    intro done k carried passed once
    obtain ⟨sel, v⟩ := x
    obtain ⟨taken, refused⟩ := pairTaken_carryPair (sel := sel) (v := v) carried passed
    rw [List.foldlM_cons]
    cases step : carryPair k sel v with
    | none =>
      refine ⟨by simp, fun _ => ?_⟩
      obtain bad | twice := refused step
      · exact .inl ⟨(sel, v), by simp, bad⟩
      · refine .inr fun nodup => ?_
        rw [List.map_append, List.nodup_append] at nodup
        exact nodup.2.2 sel twice sel (by simp) rfl
    | some k1 =>
      obtain ⟨allowed, fresh, carried1⟩ := taken k1 step
      have next := ih carried1
        (fun x member => (List.mem_append.mp member).elim (passed x) fun new => by
          rw [List.mem_singleton.mp new]; exact allowed)
        (by rw [List.map_append]; exact once.append (List.nodup_singleton sel) (by simpa using fresh))
      rw [List.append_assoc] at next
      exact next

/-- Pairs that pass test 2 are carried. -/
theorem carryPairs_carries (good : ¬ PairsBad ws) :
    ∃ k, carryPairs (ws.drop 2) GroupChange.empty = some k ∧ Carried (pairsOf (ws.drop 2)) k ∧
      ((pairsOf (ws.drop 2)).map Prod.fst).Nodup := by
  rw [pairsBad_iff] at good
  obtain ⟨taken, refused⟩ := pairsTaken (pairsOf (ws.drop 2)) .empty (by simp) (by simp)
  rw [carryPairs_eq]
  cases all : (pairsOf (ws.drop 2)).foldlM (fun k x => carryPair k x.1 x.2) GroupChange.empty with
  | none => exact absurd (refused all) good
  | some k =>
    obtain ⟨carried, -, once⟩ := taken k all
    exact ⟨k, rfl, carried, once⟩

/-- Pairs that fail test 2 are refused. -/
theorem carryPairs_refuses (bad : PairsBad ws) : carryPairs (ws.drop 2) GroupChange.empty = none := by
  rw [pairsBad_iff] at bad
  obtain ⟨taken, -⟩ := pairsTaken (pairsOf (ws.drop 2)) .empty (by simp) (by simp)
  rw [carryPairs_eq]
  refine Option.eq_none_iff_forall_ne_some.mpr fun k all => ?_
  obtain ⟨-, allowed, once⟩ := taken k all
  obtain ⟨x, member, not⟩ | twice := bad
  · exact not (allowed x member)
  · exact twice once

/-- A parameter is carried with one value. -/
theorem Carried.params_unique (h : Carried ps k) (once : (ps.map Prod.fst).Nodup) {u : Nat}
    (first : (p, v) ∈ k.params) (second : (p, u) ∈ k.params) : v = u :=
  congrArg Prod.snd (List.inj_on_of_nodup_map once ((h.params p v).mp first) ((h.params p u).mp second) rfl)

end Pairs

end Sys2Proof.Machine

/-! PROOFS. What a CONFIGURE GROUP does to the circuits of its group: the parked senders that it detaches (R114), and the IDLE
members that it takes into IN_PRESEIZE (R22). -/

namespace Sys2Proof.Machine

section Parked

variable {u : Fin 16} {c : Fin 96} {l : List (Fin 16)} {s t : State}

/-! ## Parked senders detached in turn (R22, R114) -/

/-- A unit as a detachment leaves it while no request waits (R109). -/
def DigitUnit.freed (k : DigitUnit) : DigitUnit :=
  { k.detached with state := if k.pendingOos then .outOfService else .free, pendingOos := false }

/-- Some units have been detached while no request waits. -/
structure Freed (l : List (Fin 16)) (s t : State) : Prop where
  circuit : ∀ c, t.circuit c =
    if ∃ u ∈ l, (s.unit u).circuit = some c then { s.circuit c with unit := none } else s.circuit c
  unit : ∀ u, t.unit u = if u ∈ l then (s.unit u).freed else s.unit u
  parked : t.parked = s.parked.filter fun u => u ∉ l
  regQueue : t.regQueue = s.regQueue
  sndQueue : t.sndQueue = s.sndQueue
  groups : t.groups = s.groups
  ports : PortsKept s t
  lines : LinesKept s t

theorem Freed.refl (s : State) : Freed [] s s :=
  ⟨by simp, by simp, by simp, rfl, rfl, rfl, ⟨rfl, rfl⟩, .refl s⟩

/-- One unit detached while no request waits. -/
theorem freed_detach (u : Fin 16) (reg : s.regQueue = []) (snd : s.sndQueue = []) : Freed [u] s (detach u s) := by
  obtain ⟨own, others, circuit, parked, reg', snd', groups, ports, lines⟩ := unlinkUnit_spec s u
  obtain ⟨groups', ports', lines'⟩ := detach_frame s u
  have record : (detach u s).unit u = (s.unit u).freed := by
    rw [detach_of_empty s u reg snd]
    cases pending : (s.unit u).pendingOos with
    | true => simp [own, DigitUnit.freed, pending]
    | false => simp [own, DigitUnit.freed, pending, DigitUnit.detached]
  have other : ∀ v, v ≠ u → (detach u s).unit v = s.unit v := fun v ne => by
    rw [detach_of_empty s u reg snd]
    split
    · rw [State.modUnit_unit_ne _ _ _ ne, others v ne]
    · exact others v ne
  have rest : (detach u s).circuits = (unlinkUnit u s).circuits ∧ (detach u s).parked = (unlinkUnit u s).parked ∧
      (detach u s).regQueue = (unlinkUnit u s).regQueue ∧ (detach u s).sndQueue = (unlinkUnit u s).sndQueue := by
    rw [detach_of_empty s u reg snd]
    split <;> exact ⟨rfl, rfl, rfl, rfl⟩
  obtain ⟨circuits, parked', reg'', snd''⟩ := rest
  refine ⟨fun c => ?_, fun v => ?_, ?_, reg''.trans reg', snd''.trans snd', groups', ports', lines'⟩
  · rw [State.circuit, circuits]
    exact (circuit c).trans (by simp)
  · by_cases same : v = u
    · subst same
      simpa using record
    · simpa [same] using other v same
  · rw [parked', parked]
    simp

theorem Freed.next (h : Freed [u] s t) {v : State} (rest : Freed l t v) (fresh : u ∉ l) : Freed (u :: l) s v := by
  have kept : ∀ x ∈ l, t.unit x = s.unit x := fun x member => by
    rw [h.unit, if_neg]
    simpa using fun same : x = u => fresh (same ▸ member)
  refine ⟨fun c => ?_, fun x => ?_, ?_, rest.regQueue.trans h.regQueue, rest.sndQueue.trans h.sndQueue,
    rest.groups.trans h.groups, h.ports.trans rest.ports, h.lines.trans rest.lines⟩
  · have served : (∃ x ∈ l, (t.unit x).circuit = some c) ↔ ∃ x ∈ l, (s.unit x).circuit = some c :=
      exists_congr fun x => and_congr_right fun member => by rw [kept x member]
    rw [rest.circuit, h.circuit, if_congr served rfl rfl]
    by_cases own : (s.unit u).circuit = some c <;> by_cases later : ∃ x ∈ l, (s.unit x).circuit = some c <;>
      simp [own, later]
  · rw [rest.unit]
    by_cases member : x ∈ l
    · simp [member, kept x member]
    · rw [if_neg member, h.unit]
      simp [member]
  · rw [rest.parked, h.parked, List.filter_filter]
    refine List.filter_congr fun x _ => ?_
    by_cases same : x = u <;> simp [same]

theorem freed_foldl (l : List (Fin 16)) : ∀ {s : State}, s.regQueue = [] → s.sndQueue = [] → l.Nodup →
    Freed l s (l.foldl (fun s u => detach u s) s) := by
  induction l with
  | nil => exact fun _ _ _ => .refl _
  | cons u l ih =>
    intro s reg snd once
    obtain ⟨fresh, once⟩ := List.nodup_cons.mp once
    have first := freed_detach u reg snd
    exact first.next (ih (first.regQueue.trans reg) (first.sndQueue.trans snd) once) fresh

/-- The senders parked on the circuits of a group. -/
def State.parkedSenders (s : State) (g : Fin 8) : List (Fin 16) := s.parked.filter (parkedOn g s)

theorem mem_parkedSenders {g : Fin 8} : u ∈ s.parkedSenders g ↔
    u ∈ s.parked ∧ ∃ c, (s.unit u).circuit = some c ∧ (s.circuit c).group = some g := by
  rw [State.parkedSenders, List.mem_filter, parkedOn]
  cases (s.unit u).circuit <;> simp

/-- With no parked sender on the group, or none that waits for a unit elsewhere, the senders are detached as they stand. -/
theorem freed_parkedSenders (once : s.parked.Nodup) (idle : s.parked ≠ [] → s.regQueue = [] ∧ s.sndQueue = []) (g : Fin 8) :
    Freed (s.parkedSenders g) s ((s.parkedSenders g).foldl (fun s u => detach u s) s) := by
  by_cases none_ : s.parked = []
  · simpa [State.parkedSenders, none_] using Freed.refl s
  · obtain ⟨reg, snd⟩ := idle none_
    exact freed_foldl _ reg snd (once.filter _)

end Parked

section Turned

variable {g : Fin 8} {c : Fin 96} {l : List (Fin 96)} {s t : State}

/-! ## Members taken into IN_PRESEIZE (R22) -/

/-- Some members of a group have been taken into IN_PRESEIZE. -/
structure Turned (g : Fin 8) (l : List (Fin 96)) (s t : State) : Prop where
  taken : ∀ c ∈ l, Preseizes (s.group g) c s t ∧ (t.circuit c).owner = (s.circuit c).owner
  circuits : CircuitsKept l s t
  group : t.group g = { s.group g with idle := (s.group g).idle.filter fun c => c ∉ l }
  groups : GroupsKept [g] s t
  pool : PoolKept s t
  ports : PortsKept s t
  lines : LinesKept s t

theorem Turned.refl (g : Fin 8) (s : State) : Turned g [] s s :=
  ⟨by simp, fun _ _ => rfl, by simp, fun _ _ => rfl, .refl s, ⟨rfl, rfl⟩, .refl s⟩

theorem turned_foldl (g : Fin 8) (l : List (Fin 96)) : ∀ {s : State}, (∀ c ∈ l, (s.circuit c).group = some g) → l.Nodup →
    Turned g l s (l.foldl (fun s c => enterPreseize c s) s) := by
  induction l with
  | nil => exact fun _ _ => .refl g _
  | cons c l ih =>
    intro s members once
    obtain ⟨fresh, once⟩ := List.nodup_cons.mp once
    have member := members c List.mem_cons_self
    obtain ⟨group, groups, circuits, pool, ports, lines⟩ := enterPreseize_frame member
    have other : ∀ x ∈ l, (enterPreseize c s).circuit x = s.circuit x := fun x h =>
      circuits x (by simpa using fun same : x = c => fresh (same ▸ h))
    have rest := ih (s := enterPreseize c s)
      (fun x h => by rw [other x h]; exact members x (List.mem_cons_of_mem _ h)) once
    obtain ⟨-, time, -⟩ := id lines
    refine ⟨fun x h => ?_, fun x h => ?_, ?_, groups.trans rest.groups, pool.trans rest.pool, ports.trans rest.ports,
      lines.trans rest.lines⟩
    · obtain rfl | later := List.mem_cons.mp h
      · have own := rest.circuits x fresh
        exact ⟨(preseizes_enterPreseize member).congr own rfl, by rw [List.foldl_cons, own, enterPreseize_owner]⟩
      · obtain ⟨preseizes, owner⟩ := rest.taken x later
        rw [other x later] at owner
        refine ⟨?_, owner⟩
        have moved := preseizes.congr (s1 := s) rfl time.symm
        rw [group] at moved
        exact moved
    · obtain ⟨ne, later⟩ := not_or.mp (mt List.mem_cons.mpr h)
      exact (rest.circuits x later).trans (circuits x (by simpa using ne))
    · have idle : ((s.group g).idle.filter fun d => d ≠ c).filter (fun d => d ∉ l) =
          (s.group g).idle.filter fun d => d ∉ c :: l := by
        rw [List.filter_filter]
        refine List.filter_congr fun x _ => ?_
        by_cases same : x = c <;> simp [same]
      rw [List.foldl_cons, rest.group, group, ← idle]

/-- The members that a group's turn to incoming calls takes: IDLE, with the lead ON. -/
def State.turning (s : State) (g : Fin 8) : List (Fin 96) :=
  (s.members g).filter fun c => (s.circuit c).state = .idle ∧ s.leadOn c

theorem mem_turning : c ∈ s.turning g ↔
    (s.circuit c).group = some g ∧ (s.circuit c).state = .idle ∧ (s.filter c).recCond = .on := by
  simp [State.turning, mem_members, State.leadOn]

theorem turned_turning (s : State) (g : Fin 8) :
    Turned g (s.turning g) s ((s.turning g).foldl (fun s c => enterPreseize c s) s) :=
  turned_foldl g _ (fun _ h => (mem_turning.mp h).1) (((List.nodup_finRange 96).filter _).filter _)

end Turned

end Sys2Proof.Machine

/-! PROOFS. What a CONFIGURE GROUP stores in its group (R16, R21, R22), its tests (R21), and what it does to the group's
reference (R130, R131). -/

namespace Sys2Proof.Machine

section Fields

variable {p : Param} {v : Nat} {g : Fin 8} {k : GroupChange} {old : Group} {s : State}

/-! ## Parameters stored (R16, R21) -/

theorem storeAll_other (l : List (Param × Nat)) : ∀ (ps : Params), (∀ x ∈ l, x.1 ≠ p) →
    (l.foldl (fun ps x => ps.set x.1.index (x.1.clamp x.2)) ps)[p.index] = ps[p.index] := by
  induction l with
  | nil => exact fun _ _ => rfl
  | cons x l ih =>
    intro ps other
    have apart : x.1.index.val ≠ p.index.val := fun same =>
      other x List.mem_cons_self (Param.index_injective (Fin.ext same))
    rw [List.foldl_cons, ih _ fun y member => other y (List.mem_cons_of_mem _ member)]
    simp [Fin.getElem_fin, Vector.getElem_set_ne _ _ apart]

theorem storeAll_carried (l : List (Param × Nat)) : ∀ (ps : Params), (p, v) ∈ l → (∀ u, (p, u) ∈ l → u = v) →
    (l.foldl (fun ps x => ps.set x.1.index (x.1.clamp x.2)) ps)[p.index] = p.clamp v := by
  induction l with
  | nil => simp
  | cons x l ih =>
    intro ps member unique
    rw [List.foldl_cons]
    by_cases later : (p, v) ∈ l
    · exact ih _ later fun u h => unique u (List.mem_cons_of_mem _ h)
    · obtain rfl : (p, v) = x := (List.mem_cons.mp member).resolve_right later
      rw [storeAll_other l _ fun y h same => later ?_]
      · simp
      · obtain ⟨q, u⟩ := y
        obtain rfl : q = p := same
        rwa [← unique u (List.mem_cons_of_mem _ h)]

theorem storeGroup_par_other (h : ∀ x ∈ k.params, x.1 ≠ p) : (storeGroup k old).par p = old.par p :=
  storeAll_other k.params old.params h

theorem storeGroup_par_carried (member : (p, v) ∈ k.params) (unique : ∀ u, (p, u) ∈ k.params → u = v) :
    (storeGroup k old).par p = p.clamp v :=
  storeAll_carried k.params old.params member unique

/-! ## The tests of R21 -/

theorem differs_iff {α : Type} [DecidableEq α] (carried : Option α) (held : α) :
    differs carried held = true ↔ carried.getD held ≠ held := by
  cases carried <;> simp [differs]

theorem structural_iff : k.structural old = true ↔
    k.direction.getD old.direction ≠ old.direction ∨ k.startMode.getD old.startMode ≠ old.startMode ∨
      k.huntMode.getD old.huntMode ≠ old.huntMode ∨ k.glareRule.getD old.glareRule ≠ old.glareRule ∨
      k.distribution.getD old.distribution ≠ old.distribution := by
  simp only [GroupChange.structural, Bool.or_eq_true, differs_iff, or_assoc]

theorem members_ne_nil : s.members g ≠ [] ↔ ∃ c, (s.circuit c).group = some g := by
  rw [ne_eq, List.eq_nil_iff_forall_not_mem]
  simp [mem_members]

section Order

variable {q : Port} {ws : List Word}

theorem orderConfigureGroup_badGroup (h : 7 < field (wordAt ws 1) 3 0) :
    orderConfigureGroup q ws s = refuse .badGroup s := by
  simp [orderConfigureGroup, eightOf_none.mpr h]

variable (hg : field (wordAt ws 1) 3 0 = g.val)
include hg

theorem orderConfigureGroup_badValue (h : PairsBad ws) : orderConfigureGroup q ws s = refuse .badValue s := by
  simp [orderConfigureGroup, eightOf_some.mpr hg, carryPairs_refuses h]

variable (pairs : carryPairs (ws.drop 2) GroupChange.empty = some k)
include pairs

theorem orderConfigureGroup_busy
    (h : (k.structural (s.group g) = true ∧ ¬ quietGroup g s = true) ∨ (k.direction = some .none ∧ s.members g ≠ [])) :
    orderConfigureGroup q ws s = refuse .groupBusy s := by
  simp only [orderConfigureGroup, eightOf_some.mpr hg, pairs]
  split
  · rfl
  · next still =>
    obtain busy | unmakes := h
    · exact absurd (by simpa using busy) still
    · rw [if_pos unmakes]

theorem orderConfigureGroup_acts (still : ¬ (k.structural (s.group g) = true ∧ ¬ quietGroup g s = true))
    (keeps : ¬ (k.direction = some .none ∧ s.members g ≠ [])) :
    orderConfigureGroup q ws s = (configureGroup g k s, oneWord (if k.clamps then .okClamped else .ok)) := by
  simp only [orderConfigureGroup, eightOf_some.mpr hg, pairs]
  rw [if_neg (by simpa using still), if_neg keeps]

end Order

/-! ## The group's reference (R130, R131) -/

/-- What a CONFIGURE GROUP makes of the reference of a group that was `old` and is `r`. -/
def ReferenceConfigured (old r : Group) : Prop :=
  r.reference.ref = old.reference.ref ∧ r.reference.locked = old.reference.locked ∧
    r.reference.inRun = old.reference.inRun ∧ r.reference.outRun = old.reference.outRun ∧
    (old.par .override = 1 → r.par .override = 0 →
      (r.reference.tBm, r.reference.tId) = thresholdsOf r ∧ r.reference.sinceApply = 0) ∧
    (¬ (old.par .override = 1 ∧ r.par .override = 0) → r.reference.sinceApply = old.reference.sinceApply) ∧
    (r.par .override = 1 →
      old.par .override = 0 ∨ old.par .ovrBm ≠ r.par .ovrBm ∨ old.par .ovrId ≠ r.par .ovrId →
      r.reference.tBm = r.par .ovrBm ∧ r.reference.tId = r.par .ovrId) ∧
    ((old.par .override = 0 ∧ r.par .override = 0) ∨
        (old.par .override = 1 ∧ r.par .override = 1 ∧ old.par .ovrBm = r.par .ovrBm ∧
          old.par .ovrId = r.par .ovrId) →
      r.reference = old.reference)

/-- A group's parameters do not turn on its reference. -/
theorem Group.par_reference (k : Group) (r : Reference) (p : Param) : ({ k with reference := r } : Group).par p = k.par p :=
  rfl

/-- Override turned off makes an apply (R131). -/
theorem referenceConfigured_apply {k : Group} (same : k.reference = old.reference) (was : old.par .override = 1)
    (is : k.par .override = 0) : ReferenceConfigured old { k with reference := k.applied } := by
  have computed : k.applied =
      { old.reference with sinceApply := 0, tBm := (thresholdsOf k).1, tId := (thresholdsOf k).2 } := by
    rw [Group.applied_eq, if_pos is, same]
  rw [computed]
  simp only [ReferenceConfigured, Group.par_reference, was, is]
  refine ⟨trivial, trivial, trivial, trivial, fun _ _ => ⟨?_, trivial⟩, by simp, by simp, by simp⟩
  simp only [thresholdsOf, Group.par_reference, same]

/-- Override on, turned on or with its values changed, takes its values (R130). -/
theorem referenceConfigured_override {k : Group} (same : k.reference = old.reference) (is : k.par .override = 1)
    (changes : old.par .override = 0 ∨ old.par .ovrId ≠ k.par .ovrId ∨ old.par .ovrBm ≠ k.par .ovrBm) :
    ReferenceConfigured old
      { k with reference := { k.reference with tBm := k.par .ovrBm, tId := k.par .ovrId } } := by
  simp only [ReferenceConfigured, Group.par_reference, same, is]
  refine ⟨trivial, trivial, trivial, trivial, by simp, fun _ => trivial, fun _ _ => ⟨trivial, trivial⟩, fun keeps => ?_⟩
  omega

/-- Otherwise the reference is left alone. -/
theorem referenceConfigured_same {k : Group} (same : k.reference = old.reference)
    (applies : ¬ (old.par .override = 1 ∧ k.par .override = 0))
    (takes : ¬ (k.par .override = 1 ∧
      (old.par .override = 0 ∨ old.par .ovrId ≠ k.par .ovrId ∨ old.par .ovrBm ≠ k.par .ovrBm))) :
    ReferenceConfigured old k := by
  simp only [ReferenceConfigured, same]
  refine ⟨trivial, trivial, trivial, trivial, fun was is => absurd ⟨was, is⟩ applies, fun _ => trivial,
    fun is changes => absurd ⟨is, ?_⟩ takes, fun _ => trivial⟩
  omega

/-- A CONFIGURE GROUP's reference, and the ports, which take applied where a threshold changed. -/
theorem configureReference_spec (g : Fin 8) (old : Group) (s : State) (same : (s.group g).reference = old.reference) :
    ∃ r : Reference, ReferenceConfigured old { s.group g with reference := r } ∧
      (configureReference g old s).group g = { s.group g with reference := r } ∧
      ∀ p, (configureReference g old s).port p =
        if old.reference.tBm = r.tBm ∧ old.reference.tId = r.tId then s.port p
        else (s.port p).withEvent (.group g) .applied := by
  unfold configureReference
  simp only
  split
  · next applies =>
    refine ⟨_, referenceConfigured_apply same applies.1 applies.2, State.setThresholds_group _ _ _, fun p => ?_⟩
    rw [← same]
    exact setThresholds_port g _ s p
  · next applies =>
    split
    · next takes =>
      refine ⟨_, referenceConfigured_override same takes.1 takes.2, State.setThresholds_group _ _ _, fun p => ?_⟩
      rw [← same]
      exact setThresholds_port g _ s p
    · next takes =>
      exact ⟨(s.group g).reference, referenceConfigured_same same applies takes, rfl, fun p => by rw [same]; simp⟩

end Fields

end Sys2Proof.Machine

/-! PROOFS. CONFIGURE GROUP carried out (R21, R22, R114, R130, R131). -/

namespace Sys2Proof.Machine

section Configures

variable {g : Fin 8} {k : GroupChange} {s t : State} {c : Fin 96} {u : Fin 16} {old r : Group}

/-! ## Its three effects beside the stored fields -/

/-- Whether a group that was `old` and is `r` has turned from outgoing calls to incoming ones (R22). -/
def TurnsIncoming (old r : Group) : Prop :=
  old.direction = .outgoing ∧ (r.direction = .incoming ∨ r.direction = .bothway)

/-- Whether the values that a parked sender would resume with have changed (R114). -/
def Unparks (old r : Group) : Prop :=
  old.par .brkSend ≠ r.par .brkSend ∨ old.par .mkSend ≠ r.par .mkSend ∨ old.par .idSend ≠ r.par .idSend

theorem incomingCapable_iff (d : Direction) : d.incomingCapable = true ↔ d = .incoming ∨ d = .bothway := by
  cases d <;> simp [Direction.incomingCapable]

/-- The senders parked on the group's circuits are detached if their values changed. -/
theorem unparkGroup_freed (h : PoolSound s) (g : Fin 8) (old : Group) :
    ∃ l, (∀ u, u ∈ l ↔ Unparks old (s.group g) ∧ u ∈ s.parkedSenders g) ∧ Freed l s (unparkGroup g old s) := by
  unfold unparkGroup
  simp only
  split
  · next changed =>
    refine ⟨_, fun u => (and_iff_right changed).symm, freed_parkedSenders h.parkedOnce (fun parked => ?_) g⟩
    by_contra waits
    refine parked (h.noneFree fun none_ => waits ?_).2
    exact List.append_eq_nil_iff.mp none_
  · next same => exact ⟨[], fun u => by simp [Unparks, same], .refl s⟩

/-- The IDLE members whose lead is ON are taken if the group turned. -/
theorem turnIncoming_turned (s : State) (g : Fin 8) (old : Group) :
    ∃ l, (∀ c, c ∈ l ↔ TurnsIncoming old (s.group g) ∧ c ∈ s.turning g) ∧ Turned g l s (turnIncoming g old s) := by
  have turns : TurnsIncoming old (s.group g) ↔ old.direction = .outgoing ∧ (s.group g).direction.incomingCapable = true := by
    rw [incomingCapable_iff, TurnsIncoming]
  unfold turnIncoming
  split
  · next turned => exact ⟨_, fun c => (and_iff_right (turns.mpr turned)).symm, turned_turning s g⟩
  · next same => exact ⟨[], fun c => by simp [turns, same], .refl g s⟩

/-- Everything that a CONFIGURE GROUP carried out comes to: the detached senders, the circuits taken, and the group. -/
structure Configured (g : Fin 8) (k : GroupChange) (s t : State) (freed : List (Fin 16)) (taken : List (Fin 96))
    (ref : Reference) : Prop where
  mem_freed : ∀ u, u ∈ freed ↔ Unparks (s.group g) (storeGroup k (s.group g)) ∧ u ∈ s.parked ∧
    ∃ c, (s.unit u).circuit = some c ∧ (s.circuit c).group = some g
  mem_taken : ∀ c, c ∈ taken ↔ TurnsIncoming (s.group g) (storeGroup k (s.group g)) ∧ (s.circuit c).group = some g ∧
    (s.circuit c).state = .idle ∧ (s.filter c).recCond = .on
  group : t.group g =
    { storeGroup k (s.group g) with reference := ref, idle := (s.group g).idle.filter fun c => c ∉ taken }
  reference : ReferenceConfigured (s.group g) { storeGroup k (s.group g) with reference := ref }
  port : ∀ p, t.port p =
    if (s.group g).reference.tBm = ref.tBm ∧ (s.group g).reference.tId = ref.tId then s.port p
    else (s.port p).withEvent (.group g) .applied
  preseizes : ∀ c ∈ taken, Preseizes (t.group g) c s t ∧ (t.circuit c).owner = (s.circuit c).owner
  circuit : ∀ c, c ∉ taken → t.circuit c =
    if ∃ u ∈ freed, (s.unit u).circuit = some c then { s.circuit c with unit := none } else s.circuit c
  unit : ∀ u, t.unit u = if u ∈ freed then (s.unit u).freed else s.unit u
  parked : t.parked = s.parked.filter fun u => u ∉ freed
  regQueue : t.regQueue = s.regQueue
  sndQueue : t.sndQueue = s.sndQueue
  groups : GroupsKept [g] s t
  lines : LinesKept s t

theorem configureGroup_configured (h : PoolSound s) (g : Fin 8) (k : GroupChange) :
    ∃ freed taken ref, Configured g k s (configureGroup g k s) freed taken ref := by
  unfold configureGroup
  simp only
  have sound : PoolSound (s.modGroup g (storeGroup k)) := h.modGroup rfl
  have group1 : (s.modGroup g (storeGroup k)).group g = storeGroup k (s.group g) := State.modGroup_group_self s g _
  have groups1 : GroupsKept [g] s (s.modGroup g (storeGroup k)) := fun x apart =>
    State.modGroup_group_ne s g _ (by simpa using apart)
  have ports1 : PortsKept s (s.modGroup g (storeGroup k)) := ⟨rfl, rfl⟩
  -- the parked senders
  obtain ⟨freed, mem_freed, unparked⟩ := unparkGroup_freed sound g (s.group g)
  generalize unparkGroup g (s.group g) (s.modGroup g (storeGroup k)) = s2 at unparked ⊢
  have group2 : s2.group g = storeGroup k (s.group g) := by rw [State.group, unparked.groups]; exact group1
  have circuit2 : ∀ c, s2.circuit c =
      if ∃ u ∈ freed, (s.unit u).circuit = some c then { s.circuit c with unit := none } else s.circuit c :=
    unparked.circuit
  have member2 : ∀ c, (s2.circuit c).group = (s.circuit c).group ∧ (s2.circuit c).state = (s.circuit c).state ∧
      (s2.circuit c).owner = (s.circuit c).owner := fun c => by
    rw [circuit2]
    split <;> exact ⟨rfl, rfl, rfl⟩
  -- the reference
  obtain ⟨groups3, -, circuits3, pool3, lines3, -⟩ := configureReference_frame g (s.group g) s2
  obtain ⟨ref, reference, group3, port3⟩ := configureReference_spec g (s.group g) s2 (by rw [group2]; rfl)
  generalize configureReference g (s.group g) s2 = s3 at groups3 circuits3 pool3 lines3 group3 port3 ⊢
  rw [group2] at reference group3
  have circuit3 : ∀ c, s3.circuit c = s2.circuit c := fun c => by rw [State.circuit, circuits3, State.circuit]
  obtain ⟨-, time3, filters3, -⟩ := unparked.lines.trans lines3
  -- the circuits taken
  obtain ⟨taken, mem_taken, turned⟩ := turnIncoming_turned s3 g (s.group g)
  generalize turnIncoming g (s.group g) s3 = t at turned ⊢
  obtain ⟨units3, regQueue3, sndQueue3, parked3⟩ := pool3.trans turned.pool
  have group4 : t.group g =
      { storeGroup k (s.group g) with reference := ref, idle := (s.group g).idle.filter fun c => c ∉ taken } := by
    rw [turned.group, group3]
    rfl
  refine ⟨freed, taken, ref, fun u => ?_, fun c => ?_, group4, reference, fun p => ?_, fun c member => ?_,
    fun c apart => ?_, fun u => ?_, parked3.trans unparked.parked, regQueue3.trans unparked.regQueue,
    sndQueue3.trans unparked.sndQueue, ?_, (unparked.lines.trans lines3).trans turned.lines⟩
  · rw [mem_freed, mem_parkedSenders, group1]
    rfl
  · obtain ⟨group, state, -⟩ := member2 c
    rw [mem_taken, mem_turning, group3, circuit3, group, state, State.filter, filters3]
    rfl
  · rw [turned.ports.port, port3, (ports1.trans unparked.ports).port]
  · obtain ⟨preseizes, owner⟩ := turned.taken c member
    obtain ⟨-, -, owner2⟩ := member2 c
    rw [circuit3, owner2] at owner
    refine ⟨?_, owner⟩
    rw [group3] at preseizes
    rw [group4]
    exact preseizes.congr rfl time3.symm
  · rw [turned.circuits c apart, circuit3, circuit2]
  · rw [State.unit, units3]
    exact unparked.unit u
  · exact fun x apart => ((turned.groups x apart).trans (groups3 x apart)).trans
      ((show s2.group x = _ by rw [State.group, unparked.groups]; rfl).trans (groups1 x apart))

/-! ## What is said of the order (R21, R22) -/

variable {freed : List (Fin 16)} {taken : List (Fin 96)} {ref : Reference}

/-- The fields that are stored. -/
theorem Configured.fields (h : Configured g k s t freed taken ref) (sound : PoolSound s)
    (unique : ∀ p v u, (p, v) ∈ k.params → (p, u) ∈ k.params → v = u) :
    let old := s.group g
    let r := t.group g
    r.direction = k.direction.getD old.direction ∧ r.startMode = k.startMode.getD old.startMode ∧
      r.huntMode = k.huntMode.getD old.huntMode ∧ r.glareRule = k.glareRule.getD old.glareRule ∧
      r.distribution = k.distribution.getD old.distribution ∧
      r.nextPort = (if k.distribution.isSome then .A else old.nextPort) ∧
      (∀ x ∈ k.params, r.par x.1 = x.1.clamp x.2) ∧
      (∀ p : Param, (∀ x ∈ k.params, x.1 ≠ p) → r.par p = old.par p) ∧ r.queue = old.queue ∧
      (TurnsIncoming old r → r.idle = old.idle.filter fun c => (s.filter c).recCond = .off) ∧
      (¬ TurnsIncoming old r → r.idle = old.idle) := by
  simp only
  have turns : TurnsIncoming (s.group g) (t.group g) ↔ TurnsIncoming (s.group g) (storeGroup k (s.group g)) := by
    rw [h.group]; rfl
  have idle : (t.group g).idle = (s.group g).idle.filter fun c => c ∉ taken := by rw [h.group]
  rw [turns]
  refine ⟨by rw [h.group]; rfl, by rw [h.group]; rfl, by rw [h.group]; rfl, by rw [h.group]; rfl, by rw [h.group]; rfl,
    by rw [h.group]; rfl, fun x member => ?_, fun p other => ?_, by rw [h.group]; rfl, fun turned => ?_, fun stays => ?_⟩
  · rw [h.group]
    exact storeGroup_par_carried member fun u again => unique _ _ _ again member
  · rw [h.group]
    exact storeGroup_par_other other
  · rw [idle]
    refine List.filter_congr fun c member => ?_
    obtain ⟨state, group⟩ := (sound.idleLists g c).mp member
    have on : c ∈ taken ↔ (s.filter c).recCond = .on := by
      rw [h.mem_taken]
      exact ⟨fun m => m.2.2.2, fun lead => ⟨turned, group, state, lead⟩⟩
    rw [decide_eq_decide, on]
    cases (s.filter c).recCond <;> simp
  · rw [idle]
    exact List.filter_eq_self.mpr fun c _ => by simp [h.mem_taken, stays]

/-- A circuit of a detached sender is not one that is taken. -/
theorem Configured.apart (h : Configured g k s t freed taken ref) (sound : PoolSound s) (member : u ∈ freed)
    (serves : (s.unit u).circuit = some c) : c ∉ taken := by
  intro again
  obtain ⟨-, parked, -⟩ := (h.mem_freed u).mp member
  obtain ⟨-, -, idle, -⟩ := (h.mem_taken c).mp again
  have sender : (s.unit u).state = .sender .parked := (sound.parkedList u).mp parked
  have calls := sound.senders u c (by rw [sender]; rfl) serves
  simp [idle] at calls

theorem GroupChange.clamps_iff (k : GroupChange) : k.clamps = true ↔ ∃ x ∈ k.params, x.1.clamp x.2 ≠ x.2 := by
  simp [GroupChange.clamps]

end Configures

/-- Settles O39: the tests are those of the pairs and of the members; what passes them is carried out in the state the order
starts from. -/
theorem configureGroupStoresItsFields : Obligations.ConfigureGroupStoresItsFields := by
  unfold Obligations.ConfigureGroupStoresItsFields
  intro w ws s sound ready
  obtain ⟨circuits, -, pool, lines, -⟩ := orderStart_frame s w
  obtain ⟨time, circuit, group, unit, filter⟩ := orderStart_records s w
  obtain ⟨-, regQueue, sndQueue, parked⟩ := pool
  refine ⟨fun high => refuses_of_body ready (orderConfigureGroup_badGroup (q := w.port) high), fun g hg =>
    ⟨fun bad => refuses_of_body ready (orderConfigureGroup_badValue (q := w.port) hg bad), fun good => ?_⟩⟩
  obtain ⟨k, pairs, carried, once⟩ := carryPairs_carries good
  refine ⟨k, carried.carries, ?_⟩
  intro old changed still unmakes
  have members : ((orderStart w s).members g ≠ []) ↔ ∃ c, (s.circuit c).group = some g := by
    rw [members_ne_nil]
    simp only [circuit]
  have busy : (k.structural ((orderStart w s).group g) = true ∧ ¬ quietGroup g (orderStart w s) = true) ↔
      changed ∧ ¬ still := by
    rw [structural_iff, quietGroup_iff, group]
    simp only [circuit]
    rfl
  have gone : (k.direction = some .none ∧ (orderStart w s).members g ≠ []) ↔ unmakes := by rw [members]
  refine ⟨fun refused => refuses_of_body ready (orderConfigureGroup_busy (q := w.port) hg pairs ?_), fun passes keeps => ?_⟩
  · rw [busy, gone]
    exact refused
  obtain ⟨freedUnits, takenCircuits, ref, h⟩ := configureGroup_configured (sound.orderStart w) g k
  have answers := answers_block_of_body ready
    (orderConfigureGroup_acts (q := w.port) hg pairs (by rwa [busy]) (by rwa [gone]))
  rw [apply_ite oneWord, if_congr k.clamps_iff rfl rfl, ← apply_ite oneWord] at answers
  refine ⟨_, answers, ?_⟩
  intro r turned unparks taken freed
  have own : r = { storeGroup k old with reference := ref, idle := old.idle.filter fun c => c ∉ takenCircuits } := by
    simpa only [group] using h.group
  have turns : turned ↔ TurnsIncoming old (storeGroup k old) := by
    change TurnsIncoming old r ↔ _
    rw [own]
    rfl
  have unparks_iff : unparks ↔ Unparks old (storeGroup k old) := by
    change Unparks old r ↔ _
    rw [own]
    rfl
  have mem_taken : ∀ c, c ∈ takenCircuits ↔ taken c := fun c => by
    rw [h.mem_taken, group, circuit, filter, ← turns]
  have mem_freed : ∀ u, u ∈ freedUnits ↔ ∃ c, freed u c := fun u => by
    rw [h.mem_freed, group, unit, parked, ← unparks_iff]
    simp only [freed, circuit, exists_and_left]
  have thresholds : r.reference = ref := by rw [own]
  refine ⟨?_, ?_, fun bm id => ?_, fun changes p => ?_, fun c => ⟨fun is => ?_, fun u is => ?_, fun no none_ => ?_⟩,
    fun u => ⟨fun c is => ?_, fun none_ => ?_⟩, ?_, h.regQueue.trans regQueue, h.sndQueue.trans sndQueue, ?_,
    lines.trans h.lines⟩
  · have fields := h.fields (sound.orderStart w) fun p v u first second => carried.params_unique once first second
    simp only [group, filter] at fields
    exact fields
  · change ReferenceConfigured old r
    have reference := h.reference
    rw [group] at reference
    rw [own]
    exact reference
  · have same : ((orderStart w s).group g).reference.tBm = ref.tBm ∧ ((orderStart w s).group g).reference.tId = ref.tId := by
      rw [group, ← thresholds]
      exact ⟨bm.symm, id.symm⟩
    exact ⟨(h.port .A).trans (if_pos same), (h.port .B).trans (if_pos same)⟩
  · rw [h.port, if_neg]
    rw [group, ← thresholds]
    rintro ⟨bm, id⟩
    exact changes.elim (· bm.symm) (· id.symm)
  · obtain ⟨preseizes, owner⟩ := h.preseizes c ((mem_taken c).mpr is)
    exact ⟨preseizes.congr rfl time.symm, by rw [owner, circuit]⟩
  · have member := (mem_freed u).mpr ⟨c, is⟩
    obtain ⟨-, -, serves, -⟩ := is
    rw [← unit] at serves
    rw [h.circuit c (h.apart (sound.orderStart w) member serves), if_pos ⟨u, member, serves⟩, circuit]
  · rw [h.circuit c (mt (mem_taken c).mp no), if_neg, circuit]
    rintro ⟨u, member, serves⟩
    obtain ⟨d, is⟩ := (mem_freed u).mp member
    obtain ⟨-, -, serves', -⟩ := id is
    rw [unit, serves'] at serves
    obtain rfl := Option.some.inj serves
    exact none_ u is
  · have member := (mem_freed u).mpr ⟨c, is⟩
    rw [h.unit, if_pos member, unit, h.parked]
    exact ⟨rfl, rfl, rfl, rfl, rfl, by simp [member]⟩
  · have away : u ∉ freedUnits := fun member => by
      obtain ⟨c, is⟩ := (mem_freed u).mp member
      exact none_ c is
    rw [h.unit, if_neg away, unit, h.parked, parked]
    exact ⟨rfl, by simp [away]⟩
  · rw [h.parked, parked]
    exact List.filter_sublist
  · exact fun x apart => (h.groups x apart).trans (group x)

end Sys2Proof.Machine
